-- ==== Sys2Proof/Word.lean ====
section
/-! DEFINITION. The word types: bytes of the line, instants of the yard clock, crest ordinals. -/

namespace Sys2Proof

/-- One byte of a telegram (R148). -/
abbrev Byte := BitVec 8

/-- A reading of the yard clock: milliseconds modulo 2^32 (00_scope, Conventions). -/
abbrev Clock := BitVec 32

/-- A crest ordinal, 0..65535, advancing modulo 65536 (R32, R38). -/
abbrev Ordinal := BitVec 16

end Sys2Proof
end

