-- ==== Sys2Proof/Syntax.lean ====
section
/-! DEFINITION. The commands: one constructor of Instr for every row of spec/opcode_table.json, and the types of their operands. -/

namespace Sys2Proof

/-- The two link ports (R147): Y faces the yard computers, T the trackside. -/
inductive Port where
  | y | t
  deriving DecidableEq, Repr

/-- A leg of a point, and the end a point lies at (00_scope, Sides and ends). -/
inductive Leg where
  | left | right
  deriving DecidableEq, Repr

/-- The direction of an axle crossing (R43). -/
inductive Direction where
  | down | up
  deriving DecidableEq, Repr

/-- The drive condition a point machine reports (R103). -/
inductive Drive where
  | idle | running | noLoad | overload
  deriving DecidableEq, Repr

/-- What a leg of a point leads to: a point or a track (R2). -/
inductive Branch where
  | point (p : Nat)
  | track (t : Nat)
  deriving DecidableEq, Repr

/-- What stands above a point: the lead, or a leg of a parent point (R2). -/
inductive Upstream where
  | lead
  | parent (p : Nat) (leg : Leg)
  deriving DecidableEq, Repr

/-- A point's failure response (R2). -/
inductive FailureResponse where
  | retry | hold
  deriving DecidableEq, Repr

/-- A track's status (R3). -/
inductive TrackStatus where
  | opened | closed
  deriving DecidableEq, Repr

/-- A section identifier: the guard G(p), the link L(p), the link L(t) (R41, R163). -/
inductive SectionId where
  | guard (p : Nat)
  | pointLink (p : Nat)
  | trackLink (t : Nat)
  deriving DecidableEq, Repr

/-- The eighteen report kinds (10.2). -/
inductive ReportKind where
  | cutBound | unlistedCut | trackingOverflow | axleMismatch | cutDropped | cutCornered | cutMisrouted
  | cutRetargeted | cutStalled | cutLost | cutCleared | pointFault | pointUncommandedMove | guardViolation
  | sectionDisturbed | engineState | supervisionLost | linkError
  deriving DecidableEq, Repr

/-- The level of a report kind (R177). -/
inductive Level where
  | off | low | mid | high
  deriving DecidableEq, Repr

/-- The fields of a whole point record as a TABLE_WRITE carries them (R2), unchecked. An Option is none
where the telegram's value names none of the field's choices. -/
structure PointFields where
  upstream : Option Upstream
  left : Option Branch
  right : Option Branch
  guardIn : Nat
  leftOut : Nat
  rightOut : Nat
  guardLength : Nat
  linkLength : Nat
  machine : Nat
  nominal : Nat
  tMin : Nat
  tMax : Nat
  deglitch : Nat
  response : Option FailureResponse
  retryLimit : Nat
  retryDelay : Nat
  deriving DecidableEq, Repr

/-- The register part of a track record as a TABLE_WRITE carries it (R3), unchecked. -/
structure RegisterFields where
  status : Option TrackStatus
  room : Nat
  alternates : List Nat
  deriving DecidableEq, Repr

/-- The fields of a whole track record as a TABLE_WRITE carries them (R3), unchecked. -/
structure TrackFields where
  parent : Nat
  leg : Option Leg
  clearance : Nat
  linkLength : Nat
  register : RegisterFields
  deriving DecidableEq, Repr

/-- The fields of a patch entry as a TABLE_WRITE carries them (R7), unchecked. -/
structure PatchFields where
  enabled : Bool
  destination : Nat
  track : Nat
  uses : Nat
  deriving DecidableEq, Repr

/-- The value of a yard parameter item as a TABLE_WRITE carries it (R5, R168), unchecked: one number, the
group of item 7, the group of item 11, item 13's choice, or item 14's report kind and level. -/
inductive ParameterValue where
  | number (n : Nat)
  | weights (w1 w2 w3 w4 : Nat)
  | thresholds (slow stop : Nat)
  | forwarding (all : Option Bool)
  | level (kind : Option ReportKind) (level : Option Level)
  deriving DecidableEq, Repr

/-- The fields of a cut record but its cut number, as a request carries them (R23), unchecked. -/
structure CutFields where
  destination : Option Nat
  track : Option Nat
  expected : Nat
  noAlternate : Bool
  deriving DecidableEq, Repr

/-- The entry a TABLE_READ addresses (R169). -/
inductive TableEntry where
  | point (p : Nat)
  | track (t : Nat)
  | parameter (item : Nat) (kind : Option ReportKind)
  | route (code count : Nat)
  | patch (index : Nat)
  | unknown
  deriving DecidableEq, Repr

/-- The warm-reset fence set (R170). -/
inductive Fence where
  | any
  | only (stations : List Nat)
  deriving DecidableEq, Repr

/-- The request codes of 9.2, and any other code. -/
inductive RequestCode where
  | statusRead | tableRead | cutListRead | slotRead | sectionRead | pointRead | linkRead | claimControl
  | releaseControl | tableWrite | cutAppend | cutInsertBefore | cutWithdraw | cutAmend | cutListClear | slotDrop
  | sectionRestore | restoreAll | pointHold | pointRelease | pointSet | pointClearFault | pointClearRetries
  | start | stopEngine | halt | resume | service | fenceWrite | warmReset
  | other (code : Byte)
  deriving DecidableEq, Repr

/-- Which request a request command carries out: the oldest own request waiting in the receive buffers of
a port (R152), and the tag its payload holds (R162). Its source address is that of the waiting telegram. -/
structure Req where
  port : Port
  tag : Byte
  deriving DecidableEq, Repr

/-- The commands, one constructor per row of spec/opcode_table.json, in its order. A request command's
operands are the fields its payload names; the byte layout of a request is not in the spec (R148). -/
inductive Instr where
  | deviceReset (straps : Byte)
  | telegramReceived (port : Port) (beganFull : Bool) (frame : List Byte)
  | passTelegramMove (port : Port)
  | unknownRequest (q : Req) (code : RequestCode)
  | statusRead (q : Req) (part : Nat)
  | tableRead (q : Req) (entry : TableEntry) (part : Nat)
  | cutListRead (q : Req) (first : Nat)
  | slotRead (q : Req) (slot part first : Nat)
  | sectionRead (q : Req) (sec : Option SectionId) (part : Nat)
  | pointRead (q : Req) (point part first : Nat)
  | linkRead (q : Req) (part first : Nat)
  | claimControl (q : Req)
  | releaseControl (q : Req)
  | tableWritePoint (q : Req) (index : Nat) (fields : PointFields)
  | tableWritePointRemove (q : Req) (index : Nat)
  | tableWriteTrack (q : Req) (index : Nat) (fields : TrackFields)
  | tableWriteTrackRegister (q : Req) (index : Nat) (fields : RegisterFields)
  | tableWriteTrackRemove (q : Req) (index : Nat)
  | tableWriteParameter (q : Req) (index : Nat) (value : ParameterValue)
  | tableWriteRoute (q : Req) (index value : Nat)
  | tableWritePatch (q : Req) (index : Nat) (fields : PatchFields)
  | cutAppend (q : Req) (number : Nat) (fields : CutFields)
  | cutInsertBefore (q : Req) (reference number : Nat) (fields : CutFields)
  | cutWithdraw (q : Req) (number : Nat)
  | cutAmend (q : Req) (number : Nat) (fields : CutFields)
  | cutListClear (q : Req)
  | slotDrop (q : Req) (slot : Nat)
  | sectionRestore (q : Req) (sec : Option SectionId)
  | restoreAll (q : Req)
  | pointHold (q : Req) (point : Nat)
  | pointRelease (q : Req) (point : Nat)
  | pointSet (q : Req) (point : Nat) (leg : Option Leg)
  | pointClearFault (q : Req) (point : Nat)
  | pointClearRetries (q : Req) (point : Nat)
  | start (q : Req)
  | stopEngine (q : Req)
  | halt (q : Req)
  | resume (q : Req)
  | service (q : Req) (phase : Nat)
  | fenceWrite (q : Req) (fence : Option Fence)
  | warmReset (q : Req)
  | endOfTransmission (port : Port)
  | gapTimerExpiry
  | stallDeadlineExpiry (slot : Nat)
  | supervisionTimerExpiry (point : Nat)
  | retryTimerExpiry (point : Nat)
  | deglitchTimerExpiry (point : Nat)
  | refreshTimerExpiry
  | controllerSupervisionExpiry
  deriving DecidableEq, Repr

end Sys2Proof
end

