-- ==== Sys2Proof/Config.lean ====
section
/-! DEFINITION. What the spec leaves to the part: the free values (opaque, so that no proof can see them) and the sizes the spec fixes. -/

namespace Sys2Proof.Config

/-- The throw start time a point runtime record shows while R102 says that it has no meaning: after a
warm reset, a point record write or a removal. Read by a counter of State, so every such moment has a
value of its own (log entry 5). -/
opaque meaninglessInstant : Nat → Clock

/-- The learned throw time used where R74 says that it is undefined. No run uses it: a point that is
thrown has a record, and then a learned throw time (log entry 6). -/
opaque undefinedThrowTime : Nat → Nat

/-- Whether a frame is arriving on a port, in a receive buffer of its own, at the moment of a LINK_READ. A frame's begin is no
command, so the state does not show it. Read by a counter of State, so every such moment has a value of its own
(R149, R161; log entry 8). -/
opaque frameArriving : Nat → Bool

/-- How many entries of a claim list one POINT_READ response holds (R166: "as many … as one response
holds"; the byte layout of a response is not in the spec; log entry 7). -/
opaque pointEntriesHeld : Nat → Nat

/-- How many entries one SLOT_READ part 2 response holds (R166; log entry 7). -/
opaque slotEntriesHeld : Nat → Nat

/-- How many command queue entries one LINK_READ part 1 response holds (R166; log entry 7). -/
opaque linkEntriesHeld : Nat → Nat

/-- Receive buffers of a port (R149). -/
def receiveBuffers : Nat := 8
/-- Telegrams a pass queue holds (R153). -/
def passQueueRoom : Nat := 16
/-- Responses the response queue holds (R156). -/
def responseRoom : Nat := 4
/-- Records the report queue holds (R178). -/
def reportRoom : Nat := 32
/-- Records the cut list holds (R24). -/
def cutListRoom : Nat := 32
/-- Runs a section list holds (R41). -/
def runRoom : Nat := 8
/-- The most axles one run, one cut or one slot counts (R36, R41, R77). -/
def axleCap : Nat := 127
/-- The horizon: the largest relative arrival time and the largest stall interval (R70, R76). -/
def horizon : Nat := 65535
/-- The bound at which the link interface's counts and the discard count saturate (R150, R180). -/
def countCap : Nat := 65535
/-- The bound of a credit counter (R154). -/
def creditCap : Nat := 15
/-- The fairness count at which passed traffic is due (R159). -/
def fairnessCap : Nat := 4
/-- The most points on a track's path (R10 step 6). -/
def pathCap : Nat := 12

end Sys2Proof.Config
end

