-- ==== Sys2Proof/Decode.lean ====
section
/-! DEFINITION. The word decoder the host asks for (no row of the table gives bits), and the telegram format of the field link: building a telegram's bytes and reading them back (R148, R149). -/

namespace Sys2Proof

/-- No row of spec/opcode_table.json gives bits, so no word spells a command. -/
def decodeTableWord (_nbits _w : Nat) : Option Instr := none

/-- One bit of the check of R148: polynomial 1021h, most significant bit first. -/
def crcBit (crc : BitVec 16) : BitVec 16 :=
  if crc.msb then (crc <<< 1) ^^^ 0x1021#16 else crc <<< 1

/-- One byte of the check of R148. -/
def crcByte (crc : BitVec 16) (b : Byte) : BitVec 16 :=
  crcBit (crcBit (crcBit (crcBit (crcBit (crcBit (crcBit (crcBit (crc ^^^ (b.setWidth 16 <<< 8)))))))))

/-- The check of R148: CRC-16, polynomial 1021h, initial value FFFFh, the result not inverted. -/
def crc16 (bytes : List Byte) : BitVec 16 := bytes.foldl crcByte 0xFFFF#16

/-- The check's two bytes, high byte first (R148). -/
def checkBytes (bytes : List Byte) : List Byte :=
  [(crc16 bytes >>> 8).setWidth 8, (crc16 bytes).setWidth 8]

/-- A telegram but its credits field and its check, which each hop sets anew (R153). -/
structure Telegram where
  dest : Byte
  src : Byte
  kind : Byte
  payload : List Byte
  deriving DecidableEq, Repr

/-- The kind bytes of R148. -/
def kindFill : Byte := 0x10#8
@[inherit_doc kindFill] def kindAxle : Byte := 0x21#8
@[inherit_doc kindFill] def kindPointStatus : Byte := 0x22#8
@[inherit_doc kindFill] def kindThrow : Byte := 0x31#8
@[inherit_doc kindFill] def kindSignalDemand : Byte := 0x32#8
@[inherit_doc kindFill] def kindRequest : Byte := 0x41#8
@[inherit_doc kindFill] def kindResponse : Byte := 0x42#8
@[inherit_doc kindFill] def kindReport : Byte := 0x43#8

/-- The broadcast destination (R148). -/
def broadcast : Byte := 255#8

/-- Bytes 0 to 4+n of a telegram with its credits field (R148). -/
def Telegram.body (m : Telegram) (credits : Nat) : List Byte :=
  m.dest :: m.src :: m.kind :: BitVec.ofNat 8 (credits * 16) :: BitVec.ofNat 8 m.payload.length :: m.payload

/-- The bytes of a telegram on the line (R148). -/
def Telegram.encode (m : Telegram) (credits : Nat) : List Byte :=
  m.body credits ++ checkBytes (m.body credits)

/-- The error classes of R149. -/
inductive ErrorClass where
  | overrun | length | check | format
  deriving DecidableEq, Repr

/-- R149 check 1: byte 4 is at most 32 and the frame holds 7 plus byte 4 bytes. -/
def frameLengthOk : List Byte → Bool
  | d :: s :: k :: c :: n :: rest =>
    decide (n.toNat ≤ 32) && decide ((d :: s :: k :: c :: n :: rest).length = 7 + n.toNat)
  | _ => false

/-- R149 check 2: the check over the received bytes is the check received. -/
def frameCheckOk (frame : List Byte) : Bool :=
  decide (frame.drop (frame.length - 2) = checkBytes (frame.take (frame.length - 2)))

/-- A telegram read from a frame: its fields, the credits returned and the low four bits of byte 3. -/
structure Received where
  telegram : Telegram
  credits : Nat
  low : Nat
  deriving DecidableEq, Repr

/-- The fields of a frame whose length is right (R148). -/
def frameFields : List Byte → Option Received
  | d :: s :: k :: c :: n :: rest =>
    some ⟨⟨d, s, k, rest.take n.toNat⟩, c.toNat / 16, c.toNat % 16⟩
  | _ => none

/-- The payload of an AXLE (R148): detector, direction and age; none where it lies outside the table. -/
def parseAxle : List Byte → Option (Nat × Direction × Nat)
  | [d, dir, age] =>
    if d.toNat = 0 ∨ d.toNat = 255 then none
    else if dir = 1#8 then some (d.toNat, .down, age.toNat)
    else if dir = 2#8 then some (d.toNat, .up, age.toNat)
    else none
  | _ => none

/-- The payload bytes of an AXLE (R148). -/
def axlePayload (detector : Nat) (dir : Direction) (age : Nat) : List Byte :=
  [BitVec.ofNat 8 detector, (match dir with | .down => 1#8 | .up => 2#8), BitVec.ofNat 8 age]

/-- A detected end byte of a POINT_STATUS (R148). -/
def parseEnd (b : Byte) : Option (Option Leg) :=
  if b = 0#8 then some none else if b = 1#8 then some (some .left)
  else if b = 2#8 then some (some .right) else none

/-- A drive byte of a POINT_STATUS (R148). -/
def parseDrive (b : Byte) : Option Drive :=
  if b = 0#8 then some .idle else if b = 1#8 then some .running
  else if b = 2#8 then some .noLoad else if b = 3#8 then some .overload else none

/-- The payload of a POINT_STATUS (R148); none where it lies outside the table. -/
def parsePointStatus : List Byte → Option (Nat × Option Leg × Drive)
  | [p, e, d] =>
    if p.toNat = 0 ∨ 63 < p.toNat then none
    else match parseEnd e, parseDrive d with
      | some detected, some drive => some (p.toNat, detected, drive)
      | _, _ => none
  | _ => none

/-- The end byte of a THROW or a POINT_STATUS (R148). -/
def legByte : Leg → Byte
  | .left => 1#8
  | .right => 2#8

/-- The payload bytes of a POINT_STATUS (R148). -/
def pointStatusPayload (p : Nat) (detected : Option Leg) (drive : Drive) : List Byte :=
  [BitVec.ofNat 8 p, (match detected with | none => 0#8 | some e => legByte e),
    (match drive with | .idle => 0#8 | .running => 1#8 | .noLoad => 2#8 | .overload => 3#8)]

/-- The broadcasts of R149 check 4 and R151: an AXLE or POINT_STATUS to 255 that arrives on Port T. -/
def Telegram.isTracksideBroadcast (m : Telegram) (port : Port) : Bool :=
  decide (port = .t) && decide (m.dest = broadcast)
    && (decide (m.kind = kindAxle) || decide (m.kind = kindPointStatus))

/-- R149 checks 3 and 4 on the fields of a frame. -/
def formatOk (port : Port) (r : Received) : Bool :=
  decide (r.low = 0)
    && (decide (r.telegram.kind = kindFill)
      || (decide (r.telegram.dest ≠ 0#8) && decide (r.telegram.src ≠ 0#8) && decide (r.telegram.src ≠ 255#8)))
    && (!r.telegram.isTracksideBroadcast port
      || (if r.telegram.kind = kindAxle then (parseAxle r.telegram.payload).isSome
          else (parsePointStatus r.telegram.payload).isSome))

/-- The checks of R149 on a frame that has a receive buffer, in their order: the telegram read, or the
error class of the first check that fails. -/
def readFrame (port : Port) (frame : List Byte) : Except ErrorClass Received :=
  if !frameLengthOk frame then .error .length
  else if !frameCheckOk frame then .error .check
  else match frameFields frame with
    | none => .error .length
    | some r => if formatOk port r then .ok r else .error .format

end Sys2Proof
end

