-- ==== Sys2Proof/Machine/State.lean ====
section
/-! DEFINITION. The state of the part as plain data, grouped by the block that owns it (00_scope, the twelve blocks), the outcomes' reasons, and the state after a device reset. -/

namespace Sys2Proof.Machine

/-! ### Yard tables -/

/-- A point record that passed the checks of R2. -/
structure PointRecord where
  upstream : Upstream
  left : Branch
  right : Branch
  guardIn : Nat
  leftOut : Nat
  rightOut : Nat
  guardLength : Nat
  linkLength : Nat
  machine : Nat
  nominal : Nat
  tMin : Nat
  tMax : Nat
  deglitch : Nat
  response : FailureResponse
  retryLimit : Nat
  retryDelay : Nat
  deriving DecidableEq, Repr

/-- A track record with its register part (R3). The reserved count is no field: it is the sum of the
slots' reservations (R13). -/
structure TrackRecord where
  parent : Nat
  leg : Leg
  clearance : Nat
  linkLength : Nat
  status : TrackStatus
  room : Nat
  alternates : List Nat
  deriving DecidableEq, Repr

/-- The fourteen yard parameters (R5); 0 in the first three is "not set". -/
structure Params where
  leadDetector : Nat
  rejectTrack : Nat
  signalStation : Nat
  supervisionPeriod : Nat
  separation : Nat
  entrySpeed : Nat
  w1 : Nat
  w2 : Nat
  w3 : Nat
  w4 : Nat
  margin : Nat
  allowance : Nat
  stallAllowance : Nat
  slow : Nat
  stop : Nat
  refresh : Nat
  forwardAll : Bool
  levels : Vector Level 18
  deriving DecidableEq, Repr

/-- A patch table entry (R7). -/
structure Patch where
  enabled : Bool
  destination : Nat
  track : Nat
  uses : Nat
  deriving DecidableEq, Repr

/-- The role of a counter in the ladder (R11). A slot's head counter is named by its role too. -/
inductive Counter where
  | lead
  | guardIn (p : Nat)
  | guardOut (p : Nat) (leg : Leg)
  | clearance (t : Nat)
  deriving DecidableEq, Repr

/-- Where an axle is between two counters: outside the yard, in a section, or in a track (R11). -/
inductive Place where
  | outside
  | sec (id : SectionId)
  | track (t : Nat)
  deriving DecidableEq, Repr

/-- An entry of the detector map: the role, and the places a DOWN crossing joins (R11). -/
structure Joint where
  counter : Counter
  up : Place
  down : Place
  deriving DecidableEq, Repr

/-- A path: (point, leg) pairs, first pair at the root (R12). -/
abbrev Path := List (Nat × Leg)

/-- The yard tables, with the detector map and the paths that START derives (R1 to R12). -/
structure Tables where
  points : Vector (Option PointRecord) 63
  tracks : Vector (Option TrackRecord) 64
  params : Params
  routes : Vector Nat 1024
  patches : Vector Patch 8
  detectorMap : List (Nat × Joint)
  pointPaths : List (Nat × Path)
  trackPaths : List (Nat × Path)
  deriving DecidableEq, Repr

/-! ### Cut list and crest binder -/

/-- What a cut record is routed by: exactly one of destination code and explicit track (R23). -/
inductive CutRoute where
  | destination (code : Nat)
  | track (t : Nat)
  deriving DecidableEq, Repr

/-- A cut record that passed the checks of R23. -/
structure CutRecord where
  number : Nat
  route : CutRoute
  expected : Nat
  noAlternate : Bool
  deriving DecidableEq, Repr

/-- The state of the crest binder (R31). -/
inductive BinderState where
  | closed
  | tracked (slot : Nat)
  | untracked
  deriving DecidableEq, Repr

/-- The crest binder: its state, the lead gap timer's expiry when running, the next crest ordinal (R31). -/
structure Binder where
  state : BinderState
  gap : Option Clock
  nextOrdinal : Ordinal
  deriving DecidableEq, Repr

/-! ### Sections -/

/-- The owner of an axle: a tracking slot or UNKNOWN (R41). -/
inductive Owner where
  | unknown
  | slot (i : Nat)
  deriving DecidableEq, Repr

/-- An owner run: consecutive axles of one owner (R41). -/
structure Run where
  owner : Owner
  count : Nat
  deriving DecidableEq, Repr

/-- The cause in a disturbance record (R41). -/
inductive DisturbCause where
  | deviceReset | warmReset | stopped | emptySource | runOverflow
  deriving DecidableEq, Repr

/-- A disturbance record (R41): the detector and event time of the crossing, where the cause has one. -/
structure Disturbance where
  cause : DisturbCause
  detector : Option Nat
  time : Option Clock
  deriving DecidableEq, Repr

/-- A section (R41): DISTURBED exactly while it has a disturbance record; its runs, head run first. -/
structure Section where
  disturbance : Option Disturbance
  runs : List Run
  deriving DecidableEq, Repr

/-- The 190 sections (R41). -/
structure Sections where
  guards : Vector Section 63
  pointLinks : Vector Section 63
  trackLinks : Vector Section 64
  deriving DecidableEq, Repr

/-! ### Tracking table -/

/-- The state of a slot in use (R77); the clearing track is present in CLEARING. -/
inductive SlotPhase where
  | entering
  | rolling
  | clearing (track : Nat)
  deriving DecidableEq, Repr

/-- The flags of a slot (R79). -/
structure SlotFlags where
  unlisted : Bool
  mismatch : Bool
  overRoom : Bool
  retargeted : Bool
  cornered : Bool
  misrouted : Bool
  stalled : Bool
  lost : Bool
  unanchored : Bool
  deriving DecidableEq, Repr

/-- A slot's stall deadline: an instant of the yard clock, with the timer running or stopped (R77). At expiry the timer stops and the
instant stays (R83). -/
structure StallDeadline where
  instant : Clock
  running : Bool
  deriving DecidableEq, Repr

/-- A tracking slot in use (R77). Its cut number and its NO_ALTERNATE mark are those of its bound record. -/
structure Slot where
  phase : SlotPhase
  record : Option CutRecord
  ordinal : Ordinal
  expected : Nat
  target : Option Nat
  reservation : Nat
  path : Path
  unresolved : Option Nat
  counted : Nat
  cleared : Nat
  head : Counter
  headTime : Clock
  samples : List Nat
  estimate : Nat
  stall : StallDeadline
  flags : SlotFlags
  deriving DecidableEq, Repr

/-! ### Point controller -/

/-- The state of a point (R101). WAIT_RETRY keeps origin, the end the point then lies at (R116). -/
inductive PointState where
  | unknown
  | rest (leg : Leg)
  | pending (leg : Leg)
  | moving (leg : Leg)
  | returning (leg : Leg)
  | waitRetry (origin : Leg)
  | failed
  deriving DecidableEq, Repr

/-- Why a THROW was queued (R101). -/
inductive ThrowReason where
  | automatic | manual | return
  deriving DecidableEq, Repr

/-- The command field, with the throw reason that has a meaning only while there is a THROW (R101). -/
inductive PointCommand where
  | none
  | queued (reason : ThrowReason)
  | sent (reason : ThrowReason)
  deriving DecidableEq, Repr

/-- The fault kinds of a point (R101). -/
inductive PointFaultKind where
  | obstructed | throwTimeout | noDrive | detectionLost | wrongLeg | guardViolation
  deriving DecidableEq, Repr

/-- A point runtime record (R101). -/
structure PointRuntime where
  state : PointState
  detected : Option Leg
  drive : Drive
  held : Bool
  learned : Option Nat
  retries : Nat
  command : PointCommand
  throwStart : Clock
  lastFault : Option PointFaultKind
  supervision : Option Clock
  retryTimer : Option Clock
  deglitchTimer : Option Clock
  deriving DecidableEq, Repr

/-- An entry of a claim list (R104): a slot and its wanted end, none being NONE. -/
structure Claim where
  slot : Nat
  want : Option Leg
  deriving DecidableEq, Repr

/-! ### Engine control, signal demand unit, management function -/

/-- The engine states (R131). -/
inductive Engine where
  | config | run | halted
  deriving DecidableEq, Repr

/-- The halt causes (R131). -/
inductive Cause where
  | command | guardViolation | pointFailed | supervision
  deriving DecidableEq, Repr

/-- The halt-cause set: each cause at most once (R131). -/
structure Causes where
  command : Bool
  guardViolation : Bool
  pointFailed : Bool
  supervision : Bool
  deriving DecidableEq, Repr

/-- Engine control: the engine state, the halt-cause set, the number of points FAILED last told (R131). -/
structure EngineControl where
  state : Engine
  causes : Causes
  failed : Nat
  deriving DecidableEq, Repr

/-- The hump signal's aspects (R140). -/
inductive Aspect where
  | stop | slow | proceed
  deriving DecidableEq, Repr

/-- The signal demand unit: the current demand, the refresh timer's expiry when running (R140). -/
structure Signal where
  demand : Aspect
  refresh : Option Clock
  deriving DecidableEq, Repr

/-- Armed controller supervision: its expiry (R143), and the time of the claim or of the last accepted
SERVICE, which SUPERVISION_LOST carries (R146). -/
structure Supervision where
  expiry : Clock
  since : Clock
  deriving DecidableEq, Repr

/-- The management function: the control claim, the fence set, supervision and the last accepted phase. -/
structure Management where
  holder : Option Nat
  fence : Fence
  supervision : Option Supervision
  phase : Option (Fin 2)
  deriving DecidableEq, Repr

/-! ### Report queue -/

/-- The event an ENGINE_STATE report names, with the cause concerned where it has one (R132). -/
inductive EngineEvent where
  | start | stopEngine | halt | resume
  | causeSet (c : Cause)
  | causeCleared (c : Cause)
  | deviceReset | warmReset
  deriving DecidableEq, Repr

/-- The cause of a CUT_DROPPED report (R176). -/
inductive DropCause where
  | listFull | slotDrop
  deriving DecidableEq, Repr

/-- Why a slot became LOST, with the section, point or track named (R96). -/
inductive LostCause where
  | sec (id : SectionId)
  | guardViolation (p : Nat)
  | divided (p : Nat)
  | offPath (p : Nat)
  | wrongTrack (t : Nat)
  deriving DecidableEq, Repr

/-- What a retargeting gave (R18, R89): a track with its OVER_ROOM mark, or an unresolved point. -/
inductive Retarget where
  | track (t : Nat) (overRoom : Bool)
  | unresolved (q : Nat)
  deriving DecidableEq, Repr

/-- The outcome a POINT_FAULT report names (6.11). -/
inductive FaultOutcome where
  | returning | failed
  deriving DecidableEq, Repr

/-- Subject and details of a report, by kind (10.2). -/
inductive ReportBody where
  | cutBound (slot number : Nat) (ordinal : Ordinal) (target : Nat) (overRoom : Bool)
  | unlistedCut (slot : Nat) (ordinal : Ordinal) (target : Nat) (overRoom : Bool)
  | trackingOverflow (time : Clock) (records : Nat)
  | axleMismatch (slot number expected counted : Nat)
  | cutDropped (slot number : Option Nat) (cause : DropCause)
  | cutCornered (slot : Nat) (number : Option Nat) (point : Nat) (pathLeg lying : Leg)
  | cutMisrouted (slot : Nat) (number : Option Nat) (point : Nat) (pathLeg observed : Leg)
  | cutRetargeted (slot : Nat) (number : Option Nat) (point : Nat) (leg : Option Leg) (old : Option Nat) (result : Retarget)
  | cutStalled (slot : Nat) (number : Option Nat) (head : Counter) (headTime : Clock) (estimate : Nat) (flags : SlotFlags)
  | cutLost (slot : Nat) (number : Option Nat) (cause : LostCause)
  | cutCleared (slot : Nat) (number : Option Nat) (ordinal : Ordinal) (intended : Option Nat) (actual counted cleared : Nat) (flags : SlotFlags)
  | pointFault (point : Nat) (kind : PointFaultKind) (state : PointState) (outcome : FaultOutcome) (detected : Option Leg)
      (drive : Drive) (retries : Nat) (throwStart : Clock)
  | pointUncommandedMove (point : Nat) (before adopted : Leg)
  | guardViolation (point : Nat) (state : PointState) (time : Clock) (owner : Option Owner) (slots : List Nat)
  | sectionDisturbed (sec : SectionId) (cause : DisturbCause) (detector : Option Nat) (time : Option Clock) (slots : List Nat)
  | engineState (engine : Engine) (causes : Causes) (event : EngineEvent)
  | supervisionLost (station : Nat) (phase : Option (Fin 2)) (since expiry : Clock)
  | linkError (port : Port) (cls : ErrorClass) (time : Clock)
  deriving DecidableEq, Repr

/-- A report record as it stands in the queue (R175). Its discarded field is filled in when it is sent. -/
structure Report where
  level : Level
  time : Clock
  body : ReportBody
  deriving DecidableEq, Repr

/-- The report queue, first record first, and the discard count (R178, R180). -/
structure ReportQueue where
  queue : List Report
  discards : Nat
  deriving DecidableEq, Repr

/-! ### Responses -/

/-- The tables a TABLE_ERROR names (R10). -/
inductive TableName where
  | parameter | point | track | detector | route | patch
  deriving DecidableEq, Repr

/-- The fields of a point record that part 0 of its read holds (R169). -/
structure PointPart0 where
  upstream : Upstream
  left : Branch
  right : Branch
  guardIn : Nat
  leftOut : Nat
  rightOut : Nat
  guardLength : Nat
  linkLength : Nat
  machine : Nat
  deriving DecidableEq, Repr

/-- The fields of a point record that part 1 of its read holds (R169). -/
structure PointPart1 where
  nominal : Nat
  tMin : Nat
  tMax : Nat
  deglitch : Nat
  response : FailureResponse
  retryLimit : Nat
  retryDelay : Nat
  deriving DecidableEq, Repr

/-- What LINK_READ part 0 shows of a port (R161). -/
structure PortReading where
  credits : Nat
  owed : Nat
  buffersHeld : Nat
  passLength : Nat
  fairness : Nat
  errors : Nat
  firstError : Option (ErrorClass × Clock)
  deriving DecidableEq, Repr

/-- A run as SECTION_READ returns it: owner, count, and the cut number of a slot that has one (R60). -/
structure RunReading where
  owner : Owner
  count : Nat
  number : Option Nat
  deriving DecidableEq, Repr

/-- An entry of SLOT_READ part 2: a claim list stood in, or a section holding runs (R166). -/
inductive SlotEntry where
  | claim (p : Nat) (want : Option Leg)
  | runs (sec : SectionId) (axles : Nat)
  deriving DecidableEq, Repr

/-- An entry of POINT_READ part 2 (R130). -/
structure ClaimReading where
  slot : Nat
  number : Option Nat
  want : Option Leg
  deriving DecidableEq, Repr

/-- The contents of the reads, by read and part (R24, R166, R167, R169). -/
inductive Content where
  | status0 (clock : Clock) (engine : Engine) (causes : Causes) (holder : Option Nat) (expiry : Option Clock)
      (phase : Option (Fin 2)) (fence : Fence) (demand : Aspect)
  | status1 (records slots : Nat) (binder : BinderState) (failed unknown disturbed reports discards : Nat)
  | point0 (fields : Option PointPart0)
  | point1 (fields : Option PointPart1)
  | track (record : Option (TrackRecord × Nat))
  | parameter (value : ParameterValue)
  | routes (entries : List Nat)
  | patch (entry : Patch)
  | slotFree
  | slot0 (phase : SlotPhase) (number : Option Nat) (ordinal : Ordinal) (expected counted cleared : Nat)
      (target unresolved : Option Nat) (reservation : Nat) (flags : SlotFlags)
  | slot1 (path : Path) (clearing : Option Nat) (head : Counter) (headTime : Clock) (samples : List Nat)
      (estimate : Nat) (stall : StallDeadline)
  | slot2 (total : Nat) (entries : List SlotEntry)
  | section0 (disturbance : Option Disturbance) (axles runs : Nat)
  | section1 (runs : List RunReading)
  | runtime0 (present : Bool) (state : PointState) (detected : Option Leg) (drive : Drive) (held : Bool)
      (learned : Option Nat) (retries : Nat) (command : PointCommand) (throwStart : Clock) (lastFault : Option PointFaultKind)
  | runtime1 (supervision retry deglitch : Option Clock) (clear : Bool) (head served : Option Nat) (latest : Option Clock)
  | runtime2 (total : Nat) (entries : List ClaimReading)
  | link0 (station : Option Nat) (y t : PortReading)
  | link1 (total : Nat) (throws : List Nat) (signal : Option Aspect) (responsesY responsesT unmapped unknownPoint forwardingLoss : Nat)
  deriving DecidableEq, Repr

/-- The result fields a DONE response carries. A read with parts carries the part and the number of parts (R166). -/
inductive Result where
  | plain
  | restored (n : Nat)
  | cutList (total : Nat) (records : List (Nat × CutRecord))
  | part (part parts : Nat) (content : Content)
  deriving DecidableEq, Repr

/-- The outcomes of a request with the detail each carries (R162). -/
inductive Answer where
  | done (result : Result)
  | notController
  | heldElsewhere (holder : Nat)
  | wrongState (causes : Option Causes)
  | badArgument
  | full
  | notFound
  | duplicate
  | busy (slots : Nat)
  | occupied
  | tableError (table : TableName) (index : Nat)
  | disturbed (sec : SectionId)
  | fenced
  deriving DecidableEq, Repr

/-- A response in the response queue (R156, R162). -/
structure Response where
  port : Port
  dest : Nat
  tag : Byte
  code : RequestCode
  answer : Answer
  deriving DecidableEq, Repr

/-! ### Link interface -/

/-- A THROW in the Port T command queue (R155). -/
structure Throw where
  point : Nat
  leg : Leg
  dest : Nat
  deriving DecidableEq, Repr

/-- The telegram in the signal-demand slot (R141). -/
structure SignalTelegram where
  aspect : Aspect
  dest : Nat
  deriving DecidableEq, Repr

/-- A telegram that waits in a receive buffer: an own request or a pass telegram (R151, R152). -/
structure Waiting where
  own : Bool
  telegram : Telegram
  deriving DecidableEq, Repr

/-- What a telegram being sent carries. A report carries the discarded field it took (R180). -/
inductive SentBody where
  | fill
  | throw (point : Nat) (leg : Leg)
  | signal (aspect : Aspect)
  | response (r : Response)
  | report (r : Report) (discarded : Nat)
  | passed (m : Telegram)
  deriving DecidableEq, Repr

/-- The telegram a port's transmitter is sending (R154, R157). -/
structure Sent where
  dest : Nat
  src : Nat
  credits : Nat
  body : SentBody
  deriving DecidableEq, Repr

/-- A link port: the telegrams waiting in its receive buffers in order of acceptance, credit counter,
owed count, fairness count, pass queue, the transmission in progress, the error record (R149 to R159). -/
structure PortState where
  waiting : List Waiting
  credits : Nat
  owed : Nat
  fairness : Nat
  passQueue : List Telegram
  sending : Option Sent
  errors : Nat
  firstError : Option (ErrorClass × Clock)
  deriving DecidableEq, Repr

/-- The link interface (R149 to R160). -/
structure Link where
  y : PortState
  t : PortState
  commands : List Throw
  signalSlot : Option SignalTelegram
  responses : List Response
  unmapped : Nat
  unknownPoint : Nat
  forwardingLoss : Nat
  deriving DecidableEq, Repr

/-! ### The whole part -/

/-- The state of the part, by block, with the yard clock, whether it has wrapped since the last device reset (which R43
asks), and the station address straps as last read (R147). The model's own fields: `moments`, a counter that makes the free
values of R102 and of R161 differ (log entries 5 and 8), and `pending`, the commands that wait, first in first out. -/
structure State where
  clock : Clock
  wrapped : Bool
  straps : Byte
  link : Link
  mgmt : Management
  tables : Tables
  cutList : List CutRecord
  binder : Binder
  sections : Sections
  slots : Vector (Option Slot) 16
  points : Vector PointRuntime 63
  claims : Vector (List Claim) 63
  signal : Signal
  engine : EngineControl
  reports : ReportQueue
  moments : Nat
  pending : List Instr
  deriving DecidableEq, Repr

/-- The part reports every misuse by an outcome, a report or a count, and goes on: no command stops it.
No one raises a fault, so this type has no constructor; that is safe. -/
inductive Fault where
  deriving DecidableEq, Repr

/-- Why the model gives a command no meaning. -/
inductive Refusal where
  /-- Raised by a refused arm of exec alone, for a command not modelled yet: no arm is refused now, so no one
  raises it. Safe. -/
  | notModelled (mnemonic : String)
  deriving DecidableEq, Repr

/-! ### Device reset values -/

/-- The yard parameters after a device reset (R5, R177). -/
def Params.reset : Params where
  leadDetector := 0
  rejectTrack := 0
  signalStation := 0
  supervisionPeriod := 2000
  separation := 1500
  entrySpeed := 300
  w1 := 128
  w2 := 64
  w3 := 32
  w4 := 32
  margin := 300
  allowance := 500
  stallAllowance := 10000
  slow := 8
  stop := 14
  refresh := 1000
  forwardAll := true
  levels := Vector.replicate 18 .mid

/-- The tables after a device reset (R1, R11). The spec gives the paths no reset value (R11 empties the detector map alone);
the model empties them too (DESIGN CHOICE, log entry 20). -/
def Tables.reset : Tables where
  points := Vector.replicate 63 none
  tracks := Vector.replicate 64 none
  params := Params.reset
  routes := Vector.replicate 1024 0
  patches := Vector.replicate 8 ⟨false, 0, 0, 0⟩
  detectorMap := []
  pointPaths := []
  trackPaths := []

/-- A point runtime record after a device reset (R102). The throw start time has no meaning until the next
THROW; the model shows 0 (DESIGN CHOICE, log entry 5). -/
def PointRuntime.reset : PointRuntime where
  state := .unknown
  detected := none
  drive := .idle
  held := false
  learned := none
  retries := 0
  command := .none
  throwStart := 0
  lastFault := none
  supervision := none
  retryTimer := none
  deglitchTimer := none

/-- A section emptied by a reset, DISTURBED with the reset's name (R42). -/
def Section.afterReset (cause : DisturbCause) : Section := ⟨some ⟨cause, none, none⟩, []⟩

/-- Every section after a reset (R42). -/
def Sections.afterReset (cause : DisturbCause) : Sections where
  guards := Vector.replicate 63 (.afterReset cause)
  pointLinks := Vector.replicate 63 (.afterReset cause)
  trackLinks := Vector.replicate 64 (.afterReset cause)

/-- A port after a device reset (R160). -/
def PortState.reset : PortState where
  waiting := []
  credits := 0
  owed := 8
  fairness := 0
  passQueue := []
  sending := none
  errors := 0
  firstError := none

/-- The link interface after a device reset (R160). -/
def Link.reset : Link where
  y := .reset
  t := .reset
  commands := []
  signalSlot := none
  responses := []
  unmapped := 0
  unknownPoint := 0
  forwardingLoss := 0

/-- The binder after either reset (R31). -/
def Binder.reset : Binder := ⟨.closed, none, 0⟩

/-- The halt-cause set with no cause in it (R131). -/
def Causes.empty : Causes := ⟨false, false, false, false⟩

/-- Engine control after either reset (R131). -/
def EngineControl.reset : EngineControl := ⟨.config, .empty, 0⟩

/-- The report queue after either reset, before engine control's report (R182). -/
def ReportQueue.reset : ReportQueue := ⟨[], 0⟩

/-- The management function after a device reset (R143, R164, R170). -/
def Management.reset : Management := ⟨none, .any, none, none⟩

/-- Every piece of state as a device reset leaves it (R173), before the ENGINE_STATE report and before the
ports' first selection; the straps read as given. -/
def State.atDeviceReset (straps : Byte) : State where
  clock := 0
  wrapped := false
  straps := straps
  link := .reset
  mgmt := .reset
  tables := .reset
  cutList := []
  binder := .reset
  sections := .afterReset .deviceReset
  slots := Vector.replicate 16 none
  points := Vector.replicate 63 .reset
  claims := Vector.replicate 63 []
  signal := ⟨.stop, none⟩
  engine := .reset
  reports := .reset
  moments := 0
  pending := []

/-- The part right after a device reset with every strap low, which gives it no station address (R147;
the straps are pins, DESIGN CHOICE, log entry 2), and with no command waiting. -/
def State.reset : State := .atDeviceReset 0

end Sys2Proof.Machine
end

