-- ==== Sys2Proof/Machine/Ops.lean ====
section
/-! DEFINITION. Shared operations over the state: reading and writing one entry of a table, instants of the yard clock, the records of points, tracks, sections, slots and claim lists, and counts over them. -/

namespace Sys2Proof

/-- The other end of a point. -/
def Leg.other : Leg → Leg
  | .left => .right
  | .right => .left

/-- The identifier is in range (R41, R163). -/
def SectionId.inRange : SectionId → Bool
  | .guard p => decide (1 ≤ p ∧ p ≤ 63)
  | .pointLink p => decide (1 ≤ p ∧ p ≤ 63)
  | .trackLink t => decide (1 ≤ t ∧ t ≤ 64)

end Sys2Proof

namespace Sys2Proof.Machine

/-! ### Tables indexed from 1 -/

/-- The entry an id 1..n names; `d` for an id outside that range. -/
def readAt {α : Type} {n : Nat} (v : Vector α n) (d : α) (i : Nat) : α :=
  if h : 1 ≤ i ∧ i ≤ n then v[i - 1] else d

/-- The table with the entry of an id 1..n replaced; an id outside that range changes nothing. -/
def writeAt {α : Type} {n : Nat} (v : Vector α n) (i : Nat) (a : α) : Vector α n :=
  if h : 1 ≤ i ∧ i ≤ n then v.set (i - 1) a else v

/-- The table with every entry replaced by its image. -/
def mapAll {α β : Type} {n : Nat} (f : α → β) (v : Vector α n) : Vector β n :=
  ⟨⟨v.toList.map f⟩, by simp⟩

/-- The ids 1..n, ascending. -/
def ids (n : Nat) : List Nat := (List.range n).map (· + 1)

/-- The table with every entry replaced by the image of its id and itself. -/
def mapIds {α β : Type} {n : Nat} (f : Nat → α → β) (v : Vector α n) : Vector β n :=
  ⟨⟨(v.toList.zip (ids n)).map fun x => f x.2 x.1⟩, by simp [ids]⟩

/-! ### Instants (00_scope, Yard clock) -/

/-- The instant `ms` milliseconds after `c`, modulo 2^32. -/
def after (c : Clock) (ms : Nat) : Clock := c + BitVec.ofNat 32 ms

/-- The time from `a` to `b`: the difference modulo 2^32, read as signed. -/
def elapsed (a b : Clock) : Int := (b - a).toInt

/-- The instant `e` has come when the clock reads `now`. -/
def reached (now e : Clock) : Bool := decide (0 ≤ elapsed e now)

/-- A timer with expiry `e` is running and its expiry instant has come. -/
def due (now : Clock) : Option Clock → Bool
  | none => false
  | some e => reached now e

/-- The expiry of a slot's stall timer: its deadline while the timer runs (R77). -/
def StallDeadline.expiry (x : StallDeadline) : Option Clock := if x.running then some x.instant else none

/-- A value clamped to a..b (00_scope, Arithmetic). -/
def clamp (a b x : Nat) : Nat := if x < a then a else if b < x then b else x

/-- A division rounded up. -/
def divUp (a b : Nat) : Nat := (a + b - 1) / b

/-! ### The records of the state -/

/-- The part's station address, from the straps as read at the last device reset (R147). -/
def State.station (s : State) : Option Nat :=
  if s.straps = 0#8 ∨ s.straps = 255#8 then none else some s.straps.toNat

/-- The record of a point, when present (R1). -/
def State.pointRecord (s : State) (p : Nat) : Option PointRecord := readAt s.tables.points none p

/-- The record of a track, when present (R1). -/
def State.trackRecord (s : State) (t : Nat) : Option TrackRecord := readAt s.tables.tracks none t

/-- The runtime record of a point (R101). -/
def State.pt (s : State) (p : Nat) : PointRuntime := readAt s.points .reset p

/-- The state with the runtime record of a point replaced. -/
def State.setPt (s : State) (p : Nat) (r : PointRuntime) : State := { s with points := writeAt s.points p r }

/-- The claim list of a point (R104). -/
def State.claimList (s : State) (p : Nat) : List Claim := readAt s.claims [] p

/-- The state with the claim list of a point replaced. -/
def State.setClaims (s : State) (p : Nat) (l : List Claim) : State := { s with claims := writeAt s.claims p l }

/-- The slot, when in use (R77). -/
def State.slot (s : State) (i : Nat) : Option Slot := readAt s.slots none i

/-- The state with a slot replaced; none makes it FREE. -/
def State.setSlot (s : State) (i : Nat) (x : Option Slot) : State := { s with slots := writeAt s.slots i x }

/-- The state with a slot in use changed; a FREE slot stays FREE. -/
def State.updSlot (s : State) (i : Nat) (f : Slot → Slot) : State :=
  match s.slot i with
  | none => s
  | some x => s.setSlot i (some (f x))

/-- A section (R41). An identifier out of range reads as an empty NORMAL section, which no counter names. -/
def State.sec (s : State) : SectionId → Section
  | .guard p => readAt s.sections.guards ⟨none, []⟩ p
  | .pointLink p => readAt s.sections.pointLinks ⟨none, []⟩ p
  | .trackLink t => readAt s.sections.trackLinks ⟨none, []⟩ t

/-- The state with a section replaced. -/
def State.setSec (s : State) (id : SectionId) (x : Section) : State :=
  match id with
  | .guard p => { s with sections := { s.sections with guards := writeAt s.sections.guards p x } }
  | .pointLink p => { s with sections := { s.sections with pointLinks := writeAt s.sections.pointLinks p x } }
  | .trackLink t => { s with sections := { s.sections with trackLinks := writeAt s.sections.trackLinks t x } }

/-- The 190 section identifiers in the section order of R42. -/
def allSections : List SectionId :=
  (ids 63).map .guard ++ (ids 63).map .pointLink ++ (ids 64).map .trackLink

/-- A guard is clear when it is NORMAL and empty (R56). -/
def State.guardClear (s : State) (p : Nat) : Bool :=
  (s.sec (.guard p)).disturbance.isNone && (s.sec (.guard p)).runs.isEmpty

/-- The section holds a run of the slot. -/
def Section.holds (x : Section) (i : Nat) : Bool := x.runs.any fun r => decide (r.owner = .slot i)

/-- The axles of the slot in the section, over all its runs (R55). -/
def Section.axlesOf (x : Section) (i : Nat) : Nat :=
  ((x.runs.filter fun r => decide (r.owner = .slot i)).map Run.count).sum

/-- The axle total of a section (R41). -/
def Section.axles (x : Section) : Nat := (x.runs.map Run.count).sum

/-- Some section list holds a run of the slot (R40, R95). -/
def State.hasRuns (s : State) (i : Nat) : Bool := allSections.any fun id => (s.sec id).holds i

/-- The number of slots in use, LOST slots included (R140). -/
def State.slotsInUse (s : State) : Nat := s.slots.toList.countP Option.isSome

/-- The lowest-numbered FREE slot (R32). -/
def State.freeSlot (s : State) : Option Nat := (ids 16).find? fun i => (s.slot i).isNone

/-- The cut number of a slot: that of its bound record (R77). -/
def Slot.number (x : Slot) : Option Nat := x.record.map CutRecord.number

/-- The NO_ALTERNATE mark of a slot: that of its bound record (R33, R77). -/
def Slot.noAlternate (x : Slot) : Bool := x.record.any CutRecord.noAlternate

/-- The cut number of the slot, when it is in use and has one. -/
def State.numberOf (s : State) (i : Nat) : Option Nat := (s.slot i).bind Slot.number

/-- The slot is in use and LOST. -/
def State.isLost (s : State) (i : Nat) : Bool := (s.slot i).any fun x => x.flags.lost

/-- The slots in use whose cut number is `n` (R24). -/
def State.slotWithNumber (s : State) (n : Nat) : Bool := (ids 16).any fun i => decide (s.numberOf i = some n)

/-- The number of points FAILED (R122). -/
def State.countFailed (s : State) : Nat := s.points.toList.countP fun r => decide (r.state = .failed)

/-- The number of points UNKNOWN (R130, R167): among all 63 runtime records, which R101 keeps whether or not a point record is
present (DESIGN CHOICE, log entry 25). -/
def State.countUnknown (s : State) : Nat := s.points.toList.countP fun r => decide (r.state = .unknown)

/-- The number of DISTURBED sections among the 190 (R167). -/
def State.countDisturbed (s : State) : Nat := allSections.countP fun id => (s.sec id).disturbance.isSome

/-- The reserved count of a track: the capped sum of the reservations of the slots that target it (R13). -/
def State.reserved (s : State) (t : Nat) : Nat :=
  min 4095 ((s.slots.toList.map fun o => match o with
    | none => 0
    | some x => if x.target = some t then x.reservation else 0).sum)

/-- A count raised by 1, saturating (R150, R180). -/
def raise (n : Nat) : Nat := min Config.countCap (n + 1)

/-- The slots named by a list of owners. -/
def Owner.slot? : Owner → Option Nat
  | .unknown => none
  | .slot i => some i

end Sys2Proof.Machine
end

