-- ==== Sys2Proof/Machine/Flags.lean ====
section
/-! DEFINITION. The halt-cause set, the level order of reports, the signal demand's value: the flags and small orders of the spec, as functions of plain values. -/

namespace Sys2Proof

/-- The order of levels: HIGH above MID above LOW (R177). -/
def Level.rank : Level → Nat
  | .off => 0
  | .low => 1
  | .mid => 2
  | .high => 3

/-- The place of a report kind in item 14 of the yard parameters (R177). -/
def ReportKind.index : ReportKind → Fin 18
  | .cutBound => 0
  | .unlistedCut => 1
  | .trackingOverflow => 2
  | .axleMismatch => 3
  | .cutDropped => 4
  | .cutCornered => 5
  | .cutMisrouted => 6
  | .cutRetargeted => 7
  | .cutStalled => 8
  | .cutLost => 9
  | .cutCleared => 10
  | .pointFault => 11
  | .pointUncommandedMove => 12
  | .guardViolation => 13
  | .sectionDisturbed => 14
  | .engineState => 15
  | .supervisionLost => 16
  | .linkError => 17

end Sys2Proof

namespace Sys2Proof.Machine

/-- The cause stands in the set (R131). -/
def Causes.has (x : Causes) : Cause → Bool
  | .command => x.command
  | .guardViolation => x.guardViolation
  | .pointFailed => x.pointFailed
  | .supervision => x.supervision

/-- The set with a cause put in or taken out (R131). -/
def Causes.put (x : Causes) (c : Cause) (v : Bool) : Causes :=
  match c with
  | .command => { x with command := v }
  | .guardViolation => { x with guardViolation := v }
  | .pointFailed => { x with pointFailed := v }
  | .supervision => { x with supervision := v }

/-- The set is empty. -/
def Causes.none (x : Causes) : Bool := decide (x = .empty)

/-- The engine state the cause set calls for: CONFIG stays; otherwise RUN while the set is empty and HALTED
while it is not (R131, R136). -/
def EngineControl.settledState (e : EngineControl) : Engine :=
  match e.state with
  | .config => .config
  | .run | .halted => if e.causes.none then .run else .halted

/-- The level of a report kind (R177). -/
def Params.level (x : Params) (k : ReportKind) : Level := x.levels[k.index]

/-- The kind of a report (10.2). -/
def ReportBody.kind : ReportBody → ReportKind
  | .cutBound .. => .cutBound
  | .unlistedCut .. => .unlistedCut
  | .trackingOverflow .. => .trackingOverflow
  | .axleMismatch .. => .axleMismatch
  | .cutDropped .. => .cutDropped
  | .cutCornered .. => .cutCornered
  | .cutMisrouted .. => .cutMisrouted
  | .cutRetargeted .. => .cutRetargeted
  | .cutStalled .. => .cutStalled
  | .cutLost .. => .cutLost
  | .cutCleared .. => .cutCleared
  | .pointFault .. => .pointFault
  | .pointUncommandedMove .. => .pointUncommandedMove
  | .guardViolation .. => .guardViolation
  | .sectionDisturbed .. => .sectionDisturbed
  | .engineState .. => .engineState
  | .supervisionLost .. => .supervisionLost
  | .linkError .. => .linkError

/-- The signal demand of R140 from its inputs. -/
def demandOf (engine : Engine) (records inUse slow stop : Nat) : Aspect :=
  if engine ≠ .run ∨ records = 0 ∨ stop ≤ inUse then .stop
  else if slow ≤ inUse then .slow
  else .proceed

/-- The crest ordinal `a` is older than `b` (R38). -/
def older (a b : Ordinal) : Bool :=
  decide (1 ≤ (b - a).toNat ∧ (b - a).toNat ≤ 32767) || (decide ((b - a).toNat = 32768) && decide (a.toNat < b.toNat))

/-- Every flag clear (R79). -/
def SlotFlags.clear : SlotFlags := ⟨false, false, false, false, false, false, false, false, false⟩

/-- A THROW of the point stands in the command queue or is with the machine (R101). -/
def PointCommand.isQueued : PointCommand → Bool
  | .queued _ => true
  | .none | .sent _ => false

end Sys2Proof.Machine
end

