-- ==== Sys2Proof/Machine/Operands.lean ====
section
/-! DEFINITION. The checks of the fields a request carries: ranges and the conditions within one record (R2, R3, R5, R7, R23, R170). -/

namespace Sys2Proof

/-- The value lies in a..b. -/
def inRange (a b x : Nat) : Bool := decide (a ≤ x) && decide (x ≤ b)

/-- A branch names a point 1..63 other than `p`, or a track 1..64 (R2). -/
def Branch.ok (p : Nat) : Branch → Bool
  | .point q => inRange 1 63 q && decide (q ≠ p)
  | .track t => inRange 1 64 t

/-- An upstream is LEAD, or names a point 1..63 other than `p` (R2). -/
def Upstream.ok (p : Nat) : Upstream → Bool
  | .lead => true
  | .parent q _ => inRange 1 63 q && decide (q ≠ p)

/-- The numbers of a point record lie in their ranges (R2). -/
def PointFields.numbersOk (x : PointFields) : Bool :=
  inRange 1 254 x.guardIn && inRange 1 254 x.leftOut && inRange 1 254 x.rightOut
    && inRange 300 6000 x.guardLength && inRange 100 65535 x.linkLength && inRange 1 254 x.machine
    && inRange 200 3000 x.nominal && inRange 100 4000 x.tMin && inRange 100 4000 x.tMax
    && inRange 0 700 x.deglitch && inRange 0 3 x.retryLimit && inRange 100 2000 x.retryDelay

/-- The conditions between the fields of a point record (R2). -/
def PointFields.conditionsOk (x : PointFields) : Bool :=
  decide (x.tMin ≤ x.nominal) && decide (x.nominal ≤ x.tMax) && decide (x.deglitch % 100 = 0)
    && decide (x.guardIn ≠ x.leftOut) && decide (x.guardIn ≠ x.rightOut) && decide (x.leftOut ≠ x.rightOut)

end Sys2Proof

namespace Sys2Proof.Machine

/-- The point record that the fields of a write to point `p` give, when they pass every check of R2. -/
def pointRecordOf (p : Nat) (x : PointFields) : Option PointRecord :=
  match x.upstream, x.left, x.right, x.response with
  | some up, some l, some r, some resp =>
    if up.ok p && l.ok p && r.ok p && decide (l ≠ r) && x.numbersOk && x.conditionsOk then
      some ⟨up, l, r, x.guardIn, x.leftOut, x.rightOut, x.guardLength, x.linkLength, x.machine, x.nominal, x.tMin, x.tMax,
        x.deglitch, resp, x.retryLimit, x.retryDelay⟩
    else none
  | _, _, _, _ => none

/-- The room and the alternates of a write to track `t` pass the checks of R3. -/
def registerOk (t : Nat) (x : RegisterFields) : Bool :=
  inRange 0 4095 x.room && decide (x.alternates.length ≤ 3) && x.alternates.all (inRange 1 64)
    && decide x.alternates.Nodup && !x.alternates.contains t

/-- The track record that the fields of a whole write to track `t` give, when they pass every check of R3. -/
def trackRecordOf (t : Nat) (x : TrackFields) : Option TrackRecord :=
  match x.leg, x.register.status with
  | some leg, some status =>
    if inRange 1 63 x.parent && inRange 1 254 x.clearance && inRange 100 65535 x.linkLength && registerOk t x.register then
      some ⟨x.parent, leg, x.clearance, x.linkLength, status, x.register.room, x.register.alternates⟩
    else none
  | _, _ => none

/-- The status a register write to track `t` carries, when its fields pass every check of R3. -/
def registerOf (t : Nat) (x : RegisterFields) : Option TrackStatus := if registerOk t x then x.status else none

/-- The cut record that a request's fields give, when they pass every check of R23. -/
def cutRecordOf (number : Nat) (x : CutFields) : Option CutRecord :=
  if inRange 0 65535 number && inRange 1 96 x.expected then
    match x.destination, x.track with
    | some code, none => if inRange 0 1023 code then some ⟨number, .destination code, x.expected, x.noAlternate⟩ else none
    | none, some t => if inRange 1 64 t then some ⟨number, .track t, x.expected, x.noAlternate⟩ else none
    | _, _ => none
  else none

/-- The patch entry that the fields of a write give, when they pass the ranges of R7. -/
def patchOf (x : PatchFields) : Option Patch :=
  if inRange 0 1023 x.destination && inRange 1 64 x.track && inRange 0 255 x.uses then
    some ⟨x.enabled, x.destination, x.track, x.uses⟩
  else none

/-- The value, when the check holds. -/
def guardOpt {α : Type} (check : Bool) (a : α) : Option α := if check then some a else none

/-- The yard parameters with one item written, when the value fits the item and passes its range and conditions
(R5). -/
def Params.write (x : Params) (item : Nat) : ParameterValue → Option Params
  | .number n =>
    match item with
    | 1 => guardOpt (inRange 1 254 n) { x with leadDetector := n }
    | 2 => guardOpt (inRange 1 64 n) { x with rejectTrack := n }
    | 3 => guardOpt (inRange 1 254 n) { x with signalStation := n }
    | 4 => guardOpt (inRange 500 10000 n) { x with supervisionPeriod := n }
    | 5 => guardOpt (inRange 200 10000 n) { x with separation := n }
    | 6 => guardOpt (inRange 50 600 n) { x with entrySpeed := n }
    | 8 => guardOpt (inRange 0 2000 n) { x with margin := n }
    | 9 => guardOpt (inRange 100 2000 n) { x with allowance := n }
    | 10 => guardOpt (inRange 1000 60000 n) { x with stallAllowance := n }
    | 12 => guardOpt (inRange 200 2000 n) { x with refresh := n }
    | _ => none
  | .weights a b c d =>
    guardOpt (decide (item = 7) && inRange 1 255 a && inRange 0 255 b && inRange 0 255 c && inRange 0 255 d)
      { x with w1 := a, w2 := b, w3 := c, w4 := d }
  | .thresholds a b =>
    guardOpt (decide (item = 11) && inRange 1 16 a && inRange 1 16 b && decide (a ≤ b)) { x with slow := a, stop := b }
  | .forwarding (some all) => guardOpt (decide (item = 13)) { x with forwardAll := all }
  | .forwarding none => none
  | .level (some kind) (some level) => guardOpt (decide (item = 14)) { x with levels := x.levels.set kind.index.val level }
  | .level _ _ => none

/-- The fence set a FENCE_WRITE gives, when its argument is ANY or a list of 1 to 4 addresses 1..254 without
repeats (R170). -/
def fenceOf : Option Fence → Option Fence
  | none => none
  | some .any => some .any
  | some (.only l) =>
    guardOpt (decide (1 ≤ l.length) && decide (l.length ≤ 4) && l.all (inRange 1 254) && decide l.Nodup) (.only l)

/-- A station is in the fence set (R170). -/
def inFence (f : Fence) (station : Nat) : Bool :=
  match f with
  | .any => true
  | .only l => l.contains station

end Sys2Proof.Machine
end

