-- ==== Sys2Proof/Machine/Link.lean ====
section
/-! DEFINITION. The link interface's sending side: credits, selection and start of transmission, freed buffers, responses, the report queue and the offering of reports (R154 to R159, R175 to R181). -/

namespace Sys2Proof.Machine

/-- A link port. -/
def State.port (s : State) : Port → PortState
  | .y => s.link.y
  | .t => s.link.t

/-- The state with a link port replaced. -/
def State.setPort (s : State) (p : Port) (x : PortState) : State :=
  match p with
  | .y => { s with link := { s.link with y := x } }
  | .t => { s with link := { s.link with t := x } }

/-- The other link port. -/
def other : Port → Port
  | .y => .t
  | .t => .y

/-- The source address of what the part sends; 255 when it has no station address, which only a FILL can
then carry (R147, R154). -/
def State.source (s : State) : Nat := s.station.getD 255

/-! ### Start of transmission at a port (R154, R159) -/

/-- A FILL starts: it carries the credits owed and costs no credit. -/
def PortState.startFill (x : PortState) (src : Nat) : PortState :=
  { x with sending := some ⟨255, src, x.owed, .fill⟩, owed := 0 }

/-- A telegram of the part's own starts: one credit is spent, and the fairness count rises while passed
traffic waits. -/
def PortState.startOwn (x : PortState) (dest src : Nat) (body : SentBody) : PortState :=
  { x with
    sending := some ⟨dest, src, x.owed, body⟩
    owed := 0
    credits := x.credits - 1
    fairness := if x.passQueue.isEmpty then x.fairness else min Config.fairnessCap (x.fairness + 1) }

/-- The head of the pass queue starts, as it was received but for its credits field (R153). -/
def PortState.startPass (x : PortState) (m : Telegram) : PortState :=
  { x with
    sending := some ⟨m.dest.toNat, m.src.toNat, x.owed, .passed m⟩
    owed := 0
    credits := x.credits - 1
    fairness := 0
    passQueue := x.passQueue.tail }

/-! ### Selection (R158) -/

/-- What a port's selection gives. -/
inductive Choice where
  | nothing
  | fill
  | throw (c : Throw)
  | signal (m : SignalTelegram)
  | response (r : Response)
  | report (r : Report)
  | pass (m : Telegram)
  deriving DecidableEq, Repr

/-- The oldest response marked for a port (R156). -/
def State.responseFor (s : State) (p : Port) : Option Response := s.link.responses.find? fun r => decide (r.port = p)

/-- The first own class of a port that holds a telegram (R158). Without a station address the part
originates none of them (R147). -/
def State.ownChoice (s : State) (p : Port) : Option Choice :=
  if s.station.isNone then none
  else match p with
    | .t =>
      match s.link.commands, s.link.signalSlot, s.responseFor .t with
      | c :: _, _, _ => some (.throw c)
      | [], some m, _ => some (.signal m)
      | [], none, some r => some (.response r)
      | [], none, none => none
    | .y =>
      match s.responseFor .y, s.reports.queue with
      | some r, _ => some (.response r)
      | none, r :: _ => some (.report r)
      | none, [] => none

/-- The selection of a port from what stands for it (R154, R158, R159). -/
def State.choice (s : State) (p : Port) : Choice :=
  let x := s.port p
  if x.sending.isSome then .nothing
  else if x.credits = 0 then (if 0 < x.owed then .fill else .nothing)
  else match x.passQueue, s.ownChoice p with
    | m :: _, none => .pass m
    | m :: _, some c => if Config.fairnessCap ≤ x.fairness then .pass m else c
    | [], some c => c
    | [], none => if 0 < x.owed then .fill else .nothing

/-- The learned throw time of a point's runtime record (R73, R74). -/
def PointRuntime.throwTime (r : PointRuntime) (p : Nat) : Nat := r.learned.getD (Config.undefinedThrowTime p)

/-- The point controller takes the start of transmission of a THROW of this point: the point is PENDING or
RETURNING with command QUEUED, and its guard is clear (R110). -/
def State.throwMayStart (s : State) (p : Nat) : Bool :=
  (match (s.pt p).state, (s.pt p).command with
    | .pending _, .queued _ => true
    | .returning _, .queued _ => true
    | _, _ => false) && s.guardClear p

/-- A point's runtime record as the start of transmission of its THROW leaves it (R75, R110). -/
def PointRuntime.started (r : PointRuntime) (now : Clock) (throwTime allowance : Nat) : PointRuntime :=
  { r with
    state := match r.state with
      | .pending e => .moving e
      | other => other
    command := match r.command with
      | .queued reason => .sent reason
      | other => other
    throwStart := now
    supervision := some (after now (throwTime + allowance)) }

/-- The head THROW of the command queue starts its transmission (R110, R155). -/
def State.startThrow (s : State) (c : Throw) : State :=
  let r := s.pt c.point
  let s1 := s.setPt c.point (r.started s.clock (r.throwTime c.point) s.tables.params.allowance)
  let s2 := { s1 with link := { s1.link with commands := s1.link.commands.tail } }
  s2.setPort .t (s2.link.t.startOwn c.dest s.source (.throw c.point c.leg))

/-- The chosen telegram starts. A THROW that the point controller does not take stays at the head of the
queue, and nothing starts: R110's withdrawal is made where a waiting THROW is reached
(`State.selectThrow`). -/
def State.begin (s : State) (p : Port) : Choice → State
  | .nothing => s
  | .fill => s.setPort p ((s.port p).startFill s.source)
  | .throw c => if s.throwMayStart c.point then s.startThrow c else s
  | .signal m =>
    ({ s with link := { s.link with signalSlot := none } }).setPort p
      ((s.port p).startOwn m.dest s.source (.signal m.aspect))
  | .response r =>
    ({ s with link := { s.link with responses := s.link.responses.eraseP fun x => decide (x.port = p) } }).setPort p
      ((s.port p).startOwn r.dest s.source (.response r))
  | .report r =>
    ({ s with reports := ⟨s.reports.queue.tail, 0⟩ }).setPort p
      ((s.port p).startOwn (s.mgmt.holder.getD 255) s.source (.report r s.reports.discards))
  | .pass m => s.setPort p ((s.port p).startPass m)

/-- A port makes its selection (R157): nothing happens while its transmitter is busy or nothing stands for it. -/
def State.select (s : State) (p : Port) : State := s.begin p (s.choice p)

/-! ### Credits and buffers (R154) -/

/-- A receive buffer of the port is freed and owed back, and the port makes its selection. -/
def State.freeBuffer (s : State) (p : Port) : State :=
  (s.setPort p { s.port p with owed := min Config.receiveBuffers ((s.port p).owed + 1) }).select p

/-- Credits the neighbour returned are added, without the selection that a rise from 0 makes. -/
def State.addCredits (s : State) (p : Port) (n : Nat) : State :=
  s.setPort p { s.port p with credits := min Config.creditCap ((s.port p).credits + n) }

/-- A response is placed at the tail of the response queue (R156). -/
def State.respond (s : State) (r : Response) : State :=
  ({ s with link := { s.link with responses := s.link.responses ++ [r] } }).select r.port

/-! ### The report queue (R175 to R179) -/

/-- A record's place in the queue: after the last of its own level or a higher one (R178). -/
def placeReport (r : Report) (q : List Report) : List Report :=
  q.takeWhile (fun x => decide (r.level.rank ≤ x.level.rank)) ++ r :: q.dropWhile (fun x => decide (r.level.rank ≤ x.level.rank))

/-- A record is offered to the queue (R178, R179). The queue stands in level order, so its last record is the
most recently offered one of the lowest level present. -/
def ReportQueue.offer (x : ReportQueue) (r : Report) : ReportQueue :=
  if x.queue.length < Config.reportRoom then { x with queue := placeReport r x.queue }
  else match x.queue.getLast? with
    | none => { x with queue := placeReport r x.queue }
    | some last =>
      if last.level.rank < r.level.rank then ⟨placeReport r x.queue.dropLast, raise x.discards⟩
      else { x with discards := raise x.discards }

/-- A block offers a report (R175, R177): nothing is queued without a station address or at level OFF;
otherwise the record is queued at its kind's level, and Port Y makes its selection. -/
def State.offer (s : State) (body : ReportBody) : State :=
  let level := s.tables.params.level body.kind
  if s.station.isNone ∨ level = .off then s
  else ({ s with reports := s.reports.offer ⟨level, s.clock, body⟩ }).select .y

end Sys2Proof.Machine
end

