-- ==== Sys2Proof/Machine/Engine.lean ====
section
/-! DEFINITION. The signal demand unit and engine control: the demand's recomputation and writing, changes of the halt-cause set and of the engine state (R131, R132, R136, R140 to R142). -/

namespace Sys2Proof.Machine

/-- The current demand is written into the signal-demand slot and the refresh timer restarted; nothing is
written while item 3 is not set (R141, R142). -/
def State.writeDemand (s : State) : State :=
  if s.tables.params.signalStation = 0 then s
  else ({ s with
    link := { s.link with signalSlot := some ⟨s.signal.demand, s.tables.params.signalStation⟩ }
    signal := { s.signal with refresh := some (after s.clock s.tables.params.refresh) } }).select .t

/-- The demand computed from its inputs as they stand (R140). -/
def State.demandNow (s : State) : Aspect :=
  demandOf s.engine.state s.cutList.length s.slotsInUse s.tables.params.slow s.tables.params.stop

/-- The demand is recomputed, and written when it has changed (R140, R141). -/
def State.recompute (s : State) : State :=
  if s.demandNow = s.signal.demand then s
  else ({ s with signal := { s.signal with demand := s.demandNow } }).writeDemand

/-- One ENGINE_STATE report with the engine state and the cause set as they stand (R132). -/
def State.reportEngine (s : State) (ev : EngineEvent) : State :=
  s.offer (.engineState s.engine.state s.engine.causes ev)

/-- The cause set becomes `x`: when that is a change, the engine moves between RUN and HALTED as the set
calls for, one ENGINE_STATE report names the event, and a change of the engine state reaches the
signal demand unit (R132, R136). -/
def State.changeCauses (s : State) (x : Causes) (ev : EngineEvent) : State :=
  if x = s.engine.causes then s
  else
    let e := { s.engine with causes := x }
    let s1 := ({ s with engine := { e with state := e.settledState } }).reportEngine ev
    if e.settledState = s.engine.state then s1 else s1.recompute

/-- An automatic cause is set (R136). -/
def State.setCause (s : State) (c : Cause) : State := s.changeCauses (s.engine.causes.put c true) (.causeSet c)

/-- An automatic cause is cleared (R136). -/
def State.clearCause (s : State) (c : Cause) : State := s.changeCauses (s.engine.causes.put c false) (.causeCleared c)

/-- The cause set once engine control is told that `n` points are FAILED: POINT_FAILED is set as the number rises from 0 and
cleared as it falls to 0 (R136). -/
def EngineControl.causesTold (e : EngineControl) (n : Nat) : Causes :=
  if e.failed = 0 ∧ 0 < n then e.causes.put .pointFailed true
  else if 0 < e.failed ∧ n = 0 then e.causes.put .pointFailed false
  else e.causes

/-- Engine control's count becomes the number of points FAILED; the cause set stays. -/
def State.countTold (s : State) : State := { s with engine := { s.engine with failed := s.countFailed } }

/-- Engine control is told the number of points FAILED (R122, R136). -/
def State.tellFailed (s : State) : State :=
  s.countTold.changeCauses (s.engine.causesTold s.countFailed)
    (if s.countFailed = 0 then .causeCleared .pointFailed else .causeSet .pointFailed)

/-- The cause set after a guard violation, once the number of points FAILED has been counted (R121, R136). -/
def State.causesViolated (s : State) : Causes := (s.engine.causesTold s.countFailed).put .guardViolation true

/-- Engine control is told of a guard violation, the point having gone FAILED by it. The two tellings, of the number of
points FAILED and of the violation, are one event: one ENGINE_STATE report at most, naming GUARD_VIOLATION set, or
POINT_FAILED set when GUARD_VIOLATION stood already (R121, R132; log entry 11). Inside a STOP_ENGINE (`inStop`) the
engine is CONFIG, so the cause set does not move it, and the one report of that request comes after (R131, R132). -/
def State.tellViolation (s : State) (inStop : Bool) : State :=
  if inStop then { s.countTold with engine := { s.countTold.engine with causes := s.causesViolated } }
  else s.countTold.changeCauses s.causesViolated
    (.causeSet (if s.engine.causes.guardViolation then .pointFailed else .guardViolation))

/-- The engine state becomes `e` by START or STOP_ENGINE: ENGINE_STATE is reported, and the signal demand
unit is handed the new state (R134, R135). -/
def State.enterEngine (s : State) (ev : EngineEvent) : State := (s.reportEngine ev).recompute

end Sys2Proof.Machine
end

