-- ==== Sys2Proof/Machine/Yard.lean ====
section
/-! DEFINITION. The yard tables at work: branches, paths and lengths, the table check of START and the structures START derives, availability and reservations, route resolution, the lie walk and retargeting (R4, R10 to R20). -/

namespace Sys2Proof

/-- The section a branch of a point leads into (R11). -/
def Branch.sec : Branch → SectionId
  | .point q => .pointLink q
  | .track t => .trackLink t

end Sys2Proof

namespace Sys2Proof.Machine

/-- A point's branch on a leg (R2). -/
def PointRecord.branch (r : PointRecord) : Leg → Branch
  | .left => r.left
  | .right => r.right

/-- A present point's branch on a leg. -/
def State.branch (s : State) (p : Nat) (leg : Leg) : Option Branch := (s.pointRecord p).map fun r => r.branch leg

/-- The present points, ascending (R1). -/
def State.presentPoints (s : State) : List Nat := (ids 63).filter fun p => (s.pointRecord p).isSome

/-- The present tracks, ascending (R1). -/
def State.presentTracks (s : State) : List Nat := (ids 64).filter fun t => (s.trackRecord t).isSome

/-- The points whose upstream is LEAD, ascending (R4). -/
def State.roots (s : State) : List Nat :=
  (ids 63).filter fun p => (s.pointRecord p).any fun r => decide (r.upstream = .lead)

/-! ### Paths (R12) -/

/-- The walk from the root down to a point, found by going up from it; none where no walk from a root
reaches it. -/
def State.walkTo (s : State) : Nat → Nat → Option Path
  | 0, _ => none
  | n + 1, p =>
    match s.pointRecord p with
    | none => none
    | some r =>
      match r.upstream with
      | .lead => some []
      | .parent q leg => (s.walkTo n q).map fun path => path ++ [(q, leg)]

/-- The walk from the root down to a track. -/
def State.walkToTrack (s : State) (t : Nat) : Option Path :=
  (s.trackRecord t).bind fun r => (s.walkTo 64 r.parent).map fun path => path ++ [(r.parent, r.leg)]

/-- The path of a point as START derived it (R12). -/
def State.pointPath (s : State) (p : Nat) : Path := (s.tables.pointPaths.lookup p).getD []

/-- The path of a track as START derived it (R12). -/
def State.trackPath (s : State) (t : Nat) : Path := (s.tables.trackPaths.lookup t).getD []

/-- A path passes point `p` on leg `x` (R12). -/
def passes (path : Path) (p : Nat) (x : Leg) : Bool := path.contains (p, x)

/-- The leg of a path at a point. -/
def legAt (path : Path) (p : Nat) : Option Leg := path.lookup p

/-- Point `q` lies in the subtree of point `p` (R12). -/
def State.below (s : State) (p q : Nat) : Bool := (legAt (s.pointPath q) p).isSome

/-- Counter `c` lies downstream of counter `h`: a walk down the tree from `h`'s downstream section reaches
it, either leg of a guard being followed (R80). -/
def State.downstream (s : State) (h c : Counter) : Bool :=
  match h, c with
  | _, .lead => false
  | .lead, .guardIn _ => true
  | .lead, .guardOut _ _ => true
  | .lead, .clearance _ => true
  | .guardIn p, .guardIn q => s.below p q
  | .guardIn p, .guardOut q _ => decide (q = p) || s.below p q
  | .guardIn p, .clearance t => (legAt (s.trackPath t) p).isSome
  | .guardOut p x, .guardIn q => passes (s.pointPath q) p x
  | .guardOut p x, .guardOut q _ => passes (s.pointPath q) p x
  | .guardOut p x, .clearance t => passes (s.trackPath t) p x
  | .clearance _, .guardIn _ => false
  | .clearance _, .guardOut _ _ => false
  | .clearance _, .clearance _ => false

/-! ### The table check of START (R10) -/

/-- Step 1: items 1, 2 and 3 are set. -/
def State.checkParameters (s : State) : Option (TableName × Nat) :=
  if s.tables.params.leadDetector = 0 then some (.parameter, 1)
  else if s.tables.params.rejectTrack = 0 then some (.parameter, 2)
  else if s.tables.params.signalStation = 0 then some (.parameter, 3)
  else none

/-- A branch of point `p` on `leg` names a present point or track that names it back (step 2). -/
def State.branchOk (s : State) (p : Nat) (leg : Leg) : Branch → Bool
  | .point q => (s.pointRecord q).any fun r => decide (r.upstream = .parent p leg)
  | .track t => (s.trackRecord t).any fun r => decide (r.parent = p ∧ r.leg = leg)

/-- The upstream of point `p`, when it names a parent, names a present point whose branch on that leg is
`p` (step 2). -/
def State.upstreamOk (s : State) (p : Nat) : Upstream → Bool
  | .lead => true
  | .parent q leg => (s.pointRecord q).any fun r => decide (r.branch leg = .point p)

/-- Step 2: the points. -/
def State.checkPoints (s : State) : Option (TableName × Nat) :=
  (s.presentPoints.find? fun p => !((s.pointRecord p).any fun r =>
    s.branchOk p .left r.left && s.branchOk p .right r.right && s.upstreamOk p r.upstream)).map fun p => (.point, p)

/-- Step 3: the tracks. -/
def State.checkTracks (s : State) : Option (TableName × Nat) :=
  (s.presentTracks.find? fun t => !((s.trackRecord t).any fun r =>
    (s.pointRecord r.parent).any fun rp => decide (rp.branch r.leg = .track t))).map fun t => (.track, t)

/-- Step 4: exactly one present point stands at the lead. -/
def State.checkRoot (s : State) : Option (TableName × Nat) :=
  match s.roots with
  | [] => some (.point, 0)
  | [_] => none
  | _ :: p :: _ => some (.point, p)

/-- Step 5: everything present is reached from the root. Steps 2 and 3 have passed, so the walk up from a
point or track is the walk down to it. -/
def State.checkReached (s : State) : Option (TableName × Nat) :=
  ((s.presentPoints.find? fun p => (s.walkTo 64 p).isNone).map fun p => (.point, p)).or
    ((s.presentTracks.find? fun t => (s.walkToTrack t).isNone).map fun t => (.track, t))

/-- Step 6: no track's path has more than 12 points. -/
def State.checkPathLength (s : State) : Option (TableName × Nat) :=
  (s.presentTracks.find? fun t => decide (Config.pathCap < ((s.walkToTrack t).getD []).length)).map fun t => (.track, t)

/-- The detector numbers in use: item 1, every present point's three, every present track's (step 7). -/
def State.detectors (s : State) : List Nat :=
  s.tables.params.leadDetector ::
    ((ids 63).filterMap s.pointRecord).flatMap (fun r => [r.guardIn, r.leftOut, r.rightOut])
    ++ ((ids 64).filterMap s.trackRecord).map TrackRecord.clearance

/-- Step 7: no detector number is used twice. -/
def State.checkDetectors (s : State) : Option (TableName × Nat) :=
  ((ids 254).find? fun d => decide (2 ≤ s.detectors.count d)).map fun d => (.detector, d)

/-- Step 8: the reject track is present. -/
def State.checkReject (s : State) : Option (TableName × Nat) :=
  if (s.trackRecord s.tables.params.rejectTrack).isNone then some (.parameter, 2) else none

/-- Step 9: every track that a route, an enabled patch entry or an alternates list names is present. -/
def State.checkReferences (s : State) : Option (TableName × Nat) :=
  ((s.tables.routes.toList.zipIdx.find? fun x => decide (x.1 ≠ 0) && (s.trackRecord x.1).isNone).map
      fun x => (.route, x.2)).or
    (((s.tables.patches.toList.zipIdx.find? fun x => x.1.enabled && (s.trackRecord x.1.track).isNone).map
        fun x => (.patch, x.2 + 1)).or
      ((s.presentTracks.find? fun t => (s.trackRecord t).any fun r =>
        r.alternates.any fun a => (s.trackRecord a).isNone).map fun t => (.track, t)))

/-- The table check of START: the first fault in the order of R10. -/
def State.tableCheck (s : State) : Option (TableName × Nat) :=
  s.checkParameters.or (s.checkPoints.or (s.checkTracks.or (s.checkRoot.or (s.checkReached.or
    (s.checkPathLength.or (s.checkDetectors.or (s.checkReject.or s.checkReferences)))))))

/-- The sections of the present records, in the order START examines them (R42). -/
def State.presentSections (s : State) : List SectionId :=
  s.presentPoints.map .guard ++ s.presentPoints.map .pointLink ++ s.presentTracks.map .trackLink

/-- The section check of START: the first DISTURBED section of the present records (R42). -/
def State.sectionCheck (s : State) : Option SectionId :=
  s.presentSections.find? fun id => (s.sec id).disturbance.isSome

/-! ### What START derives (R11, R12) -/

/-- The entries of the detector map for a point (R11). -/
def PointRecord.joints (r : PointRecord) (p : Nat) : List (Nat × Joint) :=
  [(r.guardIn, ⟨.guardIn p, .sec (.pointLink p), .sec (.guard p)⟩),
    (r.leftOut, ⟨.guardOut p .left, .sec (.guard p), .sec r.left.sec⟩),
    (r.rightOut, ⟨.guardOut p .right, .sec (.guard p), .sec r.right.sec⟩)]

/-- The detector map of R11. -/
def State.buildMap (s : State) : List (Nat × Joint) :=
  (s.roots.map fun p => (s.tables.params.leadDetector, ⟨.lead, .outside, .sec (.pointLink p)⟩))
    ++ (ids 63).flatMap (fun p => ((s.pointRecord p).map fun r => r.joints p).getD [])
    ++ (ids 64).filterMap fun t => (s.trackRecord t).map fun r =>
      (r.clearance, ⟨.clearance t, .sec (.trackLink t), .track t⟩)

/-- The tables with the detector map and the paths built from the records (R11, R12). -/
def State.derive (s : State) : State :=
  { s with tables := { s.tables with
      detectorMap := s.buildMap
      pointPaths := s.presentPoints.filterMap fun p => (s.walkTo 64 p).map fun path => (p, path)
      trackPaths := s.presentTracks.filterMap fun t => (s.walkToTrack t).map fun path => (t, path) } }

/-- The role of a detector number (R11). -/
def State.joint (s : State) (d : Nat) : Option Joint := s.tables.detectorMap.lookup d

/-! ### Reservations and availability (R13 to R15) -/

/-- A track is available to a cut of `n` axles: present, OPEN, and its room less its reserved count is at
least `n`, the subtraction signed (R15). -/
def State.available (s : State) (t n : Nat) : Bool :=
  (s.trackRecord t).any fun r => decide (r.status = .opened) && decide (s.reserved t + n ≤ r.room)

/-- The alternates of a track; an absent track has none (R15). -/
def State.alternates (s : State) (t : Nat) : List Nat := ((s.trackRecord t).map TrackRecord.alternates).getD []

/-- A slot gives its reservation back (R13). -/
def State.release (s : State) (i : Nat) : State := s.updSlot i fun x => { x with reservation := 0 }

/-- The actual track is charged with a cleared cut's counted axles, its room saturating at 0 (R14). -/
def State.charge (s : State) (t n : Nat) : State :=
  match s.trackRecord t with
  | none => s
  | some r => { s with tables := { s.tables with tracks := writeAt s.tables.tracks t (some { r with room := r.room - n }) } }

/-! ### Route resolution (R16, R17) -/

/-- The lowest-indexed enabled patch entry for a destination code (R7). -/
def State.patchFor (s : State) (code : Nat) : Option Nat :=
  (ids 8).find? fun k => let e := readAt s.tables.patches ⟨false, 0, 0, 0⟩ k; e.enabled && decide (e.destination = code)

/-- A patch entry that supplies a candidate: a limited one loses a use and is disabled at 0 (R7). -/
def Patch.drawn (e : Patch) : Patch :=
  if e.uses = 0 then e else { e with uses := e.uses - 1, enabled := decide (e.uses ≠ 1) }

/-- The route table entry of a destination code (R6). -/
def State.routeEntry (s : State) (code : Nat) : Nat := (s.tables.routes.toList[code]?).getD 0

/-- The candidate track of a cut record, and the tables once a patch use has been drawn (R16). -/
def State.candidate (s : State) (r : CutRecord) : Nat × State :=
  match r.route with
  | .track t => (t, s)
  | .destination code =>
    match s.patchFor code with
    | some k =>
      let e := readAt s.tables.patches ⟨false, 0, 0, 0⟩ k
      (e.track, { s with tables := { s.tables with patches := writeAt s.tables.patches k e.drawn } })
    | none => (if s.routeEntry code = 0 then s.tables.params.rejectTrack else s.routeEntry code, s)

/-- The target a candidate leads to, and its OVER_ROOM mark (R17). -/
def State.chooseTarget (s : State) (candidate expected : Nat) (noAlternate : Bool) : Nat × Bool :=
  if s.available candidate expected then (candidate, false)
  else match (if noAlternate then [] else s.alternates candidate).find? fun t => s.available t expected with
    | some t => (t, false)
    | none => (s.tables.params.rejectTrack, !s.available s.tables.params.rejectTrack expected)

/-! ### The lie walk (R19) -/

/-- The end of a point that the lie walk takes, and that a settlement at a point without a throw acts by. -/
def PointRuntime.lieEnd (r : PointRuntime) : Option Leg :=
  match r.state with
  | .rest e | .pending e | .moving e | .returning e => some e
  | .waitRetry _ | .failed => r.detected
  | .unknown => none

/-- What a lie walk reaches: a track, or a point with no known end with the pairs walked before it. -/
inductive Walk where
  | track (t : Nat)
  | stopped (q : Nat) (pairs : Path)
  deriving DecidableEq, Repr

/-- The lie walk from a branch (R19). -/
def State.lieWalk (s : State) : Nat → Branch → Path → Walk
  | _, .track t, _ => .track t
  | 0, .point q, pairs => .stopped q pairs
  | n + 1, .point q, pairs =>
    match (s.pt q).lieEnd, s.pointRecord q with
    | some e, some r => s.lieWalk n (r.branch e) (pairs ++ [(q, e)])
    | _, _ => .stopped q pairs

/-- The lie walk from the branch of point `p` on leg `x`. -/
def State.lieWalkFrom (s : State) (p : Nat) (x : Leg) : Walk :=
  match s.branch p x with
  | none => .stopped p []
  | some b => s.lieWalk 64 b []

/-! ### Retargeting (R18) and resolution (R20) -/

/-- The lie walk's result as a new target or an unresolved point. -/
def State.walkTarget (s : State) (expected : Nat) : Walk → Retarget
  | .track t => .track t (!s.available t expected)
  | .stopped q _ => .unresolved q

/-- The new target of a slot at point `p` by leg `x` (R18). -/
def State.retarget (s : State) (x : Slot) (p : Nat) (leg : Leg) : Retarget :=
  let alternates := if x.noAlternate then [] else ((x.target.map s.alternates).getD [])
  match alternates.find? fun t => passes (s.trackPath t) p leg && s.available t x.expected with
  | some t => .track t false
  | none =>
    let reject := s.tables.params.rejectTrack
    if passes (s.trackPath reject) p leg && s.available reject x.expected then .track reject false
    else s.walkTarget x.expected (s.lieWalkFrom p leg)

/-- The path of a slot made UNRESOLVED by a walk from point `p` by leg `x` (R89). -/
def State.walkedPath (s : State) (p : Nat) (x : Leg) : Path :=
  s.pointPath p ++ (p, x) :: (match s.lieWalkFrom p x with
    | .track _ => []
    | .stopped _ pairs => pairs)

end Sys2Proof.Machine
end

