-- ==== Sys2Proof/Machine/Arithmetic.lean ====
section
/-! DEFINITION. Speed and arrival arithmetic: samples, estimates, distances, arrival times, the throw window, the learned throw time and the stall deadline (R62 to R76). -/

namespace Sys2Proof.Machine

/-! ### Lengths and the head section -/

/-- The length of a point's guard (R4). -/
def State.guardLength (s : State) (p : Nat) : Nat := ((s.pointRecord p).map PointRecord.guardLength).getD 0

/-- The length of a link (R4); a guard is not asked for here. -/
def State.branchLength (s : State) : Branch → Nat
  | .point q => ((s.pointRecord q).map PointRecord.linkLength).getD 0
  | .track t => ((s.trackRecord t).map TrackRecord.linkLength).getD 0

/-- The length of the link that a leg of a point leads into (R4). -/
def State.legLength (s : State) (p : Nat) (x : Leg) : Nat := ((s.branch p x).map s.branchLength).getD 0

/-- The length of the lead, L(root) (R4). -/
def State.leadLength (s : State) : Nat := (s.roots.head?.map fun p => s.branchLength (.point p)).getD 0

/-- The length of the head section a head counter gives (4.1, R62, R76); a track has none. -/
def State.headLength (s : State) : Counter → Nat
  | .lead => s.leadLength
  | .guardIn p => s.guardLength p
  | .guardOut p x => s.legLength p x
  | .clearance _ => 0

/-- Counter `c` is an exit counter of the head section of head counter `h` (4.1). -/
def State.exitCounter (s : State) (h c : Counter) : Bool :=
  match h, c with
  | .lead, .guardIn p => decide (s.roots.head? = some p)
  | .guardIn p, .guardOut q _ => decide (q = p)
  | .guardOut p x, .guardIn q => decide (s.branch p x = some (.point q))
  | .guardOut p x, .clearance t => decide (s.branch p x = some (.track t))
  | _, _ => false

/-! ### Samples and the estimate (R62 to R64) -/

/-- The least and greatest speed of a sample and of an estimate (R63, R64). -/
def clampSpeed (v : Nat) : Nat := clamp 20 1200 v

/-- The value of a sample over `d` centimetres from `entered` to `left` (R63). -/
def sampleOf (d : Nat) (entered left : Clock) : Nat :=
  let dt := elapsed entered left
  if 1 ≤ dt then clampSpeed (d * 1000 / dt.toNat) else 1200

/-- A sum of weights times samples, newest first, over the samples there are (R64). -/
def weighted : List Nat → List Nat → Nat × Nat
  | w :: ws, v :: vs => let r := weighted ws vs; (w * v + r.1, w + r.2)
  | _, _ => (0, 0)

/-- The estimate of a sample list: the weighted mean, rounded half up, clamped (R64). -/
def estimateOf (weights samples : List Nat) : Nat :=
  let r := weighted weights samples
  clampSpeed ((2 * r.1 + r.2) / (2 * r.2))

/-- The filter weights (R5 item 7). -/
def Params.weights (x : Params) : List Nat := [x.w1, x.w2, x.w3, x.w4]

/-- The slot after a head crossing at `c` with event time `t` has given its sample, when one is due (R62 to R64). -/
def State.sampled (s : State) (x : Slot) (c : Counter) (t : Clock) : Slot :=
  if !x.flags.unanchored && s.exitCounter x.head c then
    let samples := (sampleOf (s.headLength x.head) x.headTime t :: x.samples).take 4
    { x with samples := samples, estimate := estimateOf s.tables.params.weights samples }
  else x

/-! ### Arrival at a point (R67 to R70) -/

/-- The length of the guard and the next link of each pair of a path. -/
def State.pairsLength (s : State) (pairs : Path) : Nat :=
  (pairs.map fun x => s.guardLength x.1 + s.legLength x.1 x.2).sum

/-- The anchored distance from a head counter down to the guard-in of `p`, down to and including L(p) (R67). -/
def State.distance (s : State) (h : Counter) (p : Nat) : Nat :=
  match h with
  | .lead => s.leadLength + s.pairsLength (s.pointPath p)
  | .guardIn q => s.pairsLength ((s.pointPath p).dropWhile fun x => decide (x.1 ≠ q))
  | .guardOut q x => s.legLength q x + s.pairsLength ((s.pointPath p).dropWhile fun x => decide (x.1 ≠ q)).tail
  | .clearance _ => 0

/-- The arrival time of a slot's head at the guard-in of `p`, when it is defined (R67 to R69). -/
def State.arrival (s : State) (x : Slot) (p : Nat) : Option Clock :=
  if !s.downstream x.head (.guardIn p) then none
  else if x.flags.unanchored then
    some (after s.clock (divUp ((s.distance x.head p - s.headLength x.head) * 1000) x.estimate))
  else some (after x.headTime (divUp (s.distance x.head p * 1000) x.estimate))

/-- The relative arrival time, clamped to 0 and the horizon (R70). -/
def relative (now arrival : Clock) : Nat := min Config.horizon (elapsed now arrival).toNat

/-- The head claimant of a point (R105). -/
def State.headClaimant (s : State) (p : Nat) : Option Claim := (s.claimList p).head?

/-- The served claimant of a point: the first entry that wants a definite end (R105). -/
def State.servedClaimant (s : State) (p : Nat) : Option Claim := (s.claimList p).find? fun c => c.want.isSome

/-- The arrival time of the head claimant of a point, when there is one and it is defined. -/
def State.headArrival (s : State) (p : Nat) : Option Clock :=
  (s.headClaimant p).bind fun c => (s.slot c.slot).bind fun x => s.arrival x p

/-- T + M at a point (R71). -/
def State.throwLead (s : State) (p : Nat) : Nat := (s.pt p).throwTime p + s.tables.params.margin

/-- The throw window of a point (R71). -/
def State.window (s : State) (p : Nat) : Bool :=
  (s.headArrival p).any fun a => decide (s.throwLead p ≤ relative s.clock a)

/-- The latest throw instant of a point (R72). -/
def State.latestThrow (s : State) (p : Nat) : Option Clock :=
  (s.headArrival p).map fun a => a - BitVec.ofNat 32 (s.throwLead p)

/-! ### Learned throw time and stall deadline (R73, R76) -/

/-- The learned throw time after a success that took `m` milliseconds: one eighth of the difference, rounded
half away from zero, clamped to the record's limits (R73). -/
def learn (T : Nat) (m : Int) (tMin tMax : Nat) : Nat :=
  let diff := m - T
  let change : Int := if 0 ≤ diff then (diff + 4) / 8 else -((-diff + 4) / 8)
  clamp tMin tMax (T + change).toNat

/-- The stall interval over a head section of length `l` at speed `v` (R76). -/
def stallInterval (l v allowance : Nat) : Nat := min Config.horizon (divUp (l * 1000) v + allowance)

/-- The slot with its stall deadline armed from its head time, head section and estimate (R76). -/
def State.armStall (s : State) (x : Slot) : Slot :=
  { x with stall := ⟨after x.headTime (stallInterval (s.headLength x.head) x.estimate s.tables.params.stallAllowance), true⟩ }

end Sys2Proof.Machine
end

