-- ==== Sys2Proof/Machine/Points.lean ====
section
/-! DEFINITION. Point control: claim lists, the throw decision, withdrawal, failing a point, LOST slots, guard violations, guard notices, reports of point machines and the point timers (R84, R96, R101 to R123). -/

namespace Sys2Proof.Machine

/-! ### Claim lists (R104) -/

/-- The slot stands in the claim list of the point. -/
def State.stands (s : State) (i p : Nat) : Bool := (s.claimList p).any fun c => decide (c.slot = i)

/-- The points in whose claim lists the slot stands, ascending. -/
def State.standing (s : State) (i : Nat) : List Nat := (ids 63).filter fun p => s.stands i p

/-- The claim's slot was bound after the slot with ordinal `o`. -/
def State.youngerThan (s : State) (o : Ordinal) (c : Claim) : Bool := (s.slot c.slot).any fun x => older o x.ordinal

/-- A slot joins a claim list: after every older entry and before every younger one; a slot that stands
there is not added again (R104). Where the ordinals span so many bindings that R38's comparison is cyclic there
may be no such place; the slot then goes before the first younger entry (DESIGN CHOICE, log entry 23). -/
def State.joinClaim (s : State) (p i : Nat) (want : Option Leg) : State :=
  if s.stands i p then s
  else match s.slot i with
    | none => s
    | some x =>
      let l := s.claimList p
      s.setClaims p (l.takeWhile (fun c => !s.youngerThan x.ordinal c) ++ ⟨i, want⟩ :: l.dropWhile fun c => !s.youngerThan x.ordinal c)

/-- A slot's wanted end in a claim list is replaced; its place stays (R104). -/
def State.changeClaim (s : State) (p i : Nat) (want : Option Leg) : State :=
  s.setClaims p ((s.claimList p).map fun c => if c.slot = i then { c with want := want } else c)

/-- A slot leaves a claim list (R104). -/
def State.leaveClaim (s : State) (p i : Nat) : State :=
  s.setClaims p ((s.claimList p).filter fun c => decide (c.slot ≠ i))

/-- A slot leaves every claim list it stands in (R96, R98). -/
def State.leaveAll (s : State) (i : Nat) : State :=
  { s with claims := mapAll (fun l => l.filter fun c => decide (c.slot ≠ i)) s.claims }

/-! ### The throw decision (R106 to R109) -/

/-- The point's THROW is taken out of the command queue, from whatever position (R155). -/
def State.dropThrow (s : State) (p : Nat) : State :=
  { s with link := { s.link with commands := s.link.commands.filter fun c => decide (c.point ≠ p) } }

/-- The machine station of a point (R2). -/
def State.machineOf (s : State) (p : Nat) : Nat := ((s.pointRecord p).map PointRecord.machine).getD 0

/-- A THROW is placed at the tail of the command queue, the point goes PENDING, or RETURNING for a return
THROW, with command QUEUED, and Port T makes its selection (R107, R113, R128, R157). -/
def State.placeThrow (s : State) (p : Nat) (leg : Leg) (reason : ThrowReason) : State :=
  let s1 := s.setPt p { s.pt p with
    state := if reason = .return then .returning leg else .pending leg
    command := .queued reason }
  ({ s1 with link := { s1.link with commands := s1.link.commands ++ [Throw.mk p leg (s.machineOf p)] } }).select .t

/-- The end an automatic THROW of a point at rest would go to: the five conditions of R107. -/
def State.throwDue (s : State) (p : Nat) : Option Leg :=
  match (s.pt p).state with
  | .rest e =>
    if !(s.pt p).held && decide ((s.pt p).detected = some e)
        && (s.servedClaimant p).any (fun c => decide (c.want = some e.other)) && s.guardClear p && s.window p
    then some e.other else none
  | _ => none

/-- The re-evaluation of a point at rest (R107). -/
def State.evaluateAtRest (s : State) (p : Nat) : State :=
  match s.throwDue p with
  | some e => s.placeThrow p e .automatic
  | none => s

/-- The QUEUED THROW of a PENDING point is withdrawn: the point returns to the end it lay at (R109). -/
def State.withdraw (s : State) (p : Nat) : State :=
  match (s.pt p).state with
  | .pending e => (s.dropThrow p).setPt p { s.pt p with state := .rest e.other, command := .none }
  | _ => s

/-- The test of R108 fails: the automatic THROW of a PENDING point is to be withdrawn. -/
def State.pendingFails (s : State) (p : Nat) (e : Leg) : Bool :=
  decide ((s.pt p).command = .queued .automatic)
    && (match s.servedClaimant p with
      | none => true
      | some c => decide (c.want = some e.other))

/-- A point re-evaluates (R106 to R108). A withdrawal puts it at rest, where it re-evaluates once more. -/
def State.reevaluate (s : State) (p : Nat) : State :=
  match (s.pt p).state with
  | .rest _ => s.evaluateAtRest p
  | .pending e => if s.pendingFails p e then (s.withdraw p).evaluateAtRest p else s
  | _ => s

/-- Points re-evaluate one after the other. -/
def State.reevaluateAll (s : State) (points : List Nat) : State := points.foldl State.reevaluate s

/-- The THROW of a PENDING point is withdrawn and the point, at rest, re-evaluates (R109). -/
def State.withdrawn (s : State) (p : Nat) : State := (s.withdraw p).reevaluate p

/-! ### Failing a point (R122) -/

/-- The point goes FAILED: timers stopped, a QUEUED THROW withdrawn. Engine control is still to be told. -/
def State.markFailed (s : State) (p : Nat) (kind : PointFaultKind) : State :=
  (s.dropThrow p).setPt p { s.pt p with
    state := .failed
    command := .none
    lastFault := some kind
    supervision := none
    retryTimer := none
    deglitchTimer := none }

/-- The point goes FAILED, and engine control is told. -/
def State.failPoint (s : State) (p : Nat) (kind : PointFaultKind) : State := (s.markFailed p kind).tellFailed

/-- The POINT_FAULT report of a point whose runtime record at the fault is `r` (6.11). -/
def faultReport (p : Nat) (r : PointRuntime) (kind : PointFaultKind) (outcome : FaultOutcome) : ReportBody :=
  .pointFault p kind r.state outcome r.detected r.drive r.retries r.throwStart

/-- The point goes FAILED by a fault and POINT_FAULT is reported with outcome FAILED. No rule orders the ENGINE_STATE of
POINT_FAILED and the POINT_FAULT; the model offers ENGINE_STATE first, the telling of engine control being part of
going FAILED (DESIGN CHOICE, log entry 22). -/
def State.failReported (s : State) (p : Nat) (kind : PointFaultKind) : State :=
  (s.failPoint p kind).offer (faultReport p (s.pt p) kind .failed)

/-! ### LOST slots (R96) -/

/-- A slot not yet LOST becomes LOST: it leaves its claim lists, whose points re-evaluate, releases its
reservation, and CUT_LOST is reported unless a section's disturbance names it already. -/
def State.becomeLost (s : State) (i : Nat) (cause : LostCause) (reported : Bool) : State :=
  match s.slot i with
  | none => s
  | some x =>
    if x.flags.lost then s
    else
      let s1 := s.setSlot i (some { x with flags := { x.flags with lost := true }, unresolved := none })
      let s2 := ((s1.leaveAll i).reevaluateAll (s.standing i)).release i
      if reported then s2.offer (.cutLost i x.number cause) else s2

/-! ### Guard violations and guard notices (R56, R120, R121) -/

/-- The slots a guard violation hands over: those with a run in the guard, and the entering axle's owner. R121 gives them no
order; the model makes them LOST in ascending slot number (DESIGN CHOICE, log entry 13). -/
def State.violators (s : State) (p : Nat) (owner : Option Owner) : List Nat :=
  (ids 16).filter fun i => (s.sec (.guard p)).holds i || decide (owner = some (.slot i))

/-- A guard violation at a point (R121); `entry` is the entering axle's event time and owner, when an axle entered, and
`inStop` says that STOP_ENGINE makes it. -/
def State.violation (s : State) (p : Nat) (entry : Option (Clock × Owner)) (inStop : Bool := false) : State :=
  let slots := s.violators p (entry.map Prod.snd)
  let s1 := (s.markFailed p .guardViolation).tellViolation inStop
  let s2 := slots.foldl (fun a i => a.becomeLost i (.guardViolation p) true) s1
  s2.offer (.guardViolation p (s.pt p).state ((entry.map Prod.fst).getD s.clock) (entry.map Prod.snd) slots)

/-- The point is told of a guard entry (R120). -/
def State.guardEntry (s : State) (p : Nat) (t : Clock) (owner : Owner) : State :=
  match (s.pt p).state with
  | .pending _ => s.withdrawn p
  | .moving _ | .returning _ => s.violation p (some (t, owner))
  | .unknown | .rest _ | .waitRetry _ | .failed => s

/-- The point is told that its guard has become occupied (R114, R120), by STOP_ENGINE when `inStop` says so. -/
def State.guardOccupied (s : State) (p : Nat) (inStop : Bool := false) : State :=
  match (s.pt p).state with
  | .pending _ => s.withdrawn p
  | .returning _ => if (s.pt p).command.isQueued then s.violation p none inStop else s
  | .unknown | .rest _ | .moving _ | .waitRetry _ | .failed => s

/-- The point is told of a change of its guard's clearness, if there was one since it read `before` (R56, R120). -/
def State.guardChange (s : State) (p : Nat) (before : Bool) : State :=
  if before = s.guardClear p then s
  else if s.guardClear p then s.reevaluate p
  else s.guardOccupied p

/-! ### A throw waiting at the head of the command queue (R110, R114, R155) -/

/-- The point controller does not take the start of the head THROW: a PENDING point's THROW is withdrawn, a
return THROW is a guard violation; a THROW of a point in no such state is removed unsent. -/
def State.refuseStart (s : State) (p : Nat) : State :=
  match (s.pt p).state with
  | .pending _ => s.withdrawn p
  | .returning _ => s.violation p none
  | .unknown | .rest _ | .moving _ | .waitRetry _ | .failed => s.dropThrow p

/-- Port T selects, a THROW it reaches being withdrawn where the point controller does not take its start;
the port then selects again from what stands (R155). -/
def State.selectThrow : Nat → State → State
  | 0, s => s.select .t
  | n + 1, s =>
    match s.choice .t with
    | .throw c => if s.throwMayStart c.point then s.select .t else (s.refuseStart c.point).selectThrow n
    | _ => s.select .t

/-- A port makes the selection that a waiting THROW can be reached by: at the end of a transmission, and when
its credit counter rises from 0 (R157). -/
def State.selectWaiting (s : State) (p : Port) : State :=
  match p with
  | .y => s.select .y
  | .t => s.selectThrow (s.link.commands.length + 1)

/-! ### Faults of a throw (R111 to R115) -/

/-- The fault decision of R113 for a point in MOVING(e). -/
def State.faultDecision (s : State) (p : Nat) (e : Leg) (kind : PointFaultKind) : State :=
  let r := s.pt p
  let retry := (s.pointRecord p).any fun rec => decide (rec.response = .retry) && decide (r.retries < rec.retryLimit)
  if retry && s.guardClear p then
    ((s.setPt p { r with supervision := none, lastFault := some kind }).placeThrow p e.other .return).offer
      (faultReport p r kind .returning)
  else s.failReported p kind

/-- A MOVING point detects its target end: success (R73, R111). -/
def State.throwSuccess (s : State) (p : Nat) (e : Leg) (rec : PointRecord) : State :=
  let r := s.pt p
  (s.setPt p { r with
    state := .rest e
    command := .none
    retries := 0
    supervision := none
    learned := some (learn (r.throwTime p) (elapsed r.throwStart s.clock) rec.tMin rec.tMax) }).reevaluate p

/-- A POINT_STATUS taken in MOVING(e) (R111). -/
def State.statusMoving (s : State) (p : Nat) (e : Leg) (rec : PointRecord) (detected : Option Leg) (drive : Drive) : State :=
  match drive with
  | .noLoad => s.failReported p .noDrive
  | .overload => s.faultDecision p e .obstructed
  | .idle =>
    match detected with
    | none => s
    | some d => if d = e then s.throwSuccess p e rec else s.faultDecision p e .throwTimeout
  | .running => if detected = some e then s.throwSuccess p e rec else s

/-- A return completes: the point waits for its retry (R115). -/
def State.returnComplete (s : State) (p : Nat) (origin : Leg) (rec : PointRecord) : State :=
  let r := s.pt p
  s.setPt p { r with
    state := .waitRetry origin
    command := .none
    retries := r.retries + 1
    supervision := none
    retryTimer := some (after s.clock rec.retryDelay) }

/-- A POINT_STATUS taken in RETURNING(origin) with command SENT (R115). -/
def State.statusReturning (s : State) (p : Nat) (origin : Leg) (rec : PointRecord) (detected : Option Leg) (drive : Drive) : State :=
  match drive with
  | .noLoad => s.failReported p .noDrive
  | .overload => s.failReported p .obstructed
  | .idle =>
    match detected with
    | none => s
    | some d => if d = origin then s.returnComplete p origin rec else s.failReported p .throwTimeout
  | .running => if detected = some origin then s.returnComplete p origin rec else s

/-! ### Reports from a point at rest (R117 to R119) -/

/-- The end a point lies at, for a point whose reports are those of a point at rest (R117). -/
def PointState.lies : PointState → Option Leg
  | .rest e => some e
  | .pending e => some e.other
  | .waitRetry origin => some origin
  | .unknown | .moving _ | .returning _ | .failed => none

/-- A point adopts an end it was not thrown to (R118). -/
def State.adoptEnd (s : State) (p : Nat) (before adopted : Leg) : State :=
  ((s.setPt p { s.pt p with state := .rest adopted, deglitchTimer := none, retryTimer := none }).offer
    (.pointUncommandedMove p before adopted)).reevaluate p

/-- The deglitch timer of a point expires (R118). -/
def State.deglitchExpired (s : State) (p : Nat) : State :=
  let s1 := s.setPt p { s.pt p with deglitchTimer := none }
  match (s.pt p).state.lies, (s.pt p).detected with
  | none, _ => s1
  | some _, none => s1.failReported p .detectionLost
  | some e, some d =>
    if d = e then s1
    else if s.guardClear p then s1.adoptEnd p e d
    else s1.violation p none

/-- A report of an end other than the one the point lies at: the deglitch timer starts when it is stopped,
and an expiry instant that has come is taken at once (R117). -/
def State.deglitchStart (s : State) (p deglitch : Nat) : State :=
  match (s.pt p).deglitchTimer with
  | some _ => s
  | none =>
    let s1 := s.setPt p { s.pt p with deglitchTimer := some (after s.clock deglitch) }
    if due s.clock (s1.pt p).deglitchTimer then s1.deglitchExpired p else s1

/-- A POINT_STATUS taken for a point that lies at `e` (R117). -/
def State.statusAtRest (s : State) (p : Nat) (e : Leg) (rec : PointRecord) (detected : Option Leg) : State :=
  if detected = some e then s.setPt p { s.pt p with deglitchTimer := none }
  else match (s.pt p).state with
    | .pending _ => (s.withdrawn p).deglitchStart p rec.deglitch
    | _ => s.deglitchStart p rec.deglitch

/-- An UNKNOWN point takes the first end reported (R119). -/
def State.statusUnknown (s : State) (p : Nat) : Option Leg → State
  | none => s
  | some e => (s.setPt p { s.pt p with state := .rest e }).reevaluate p

/-- A POINT_STATUS taken for a point, its detected end and drive recorded first (R103). -/
def State.statusTaken (s : State) (p : Nat) (rec : PointRecord) (detected : Option Leg) (drive : Drive) : State :=
  let s1 := s.setPt p { s.pt p with detected := detected, drive := drive }
  match (s.pt p).state with
  | .unknown => s1.statusUnknown p detected
  | .rest e => s1.statusAtRest p e rec detected
  | .pending e => s1.statusAtRest p e.other rec detected
  | .waitRetry e => s1.statusAtRest p e rec detected
  | .moving e => s1.statusMoving p e rec detected drive
  | .returning e => if (s.pt p).command.isQueued then s1 else s1.statusReturning p e rec detected drive
  | .failed => s1

/-- A POINT_STATUS handed to the point controller: taken when the point's record is present and names the
telegram's source as its machine, and counted otherwise (R103, R150). -/
def State.pointStatus (s : State) (src p : Nat) (detected : Option Leg) (drive : Drive) : State :=
  match s.pointRecord p with
  | some rec =>
    if rec.machine = src then s.statusTaken p rec detected drive
    else { s with link := { s.link with unknownPoint := raise s.link.unknownPoint } }
  | none => { s with link := { s.link with unknownPoint := raise s.link.unknownPoint } }

/-- The leg check has found the point's detection false (R123). -/
def State.wrongLeg (s : State) (p : Nat) : State :=
  if (s.pt p).state = .failed then
    (s.setPt p { s.pt p with lastFault := some .wrongLeg }).offer (faultReport p (s.pt p) .wrongLeg .failed)
  else s.failReported p .wrongLeg

end Sys2Proof.Machine
end

