-- ==== Sys2Proof/Machine/Tracking.lean ====
section
/-! DEFINITION. Cut tracking: claim sets, settlement, retargeting results, the leg and division checks, re-entry, the tail test, clearing, head crossings and stalls (R79 to R97). -/

namespace Sys2Proof.Machine

/-! ### Claim sets (R84) -/

/-- Point `p` is the slot's unresolved point, or lies in that point's subtree. -/
def State.unresolvedCovers (s : State) (x : Slot) (p : Nat) : Bool :=
  x.unresolved.any fun q => decide (p = q) || s.below q p

/-- The wanted end of a slot at a point of its claim set; none for a point outside the set (R84). -/
def State.claimWant (s : State) (x : Slot) (p : Nat) : Option (Option Leg) :=
  match legAt x.path p with
  | some e => some (some e)
  | none => if s.unresolvedCovers x p then some none else none

/-- The claim of slot `i` at one point is brought into line with its claim set; at the point where the
change was made only the wanted end changes (R84). -/
def State.alignAt (s : State) (i : Nat) (x : Slot) (base p : Nat) : State :=
  match s.claimWant x p with
  | none => s.leaveClaim p i
  | some want =>
    if s.stands i p then s.changeClaim p i want
    else if p = base then s else s.joinClaim p i want

/-- The claims of slot `i` at the point of the change and below it are brought into line (R84). -/
def State.alignClaims (s : State) (i base : Nat) : State :=
  match s.slot i with
  | none => s
  | some x => ((ids 63).filter fun p => decide (p = base) || s.below base p).foldl (fun a p => a.alignAt i x base p) s

/-- A slot joins the claim list of every point of its path, with the leg of its path (R32, R84). -/
def State.joinPath (s : State) (i : Nat) (path : Path) : State :=
  path.foldl (fun a x => a.joinClaim x.1 i (some x.2)) s

/-! ### Results of a retargeting (R89, R90) -/

/-- A slot with the result of a retargeting or a lie-walk resolution at `p` by `leg` taken (R13, R18, R20, R89). -/
def State.retargeted (s : State) (x : Slot) (p : Nat) (leg : Leg) : Retarget → Slot
  | .track t mark =>
    { x with
      target := some t
      path := s.trackPath t
      unresolved := none
      reservation := x.expected
      flags := { x.flags with overRoom := mark, retargeted := x.flags.retargeted || decide (x.target ≠ some t) } }
  | .unresolved q =>
    { x with
      target := none
      path := s.walkedPath p leg
      unresolved := some q
      reservation := 0
      flags := { x.flags with overRoom := false, retargeted := x.flags.retargeted || x.target.isSome } }

/-- The result of a retargeting at `p` by `leg` is taken, the claims are brought into line from `base` down,
and CUT_RETARGETED is reported (R89). -/
def State.takeRetarget (s : State) (i p : Nat) (leg : Leg) (result : Retarget) (base : Nat) : State :=
  match s.slot i with
  | none => s
  | some x =>
    ((s.setSlot i (some (s.retargeted x p leg result))).alignClaims i base).offer
      (.cutRetargeted i x.number p (some leg) x.target result)

/-- The slot becomes UNRESOLVED at the point it was settled at (R90). -/
def State.becomeUnresolved (s : State) (i p : Nat) : State :=
  match s.slot i with
  | none => s
  | some x =>
    ((s.setSlot i (some { x with
      target := none
      path := s.pointPath p
      unresolved := some p
      reservation := 0
      flags := { x.flags with overRoom := false, retargeted := x.flags.retargeted || x.target.isSome } })).alignClaims i p).offer
      (.cutRetargeted i x.number p none x.target (.unresolved p))

/-! ### Settlement (R87, R88) -/

/-- A slot settled at a point that lies at the other end is cornered (R88). -/
def State.cornered (s : State) (i p : Nat) (pathLeg lying : Leg) : State :=
  match s.slot i with
  | none => s
  | some x =>
    let y := { x with flags := { x.flags with cornered := true } }
    let s1 := (s.setSlot i (some y)).offer (.cutCornered i x.number p pathLeg lying)
    s1.takeRetarget i p lying (s1.retarget y p lying) p

/-- The settlement by the end the point lies at or last reported (R87). -/
def State.settleBy (s : State) (i p : Nat) (pathLeg : Leg) : Option Leg → State
  | none => s.becomeUnresolved i p
  | some e => if e = pathLeg then s else s.cornered i p pathLeg e

/-- The settlement of a slot whose path names the point (R87). -/
def State.settleOnPath (s : State) (i p : Nat) (pathLeg : Leg) : State :=
  match (s.pt p).state with
  | .moving _ | .returning _ => s.becomeLost i (.guardViolation p) true
  | .pending e => (s.withdrawn p).settleBy i p pathLeg (some e.other)
  | .unknown | .rest _ | .waitRetry _ | .failed => s.settleBy i p pathLeg (s.pt p).lieEnd

/-- A head crossing at the guard-in of `p` settles the slot (R87). At a point MOVING or RETURNING that is neither on the slot's path nor
its unresolved point nor below that, R87's table gives the cause GUARD_VIOLATION and its text the cause OFF_PATH: the cause is OFF_PATH
here (DESIGN CHOICE, log entry 33). -/
def State.settle (s : State) (i p : Nat) : State :=
  match s.slot i with
  | none => s
  | some x =>
    match legAt x.path p with
    | some pathLeg => s.settleOnPath i p pathLeg
    | none =>
      if s.unresolvedCovers x p then
        match (s.pt p).state with
        | .moving _ | .returning _ => s.becomeLost i (.guardViolation p) true
        | .unknown | .rest _ | .pending _ | .waitRetry _ | .failed => s
      else s.becomeLost i (.offPath p) true

/-! ### The leg check and the division check (R91 to R93) -/

/-- The slot's head left the guard by the leg its path does not take (R91). -/
def State.misrouted (s : State) (i p : Nat) (pathLeg observed : Leg) : State :=
  let s1 := s.wrongLeg p
  match s1.slot i with
  | none => s1
  | some x =>
    let y := { x with flags := { x.flags with misrouted := true } }
    let s2 := (s1.setSlot i (some y)).offer (.cutMisrouted i x.number p pathLeg observed)
    s2.takeRetarget i p observed (s2.retarget y p observed) p

/-- A head crossing at a guard-out of `p` on leg `x` (R91, R92). -/
def State.legCheck (s : State) (i p : Nat) (observed : Leg) : State :=
  match s.slot i with
  | none => s
  | some x =>
    if s.unresolvedCovers x p then
      s.takeRetarget i p observed (s.walkTarget x.expected (s.lieWalkFrom p observed)) (x.unresolved.getD p)
    else match legAt x.path p with
      | none => s.becomeLost i (.offPath p) true
      | some pathLeg => if observed = pathLeg then s else s.misrouted i p pathLeg observed

/-- A DOWN crossing at a guard-out of `p` that is not a head crossing (R93). -/
def State.divisionCheck (s : State) (i p : Nat) (observed : Leg) : State :=
  match s.slot i with
  | none => s
  | some x =>
    if x.flags.lost || s.unresolvedCovers x p then s
    else match legAt x.path p with
      | none => s.becomeLost i (.offPath p) true
      | some pathLeg => if observed = pathLeg then s else s.becomeLost i (.divided p) true

/-! ### Re-entry and the tail (R85, R86) -/

/-- An axle of a slot enters a guard in whose point's claim list the slot may no longer stand (R86). -/
def State.reenter (s : State) (i p : Nat) : State :=
  match s.slot i with
  | none => s
  | some x =>
    if x.flags.lost || s.stands i p then s
    else match s.claimWant x p with
      | some want => s.joinClaim p i want
      | none => s.becomeLost i (.offPath p) true

/-- The slot's head has passed a guard-out counter of `p` (R85). -/
def State.headPassed (s : State) (h : Counter) (p : Nat) : Bool :=
  decide (h = .guardOut p .left) || decide (h = .guardOut p .right)
    || s.downstream (.guardOut p .left) h || s.downstream (.guardOut p .right) h

/-- The sections from the lead entry counter down to and including the guard of `p` (R85). -/
def State.sectionsDownTo (s : State) (p : Nat) : List SectionId :=
  ((s.pointPath p).map Prod.fst ++ [p]).flatMap fun q => [.pointLink q, .guard q]

/-- The slot's tail has gone by `p` (R85). -/
def State.tailGone (s : State) (i p : Nat) (h : Counter) : Bool :=
  s.headPassed h p && !((s.sectionsDownTo p).any fun id => (s.sec id).holds i)

/-- The slot gives up its claims where its tail has gone by (R85); a LOST slot has none. -/
def State.tailTest (s : State) (i : Nat) : State :=
  match s.slot i with
  | none => s
  | some x =>
    if x.flags.lost then s
    else ((s.standing i).filter fun p => s.tailGone i p x.head).foldl (fun a p => a.leaveClaim p i) s

/-! ### Clearing (R94, R95) -/

/-- The slot becomes FREE, which changes an input of the signal demand (R78, R140). -/
def State.freeUp (s : State) (i : Nat) : State := (s.setSlot i none).recompute

/-- The slot clears into track `t` (R14, R95). -/
def State.clearInto (s : State) (i t : Nat) (x : Slot) : State :=
  let s1 := ((s.charge t x.counted).release i).offer
    (.cutCleared i x.number x.ordinal x.target t x.counted x.cleared x.flags)
  ((s1.leaveAll i).reevaluateAll (s.standing i)).freeUp i

/-- The clearing test: a CLEARING slot with no run left, on which the binder is not open, clears (R95). -/
def State.tryClear (s : State) (i : Nat) : State :=
  match s.slot i with
  | none => s
  | some x =>
    match x.phase with
    | .clearing t => if !s.hasRuns i && decide (s.binder.state ≠ .tracked i) then s.clearInto i t x else s
    | .entering | .rolling => s

/-- The slot's cleared axles rise by 1, within their range (R77, R95; saturating, log entry 14). -/
def Slot.clearedOne (x : Slot) : Slot := { x with cleared := min Config.axleCap (x.cleared + 1) }

/-- A head crossing at the clearance counter of track `t` (R94), with the test that follows each cleared axle. -/
def State.startClearing (s : State) (i t : Nat) : State :=
  match s.slot i with
  | none => s
  | some x =>
    let s1 := if !x.flags.lost && decide (x.target ≠ some t) then s.becomeLost i (.wrongTrack t) true else s
    (s1.updSlot i fun y => { y.clearedOne with phase := .clearing t }).tryClear i

/-- A DOWN crossing at the clearance counter of track `t` that is not a head crossing (R95). -/
def State.clearedAxle (s : State) (i t : Nat) : State :=
  match s.slot i with
  | none => s
  | some x =>
    let s1 := if !x.flags.lost && decide (x.phase ≠ .clearing t) then s.becomeLost i (.wrongTrack t) true else s
    (s1.updSlot i Slot.clearedOne).tryClear i

/-! ### Head crossings (R66, R81) and anchoring (R82) -/

/-- Steps 1 to 4 of a head crossing at `c` with event time `t`: sample and estimate, head, anchor, stall
deadline (R81). -/
def State.headMoved (s : State) (x : Slot) (c : Counter) (t : Clock) : Slot :=
  let y := s.sampled x c t
  s.armStall { y with head := c, headTime := t, flags := { y.flags with unanchored := false, stalled := false } }

/-- The role step of a head crossing (R81): a LOST slot makes only the entry into CLEARING. -/
def State.roleStep (s : State) (i : Nat) (lost : Bool) : Counter → State
  | .lead => s
  | .guardIn p => if lost then s else s.settle i p
  | .guardOut p x => if lost then s else s.legCheck i p x
  | .clearance t => s.startClearing i t

/-- A slot's stall deadline expires: the timer stops and the deadline keeps its instant (R77, R83). -/
def State.stallExpired (s : State) (i : Nat) : State :=
  match s.slot i with
  | none => s
  | some x =>
    let y := { x with stall := { x.stall with running := false }, flags := { x.flags with stalled := true } }
    (s.setSlot i (some y)).offer (.cutStalled i x.number x.head x.headTime x.estimate y.flags)

/-- A stall deadline that had already passed when it was armed expires at once (R76). -/
def State.stallAtOnce (s : State) (i : Nat) : State :=
  if (s.slot i).any fun x => due s.clock x.stall.expiry then s.stallExpired i else s

/-- A head crossing of a slot at counter `c` with event time `t` (R81). -/
def State.headCrossing (s : State) (i : Nat) (x : Slot) (c : Counter) (t : Clock) : State :=
  (((s.setSlot i (some (s.headMoved x c t)))).stallAtOnce i).roleStep i x.flags.lost c

/-- A DOWN crossing of a slot that is not a head crossing (R80). -/
def State.lateral (s : State) (i : Nat) : Counter → State
  | .lead => s
  | .guardIn p => s.reenter i p
  | .guardOut p x => s.divisionCheck i p x
  | .clearance t => s.clearedAxle i t

/-- An UP crossing unanchors the slot (R82). -/
def State.unanchor (s : State) (i : Nat) : State :=
  s.updSlot i fun x => { x with flags := { x.flags with unanchored := true } }

end Sys2Proof.Machine
end

