-- ==== Sys2Proof/Machine/Binder.lean ====
section
/-! DEFINITION. The crest binder: binding of listed and UNLISTED cuts, untracked cuts, the gap timer, closing and rolling back over the crest (R31 to R40). -/

namespace Sys2Proof.Machine

/-- The lead gap timer is started or restarted by a DOWN axle with event time `t` (R32, R35). -/
def State.restartGap (s : State) (t : Clock) : State :=
  { s with binder := { s.binder with gap := some (after t s.tables.params.separation) } }

/-- A newly bound slot (R32, R33): its stall deadline is armed for the lead, which sets both parts of the deadline given here. -/
def State.boundSlot (s : State) (t : Clock) (record : Option CutRecord) (expected target : Nat) (mark : Bool) : Slot :=
  s.armStall {
    phase := .entering
    record := record
    ordinal := s.binder.nextOrdinal
    expected := expected
    target := some target
    reservation := expected
    path := s.trackPath target
    unresolved := none
    counted := 1
    cleared := 0
    head := .lead
    headTime := t
    samples := []
    estimate := s.tables.params.entrySpeed
    stall := ⟨t, false⟩
    flags := { SlotFlags.clear with overRoom := mark, unlisted := record.isNone } }

/-- Slot `i` is given a cut: it is set, the next crest ordinal advances, the slot joins the claim lists of its
path, the binding is reported, and the binder opens on the slot with its gap timer started (steps 3 to 6
of R32, R33). -/
def State.giveSlot (s : State) (t : Clock) (i : Nat) (record : Option CutRecord) (expected target : Nat) (mark : Bool) : State :=
  let ordinal := s.binder.nextOrdinal
  let x := s.boundSlot t record expected target mark
  let s1 := (s.setSlot i (some x)).recompute
  let s2 := ({ s1 with binder := { s1.binder with nextOrdinal := ordinal + 1 } }).joinPath i x.path
  let s3 := s2.offer (match record with
    | some r => .cutBound i r.number ordinal target mark
    | none => .unlistedCut i ordinal target mark)
  ({ s3 with binder := { s3.binder with state := .tracked i } }).restartGap t

/-- A listed cut is bound to slot `i` (R32). -/
def State.bindListed (s : State) (t : Clock) (i : Nat) (r : CutRecord) (rest : List CutRecord) : State :=
  let s1 := ({ s with cutList := rest }).recompute
  let c := s1.candidate r
  let target := c.2.chooseTarget c.1 r.expected r.noAlternate
  c.2.giveSlot t i (some r) r.expected target.1 target.2

/-- An UNLISTED cut is bound to slot `i`, to the reject track (R17, R33). -/
def State.bindUnlisted (s : State) (t : Clock) (i : Nat) : State :=
  let reject := s.tables.params.rejectTrack
  s.giveSlot t i none 1 reject (!s.available reject 1)

/-- A cut starts with no slot FREE (R34). -/
def State.startUntracked (s : State) (t : Clock) : State :=
  let s1 := s.offer (.trackingOverflow t s.cutList.length)
  ({ s1 with binder := { s1.binder with state := .untracked } }).restartGap t

/-- A DOWN axle at the lead entry counter with event time `t`: the binder's decision and the axle's owner
(R32 to R35). -/
def State.binderDown (s : State) (t : Clock) : State × Owner :=
  match s.binder.state with
  | .tracked i => ((s.updSlot i fun x => { x with counted := min Config.axleCap (x.counted + 1) }).restartGap t, .slot i)
  | .untracked => (s.restartGap t, .unknown)
  | .closed =>
    match s.freeSlot, s.cutList with
    | none, _ => (s.startUntracked t, .unknown)
    | some i, r :: rest => (s.bindListed t i r rest, .slot i)
    | some i, [] => (s.bindUnlisted t i, .slot i)

/-- A slot whose cut is closed, its counts compared (R37). -/
def Slot.closed (x : Slot) : Slot :=
  let phase := match x.phase with
    | .entering => .rolling
    | other => other
  match x.record with
  | some _ => { x with phase := phase, flags := { x.flags with mismatch := x.flags.mismatch || decide (x.counted ≠ x.expected) } }
  | none => { x with phase := phase, expected := x.counted }

/-- The closing of a slot's cut: ROLLING, comparison, AXLE_MISMATCH (R37). -/
def State.closeSlot (s : State) (i : Nat) : State :=
  match s.slot i with
  | none => s
  | some x =>
    let s1 := s.setSlot i (some x.closed)
    match x.record with
    | some r => if x.counted ≠ x.expected then s1.offer (.axleMismatch i r.number x.expected x.counted) else s1
    | none => s1

/-- The binder becomes CLOSED with its gap timer stopped (R31, R37). -/
def State.shutBinder (s : State) : State := { s with binder := { s.binder with state := .closed, gap := none } }

/-- The open cut is closed (R36, R37); a CLEARING slot then makes its clearing test (R95). -/
def State.closeCut (s : State) : State :=
  match s.binder.state with
  | .tracked i => ((s.closeSlot i).shutBinder).tryClear i
  | .untracked | .closed => s.shutBinder

/-- The cap of R36: a counted axle that brings the open slot to 127 closes its cut. -/
def State.capClosure (s : State) : State :=
  match s.binder.state with
  | .tracked i => if (s.slot i).any fun x => decide (Config.axleCap ≤ x.counted) then s.closeCut else s
  | .untracked | .closed => s

/-- A gap expiry instant that has already passed when the timer is restarted expires at once (R35), and so does one that has
passed when a binding or an untracked cut starts the timer, where R32 to R34 are silent (DESIGN CHOICE, log entry
12). -/
def State.gapAtOnce (s : State) : State := if due s.clock s.binder.gap then s.closeCut else s

/-! ### Rolling back over the crest (R39, R40) -/

/-- A whole rollback has happened: no counted axle, no run, no cleared axle is left of the slot (R40). -/
def State.rolledBack (s : State) (i : Nat) (x : Slot) : Bool :=
  decide (x.counted = 0) && !s.hasRuns i && decide (x.cleared = 0)

/-- A bound record goes back to the head of the cut list, or is dropped when the list is full (R40 step 4). -/
def State.returnRecord (s : State) : Option CutRecord → State
  | none => s
  | some r =>
    if s.cutList.length < Config.cutListRoom then ({ s with cutList := r :: s.cutList }).recompute
    else s.offer (.cutDropped none (some r.number) .listFull)

/-- The effects of a whole rollback (R40). -/
def State.rollBack (s : State) (i : Nat) (x : Slot) : State :=
  let s1 := ((((s.leaveAll i).reevaluateAll (s.standing i)).release i).freeUp i).returnRecord x.record
  if s1.binder.state = .tracked i then s1.shutBinder else s1

/-- The whole-rollback test after an UP axle at the lead entry counter (R39, R40). -/
def State.rollbackTest (s : State) (i : Nat) : State :=
  match s.slot i with
  | none => s
  | some x => if s.rolledBack i x then s.rollBack i x else s

/-- An UP axle at the lead entry counter lowers its owner's counted axles (R39). -/
def State.countDown (s : State) (i : Nat) : State := s.updSlot i fun x => { x with counted := x.counted - 1 }

/-- The open slot is freed by another event than a whole rollback: the binder becomes OPEN_UNTRACKED, its gap
timer unchanged (R31). -/
def State.binderLoses (s : State) (i : Nat) : State :=
  if s.binder.state = .tracked i then { s with binder := { s.binder with state := .untracked } } else s

end Sys2Proof.Machine
end

