-- ==== Sys2Proof/Machine/Counting.lean ====
section
/-! DEFINITION. Axle counting: section lists, axles taken and entered, disturbances, crossings at every counter role, restoring and run removal (R43 to R59), and the tracking table's taking of a crossing (R80). -/

namespace Sys2Proof.Machine

/-! ### Section lists (R41, R45, R48, R52) -/

/-- An end of a section list: the head faces downstream, the tail upstream (R41). -/
inductive Side where
  | head | tail
  deriving DecidableEq, Repr

/-- One axle taken from the head run: its owner, and the list left; a run that falls to 0 is removed (R45). -/
def takeHead : List Run → Option (Owner × List Run)
  | [] => none
  | r :: rest => some (r.owner, if r.count ≤ 1 then rest else { r with count := r.count - 1 } :: rest)

/-- One axle added at the head: to the head run of its owner, or as a new run; none on overflow (R48, R52). -/
def addHead (owner : Owner) : List Run → Option (List Run)
  | [] => some [⟨owner, 1⟩]
  | r :: rest =>
    if r.owner = owner then
      if r.count < Config.axleCap then some ({ r with count := r.count + 1 } :: rest) else none
    else if (r :: rest).length < Config.runRoom then some (⟨owner, 1⟩ :: r :: rest) else none

/-- One axle taken at an end of a section list. -/
def takeRun : Side → List Run → Option (Owner × List Run)
  | .head, l => takeHead l
  | .tail, l => (takeHead l.reverse).map fun x => (x.1, x.2.reverse)

/-- One axle added at an end of a section list. -/
def addRun (owner : Owner) : Side → List Run → Option (List Run)
  | .head, l => addHead owner l
  | .tail, l => (addHead owner l.reverse).map List.reverse

/-! ### Disturbance (R53) -/

/-- The slots not yet LOST that a disturbance of the section makes LOST: those with a run in it and the discarded axle's owner
(R53 step 2), in the ascending order in which the report lists them (R53 step 3). -/
def State.disturbedSlots (s : State) (id : SectionId) (owner : Owner) : List Nat :=
  (ids 16).filter fun i => ((s.sec id).holds i || decide (owner = .slot i)) && (s.slot i).isSome && !s.isLost i

/-- A section is disturbed by a crossing or a run removal (R53): a section already DISTURBED keeps its record and
only the owner of an axle discarded there becomes LOST. Where several slots become LOST, each leaves its claim lists, whose
points re-evaluate, before the next: step 2 gives them no order, and the model takes them in ascending slot number (DESIGN
CHOICE, log entry 13). The point controller is told of the guard by the crossing or removal that disturbed it (R56). -/
def State.disturb (s : State) (id : SectionId) (cause : DisturbCause) (d : Option Nat) (t : Option Clock) (owner : Owner) : State :=
  match (s.sec id).disturbance with
  | some _ =>
    match owner with
    | .unknown => s
    | .slot i => s.becomeLost i (.sec id) true
  | none =>
    let slots := s.disturbedSlots id owner
    let s1 := s.setSec id { s.sec id with disturbance := some ⟨cause, d, t⟩ }
    (slots.foldl (fun a i => a.becomeLost i (.sec id) false) s1).offer (.sectionDisturbed id cause d t slots)

/-! ### An axle leaves and enters a section -/

/-- An axle leaves a section at one end; from an empty section it comes as UNKNOWN and the section is disturbed
(R45, R48, R51). -/
def State.takeAxle (s : State) (id : SectionId) (side : Side) (d : Nat) (t : Clock) : State × Owner :=
  match takeRun side (s.sec id).runs with
  | some (owner, runs) => (s.setSec id { s.sec id with runs := runs }, owner)
  | none => (s.disturb id .emptySource (some d) (some t) .unknown, .unknown)

/-- An axle enters a section at one end: recorded, or discarded on overflow; an axle that enters a DISTURBED
section makes its owner LOST (R52, R54). The flag says that it was discarded. -/
def State.enterAxle (s : State) (id : SectionId) (side : Side) (owner : Owner) (d : Nat) (t : Clock) : State × Bool :=
  match addRun owner side (s.sec id).runs with
  | some runs =>
    let s1 := s.setSec id { s.sec id with runs := runs }
    match (s.sec id).disturbance, owner with
    | some _, .slot i => (s1.becomeLost i (.sec id) true, false)
    | _, _ => (s1, false)
  | none => (s.disturb id .runOverflow (some d) (some t) owner, true)

/-! ### The tracking table takes a crossing (R80) -/

/-- The tests an UP crossing of a slot makes at its counter, once the slot is unanchored (R80). -/
def State.upStep (s : State) (i : Nat) : Counter → State
  | .lead => s.rollbackTest i
  | .guardIn _ => s
  | .guardOut p _ => s.reenter i p
  | .clearance _ => s

/-- What a crossing of a slot does by its direction and by where its counter lies (R80). -/
def State.sortCrossing (s : State) (i : Nat) (x : Slot) (c : Counter) (dir : Direction) (t : Clock) : State :=
  match dir with
  | .down => if s.downstream x.head c then s.headCrossing i x c t else s.lateral i c
  | .up => (s.unanchor i).upStep i c

/-- The tracking table takes a crossing of slot `i`: nothing more for a discarded axle; otherwise the crossing,
the tail test, and the re-evaluation of every point whose claim list holds the slot or held it (R80). -/
def State.takeCrossing (s : State) (i : Nat) (c : Counter) (dir : Direction) (t : Clock) (discarded : Bool) : State :=
  if discarded then s
  else match s.slot i with
    | none => s
    | some x =>
      let s1 := (s.sortCrossing i x c dir t).tailTest i
      s1.reevaluateAll ((ids 63).filter fun p => s.stands i p || s1.stands i p)

/-- The crossing is handed to the tracking table when its owner is a slot (R55). -/
def State.handOver (s : State) (owner : Owner) (c : Counter) (dir : Direction) (t : Clock) (discarded : Bool) : State :=
  match owner with
  | .unknown => s
  | .slot i => s.takeCrossing i c dir t discarded

/-! ### Crossings by role (R45 to R50) -/

/-- A crossing between two sections: DOWN from the head of `u` to the tail of `v`, UP from the tail of `v` to
the head of `u`; then the tracking table (R45, R48, R55). The owner is answered for the guard notices. -/
def State.crossBetween (s : State) (c : Counter) (u v : SectionId) (dir : Direction) (d : Nat) (t : Clock) : State × Owner :=
  match dir with
  | .down =>
    let a := s.takeAxle u .head d t
    let b := a.1.enterAxle v .tail a.2 d t
    (b.1.handOver a.2 c .down t b.2, a.2)
  | .up =>
    let a := s.takeAxle v .tail d t
    let b := a.1.enterAxle u .head a.2 d t
    (b.1.handOver a.2 c .up t b.2, a.2)

/-- The guard notices of a crossing at a guard counter of `p` (R56): the entry, when it is one, then the change
of clearness. -/
def State.guardNotices (s : State) (p : Nat) (entry before : Bool) (t : Clock) (owner : Owner) : State :=
  (if entry then s.guardEntry p t owner else s).guardChange p before

/-- A crossing at a guard-in or guard-out counter of `p`, with the notices it gives the point controller. -/
def State.crossGuard (s : State) (p : Nat) (c : Counter) (u v : SectionId) (entry : Bool) (dir : Direction) (d : Nat) (t : Clock) : State :=
  let r := s.crossBetween c u v dir d t
  r.1.guardNotices p entry (s.guardClear p) t r.2

/-- A DOWN crossing at the lead entry counter (R46): the binder names the owner, the axle enters L(root), a cut
at its cap is closed, and the tracking table takes the crossing. A gap expiry that has already passed (R35) is taken
last, once the axle has entered L(root) and has been handed over: R35 says at once, and not where in the crossing
(DESIGN CHOICE, log entry 12). -/
def State.crossLeadDown (s : State) (lead : SectionId) (d : Nat) (t : Clock) : State :=
  let a := s.binderDown t
  let b := a.1.enterAxle lead .tail a.2 d t
  ((b.1.capClosure).handOver a.2 .lead .down t b.2).gapAtOnce

/-- An UP crossing at the lead entry counter (R39, R49). -/
def State.crossLeadUp (s : State) (lead : SectionId) (d : Nat) (t : Clock) : State :=
  let a := s.takeAxle lead .tail d t
  match a.2 with
  | .unknown => a.1
  | .slot i => (a.1.countDown i).takeCrossing i .lead .up t false

/-- A DOWN crossing at the clearance counter of track `k` (R47). -/
def State.crossClearDown (s : State) (k d : Nat) (t : Clock) : State :=
  let a := s.takeAxle (.trackLink k) .head d t
  a.1.handOver a.2 (.clearance k) .down t false

/-- The slots that an axle coming back out of track `k` may belong to (R50). -/
def State.returning (s : State) (k : Nat) : List Nat :=
  (ids 16).filter fun i => (s.slot i).any fun x => decide (x.phase = .clearing k) && decide (1 ≤ x.cleared)

/-- The younger of two slots by their crest ordinals (R38, R50). -/
def State.younger (s : State) (i j : Nat) : Nat :=
  match s.slot i, s.slot j with
  | some x, some y => if older x.ordinal y.ordinal then j else i
  | _, _ => i

/-- The owner of an axle coming back out of track `k`: the youngest slot that qualifies, or UNKNOWN (R50). Where R38's
comparison is a ring among the slots that qualify, or two ordinals are equal, none is youngest: the model goes through them
in ascending slot number and keeps the later only where it is younger (DESIGN CHOICE, log entry 23). -/
def State.returningOwner (s : State) (k : Nat) : Owner :=
  match s.returning k with
  | [] => .unknown
  | i :: rest => .slot (rest.foldl s.younger i)

/-- An UP crossing at the clearance counter of track `k` (R50). -/
def State.crossClearUp (s : State) (k d : Nat) (t : Clock) : State :=
  let owner := s.returningOwner k
  let s1 := match owner with
    | .unknown => s
    | .slot i => s.updSlot i fun x => { x with cleared := x.cleared - 1 }
  let b := s1.enterAxle (.trackLink k) .head owner d t
  b.1.handOver owner (.clearance k) .up t b.2

/-- One axle crossing at a counter with a role (R44 to R50). -/
def State.cross (s : State) (j : Joint) (dir : Direction) (d : Nat) (t : Clock) : State :=
  match j.counter, j.up, j.down, dir with
  | .lead, _, .sec lead, .down => s.crossLeadDown lead d t
  | .lead, _, .sec lead, .up => s.crossLeadUp lead d t
  | .guardIn p, .sec u, .sec v, dir => s.crossGuard p (.guardIn p) u v (decide (dir = .down)) dir d t
  | .guardOut p x, .sec u, .sec v, dir => s.crossGuard p (.guardOut p x) u v (decide (dir = .up)) dir d t
  | .clearance k, _, _, .down => s.crossClearDown k d t
  | .clearance k, _, _, .up => s.crossClearUp k d t
  | _, _, _, _ => s

/-- The event time of an axle accepted at `arrival` with an age: 0 when the age is greater than the time since the device
reset, which only a clock that has not `wrapped` since then can read; otherwise the subtraction modulo 2^32
(R43; log entry 21). -/
def eventTime (wrapped : Bool) (arrival : Clock) (age : Nat) : Clock :=
  if !wrapped && decide (arrival.toNat < age) then 0 else arrival - BitVec.ofNat 32 age

/-- An AXLE telegram handed to the section counter unit with its arrival time (R43, R44). -/
def State.axle (s : State) (d : Nat) (dir : Direction) (age : Nat) : State :=
  match s.engine.state with
  | .config => s
  | .run | .halted =>
    match s.joint d with
    | some j => s.cross j dir d (eventTime s.wrapped s.clock age)
    | none => { s with link := { s.link with unmapped := raise s.link.unmapped } }

/-! ### Restoring (R57, R58) -/

/-- The change of clearness is told when the section is a guard (R56). -/
def State.tellGuard (s : State) (id : SectionId) (before : Bool) : State :=
  match id with
  | .guard p => s.guardChange p before
  | .pointLink _ | .trackLink _ => s

/-- The clearness of the guard a section is; a link has none. -/
def State.clearOf (s : State) : SectionId → Bool
  | .guard p => s.guardClear p
  | .pointLink _ | .trackLink _ => true

/-- A DISTURBED section is emptied and set NORMAL (R57). -/
def State.restore (s : State) (id : SectionId) : State :=
  (s.setSec id ⟨none, []⟩).tellGuard id (s.clearOf id)

/-- The DISTURBED sections among the 190, in section order (R58). -/
def State.disturbedSections (s : State) : List SectionId :=
  allSections.filter fun id => (s.sec id).disturbance.isSome

/-! ### Run removal (R59) -/

/-- Neighbouring runs of one owner are joined. -/
def joinRuns : List Run → List Run
  | [] => []
  | r :: rest =>
    match joinRuns rest with
    | [] => [r]
    | n :: tail => if n.owner = r.owner then { r with count := r.count + n.count } :: tail else r :: n :: tail

/-- The runs of a section once those of slot `i` are removed and neighbours joined. -/
def Section.without (x : Section) (i : Nat) : List Run := joinRuns (x.runs.filter fun r => decide (r.owner ≠ .slot i))

/-- A joined run holds at most 127 axles (R59). -/
def capRuns (l : List Run) : List Run := l.map fun r => { r with count := min Config.axleCap r.count }

/-- The sections in which the removal of slot `i`'s runs joins more than 127 axles (R59). -/
def State.overflowing (s : State) (i : Nat) : List SectionId :=
  allSections.filter fun id => (s.sec id).holds i && ((s.sec id).without i).any fun r => decide (Config.axleCap < r.count)

/-- Every section list without the runs of slot `i`; a list that held none of them stays as it is. -/
def State.cutRuns (s : State) (i : Nat) : State :=
  allSections.foldl (fun a id =>
    if (a.sec id).holds i then a.setSec id { a.sec id with runs := capRuns ((a.sec id).without i) } else a) s

/-- Every run of slot `i` is removed from every section list, overflowing sections are disturbed, and the point
controller is told of the guards whose clearness changed (R59). R59 gives several overflowing sections no order; the
model disturbs and reports them after all removals, in the section order of R42. Nor does a rule say whether the guards made clear
are told before or after those disturbances, with their LOST slots: the model tells the point controller last, of each guard in
ascending point id (DESIGN CHOICE, log entry 13). -/
def State.removeRuns (s : State) (i : Nat) : State :=
  let s1 := (s.overflowing i).foldl (fun a id => a.disturb id .runOverflow none none .unknown) (s.cutRuns i)
  (ids 63).foldl (fun a p => a.guardChange p (s.guardClear p)) s1

end Sys2Proof.Machine
end

