-- ==== Sys2Proof/Machine/Receive.lean ====
section
/-! DEFINITION. The link interface's receiving side and its commands: TELEGRAM_RECEIVED, PASS_TELEGRAM_MOVE and END_OF_TRANSMISSION (R149 to R153, R157). -/

namespace Sys2Proof.Machine

/-- A failing frame: the port's count rises, and an empty first-error record takes the error and reports it (R150). -/
def State.lineError (s : State) (p : Port) (cls : ErrorClass) : State :=
  let x := s.port p
  let y := { x with errors := raise x.errors }
  match x.firstError with
  | some _ => s.setPort p y
  | none => (s.setPort p { y with firstError := some (cls, s.clock) }).offer (.linkError p cls s.clock)

/-- A telegram stays in a receive buffer of the port, after those accepted before it (R152). -/
def State.keep (s : State) (p : Port) (own : Bool) (m : Telegram) : State :=
  s.setPort p { s.port p with waiting := (s.port p).waiting ++ [⟨own, m⟩] }

/-- The oldest telegram waiting in a port's buffers that is, or is not, an own request. -/
def State.oldestWaiting (s : State) (p : Port) (own : Bool) : Option Telegram :=
  ((s.port p).waiting.find? fun w => w.own == own).map Waiting.telegram

/-- That telegram leaves the buffers. -/
def State.dropWaiting (s : State) (p : Port) (own : Bool) : State :=
  s.setPort p { s.port p with waiting := (s.port p).waiting.eraseP fun w => w.own == own }

/-- The oldest pass telegram of a port moves to the other port's pass queue when that has room, and its buffer is
freed (R152). -/
def State.movePass (s : State) (p : Port) : State :=
  match s.oldestWaiting p false with
  | none => s
  | some m =>
    let x := s.port (other p)
    if Config.passQueueRoom ≤ x.passQueue.length then s
    else
      (((s.dropWaiting p false).setPort (other p) { x with passQueue := x.passQueue ++ [m] }).select (other p)).freeBuffer p

/-- Up to `n` pass telegrams of a port move, oldest first, while the other port's pass queue has room. -/
def State.movePasses (s : State) (p : Port) : Nat → State
  | 0 => s
  | n + 1 => (s.movePass p).movePasses p n

/-- The telegrams that a port accepted before are handled: each pass telegram among them that has room moves, in the order of
acceptance (R152). One that has found the queue full can have got room since. -/
def State.handleEarlier (s : State) (p : Port) : State := s.movePasses p (s.port p).waiting.length

/-- A copy of a consumed broadcast goes to Port Y's pass queue when forwarding is ALL, or is dropped and counted
when that queue is full (R151, R153). -/
def State.forward (s : State) (m : Telegram) : State :=
  if !s.tables.params.forwardAll then s
  else if s.link.y.passQueue.length < Config.passQueueRoom then
    (s.setPort .y { s.link.y with passQueue := s.link.y.passQueue ++ [m] }).select .y
  else { s with link := { s.link with forwardingLoss := raise s.link.forwardingLoss } }

/-- A consumed broadcast is handed to its block (R151); its payload has passed the checks of R149. -/
def State.consume (s : State) (m : Telegram) : State :=
  if m.kind = kindAxle then
    match parseAxle m.payload with
    | some (d, dir, age) => s.axle d dir age
    | none => s
  else
    match parsePointStatus m.payload with
    | some (p, detected, drive) => s.pointStatus m.src.toNat p detected drive
    | none => s

/-- The telegram is a request of the part's own (R151). -/
def State.isOwn (s : State) (m : Telegram) : Bool :=
  decide (m.kind = kindRequest) && decide (s.station = some m.dest.toNat)

/-- An accepted telegram is classified and handled: a FILL and a trackside broadcast are consumed, an own request stays in its buffer for
its request command, and a pass telegram moves to the other port's pass queue, or stays while that is full (R149, R151, R152). -/
def State.classify (s : State) (p : Port) (m : Telegram) : State :=
  if m.kind = kindFill then s.freeBuffer p
  else if m.isTracksideBroadcast p then ((s.consume m).forward m).freeBuffer p
  else if s.isOwn m then s.keep p true m
  else (s.keep p false m).movePass p

/-- The credits an accepted telegram returns are added; a rise from 0 makes the port select (R154, R157). -/
def State.takeCredits (s : State) (p : Port) (n : Nat) : State :=
  let s1 := s.addCredits p n
  if (s.port p).credits = 0 ∧ 0 < n then s1.selectWaiting p else s1

/-- A frame ends on a port (R149). `beganFull` says that all eight buffers were held when it began (log entry 8). A FILL so begun is
an overrun as any telegram is, and its credits are lost, though R154 says that a FILL holds no buffer (DESIGN CHOICE, log entry
29). Of a failing
frame the error is recorded and reported first, and its buffer then freed: R149 orders neither before the other
(DESIGN CHOICE, log entry 26). -/
def State.receiveFrame (s : State) (p : Port) (beganFull : Bool) (frame : List Byte) : State :=
  if beganFull || decide (Config.receiveBuffers ≤ (s.port p).waiting.length) then s.lineError p .overrun
  else match readFrame p frame with
    | .error cls => (s.lineError p cls).freeBuffer p
    | .ok r => (s.takeCredits p r.credits).classify p r.telegram

/-- A frame ends on a port, whose earlier telegrams are handled first (R149, R152). -/
def State.receive (s : State) (p : Port) (beganFull : Bool) (frame : List Byte) : State :=
  (s.handleEarlier p).receiveFrame p beganFull frame

/-- TELEGRAM_RECEIVED (R149). -/
def execTelegramReceived (p : Port) (beganFull : Bool) (frame : List Byte) (s : State) : Host.Outcome State Fault Refusal :=
  .next (s.receive p beganFull frame)

/-- PASS_TELEGRAM_MOVE (R152): a pass telegram that found the other port's pass queue full moves once that has room. When, after the room
has come, the command comes is its sender's to say; where the next frame ends on the port before it, the telegram moves then (DESIGN
CHOICE, log entry 32). -/
def execPassTelegramMove (p : Port) (s : State) : Host.Outcome State Fault Refusal := .next (s.movePass p)

/-- A port's transmission ends: its transmitter is idle and it selects anew (R157). On an idle port there is no
such event. -/
def State.endSending (s : State) (p : Port) : State :=
  match (s.port p).sending with
  | none => s
  | some _ => (s.setPort p { s.port p with sending := none }).selectWaiting p

/-- END_OF_TRANSMISSION (R157). -/
def execEndOfTransmission (p : Port) (s : State) : Host.Outcome State Fault Refusal := .next (s.endSending p)

end Sys2Proof.Machine
end

