-- ==== Sys2Proof/Machine/Requests.lean ====
section
/-! DEFINITION. The carrying out of requests: one at a time, when the response queue has room, with one response each (R152, R156, R162, R163), and UNKNOWN_REQUEST. -/

namespace Sys2Proof.Machine

/-- A request's effect: from the state and the source address, the state after it and the outcome. -/
abbrev Effect := Nat → State → State × Answer

/-- The request `q` names is carried out: the oldest own request waiting on its port, once the response queue has
room. Its response is placed, and only then is its buffer freed (R152). Where no request waits there, or
the response queue is full, nothing happens. -/
def State.handle (s : State) (q : Req) (code : RequestCode) (effect : Effect) : State :=
  match s.oldestWaiting q.port true with
  | none => s
  | some m =>
    if Config.responseRoom ≤ s.link.responses.length then s
    else
      let r := effect m.src.toNat s
      ((r.1.respond ⟨q.port, m.src.toNat, q.tag, code, r.2⟩).dropWaiting q.port true).freeBuffer q.port

/-- A controller-only request: the claim check comes first (R163). It asks for the claim alone, as R163 and R133 do, also
after a warm reset, where R172 says that a former holder must claim again and send a SERVICE before it can change
the part (DESIGN CHOICE, log entry 27). -/
def controlled (effect : State → State × Answer) : Effect := fun src s =>
  if s.mgmt.holder = some src then effect s else (s, .notController)

/-- A request is refused and changes nothing (00_scope, Refusals). -/
def refuse (a : Answer) (s : State) : State × Answer := (s, a)

/-- A request is answered DONE with the state it leaves. -/
def done (s : State) : State × Answer := (s, .done .plain)

end Sys2Proof.Machine

namespace Sys2Proof

/-- The code names a controller-only request of 9.2 (R163). -/
def RequestCode.controllerOnly : RequestCode → Bool
  | .statusRead | .tableRead | .cutListRead | .slotRead | .sectionRead | .pointRead | .linkRead | .claimControl
  | .warmReset | .other _ => false
  | .releaseControl | .tableWrite | .cutAppend | .cutInsertBefore | .cutWithdraw | .cutAmend | .cutListClear | .slotDrop
  | .sectionRestore | .restoreAll | .pointHold | .pointRelease | .pointSet | .pointClearFault | .pointClearRetries
  | .start | .stopEngine | .halt | .resume | .service | .fenceWrite => true

end Sys2Proof

namespace Sys2Proof.Machine

/-- A request whose code names none, or whose payload does not fit its code: BAD_ARGUMENT, the claim check of a
controller-only code coming before (R162, R163). -/
def unknownRequest (code : RequestCode) : Effect :=
  if code.controllerOnly then controlled (refuse .badArgument) else fun _ s => (s, .badArgument)

/-- UNKNOWN_REQUEST (R162). -/
def execUnknownRequest (q : Req) (code : RequestCode) (s : State) : Host.Outcome State Fault Refusal :=
  .next (s.handle q code (unknownRequest code))

end Sys2Proof.Machine
end

