-- ==== Sys2Proof/Machine/CutList.lean ====
section
/-! DEFINITION. The editing requests of the cut list (R24 to R30). -/

namespace Sys2Proof.Machine

/-- The list holds a record with this cut number. -/
def State.listed (s : State) (n : Nat) : Bool := s.cutList.any fun r => decide (r.number = n)

/-- The cut number is already held, in the list or by a slot in use (R24). -/
def State.numberHeld (s : State) (n : Nat) : Bool := s.listed n || s.slotWithNumber n

/-- The cut list becomes `l`, and the signal demand unit is told of its count (R24, R140). -/
def State.setCutList (s : State) (l : List CutRecord) : State := ({ s with cutList := l }).recompute

/-- The refusal of a cut number that names no record in the list: WRONG_STATE when a slot has it, else NOT_FOUND
(R26, R27, R28). R26 and R27 name no check of the range of a reference or a number to be withdrawn, while R162 gives BAD_ARGUMENT
for an argument out of range: a number above 65,535, which no record and no slot can have, answers NOT_FOUND here (DESIGN
CHOICE, log entry 30). -/
def State.notListed (s : State) (n : Nat) : Answer := if s.slotWithNumber n then .wrongState none else .notFound

/-- A new record is checked for its fields, its number and the list's room, in that order, and `next` carries on
(R25, R26). -/
def State.withNewCut (s : State) (n : Nat) (x : CutFields) (next : CutRecord → State × Answer) : State × Answer :=
  match cutRecordOf n x with
  | none => refuse .badArgument s
  | some r =>
    if s.numberHeld n then refuse .duplicate s
    else if Config.cutListRoom ≤ s.cutList.length then refuse .full s
    else next r

/-- CUT_APPEND (R25). -/
def cutAppend (n : Nat) (x : CutFields) (s : State) : State × Answer :=
  s.withNewCut n x fun r => done (s.setCutList (s.cutList ++ [r]))

/-- A record placed directly before the one with cut number `reference`. -/
def insertBefore (reference : Nat) (r : CutRecord) (l : List CutRecord) : List CutRecord :=
  l.takeWhile (fun y => decide (y.number ≠ reference)) ++ r :: l.dropWhile (fun y => decide (y.number ≠ reference))

/-- CUT_INSERT_BEFORE (R26). -/
def cutInsertBefore (reference n : Nat) (x : CutFields) (s : State) : State × Answer :=
  s.withNewCut n x fun r =>
    if s.listed reference then done (s.setCutList (insertBefore reference r s.cutList))
    else refuse (s.notListed reference) s

/-- CUT_WITHDRAW (R27). -/
def cutWithdraw (n : Nat) (s : State) : State × Answer :=
  if s.listed n then done (s.setCutList (s.cutList.filter fun r => decide (r.number ≠ n)))
  else refuse (s.notListed n) s

/-- CUT_AMEND (R28). -/
def cutAmend (n : Nat) (x : CutFields) (s : State) : State × Answer :=
  match cutRecordOf n x with
  | none => refuse .badArgument s
  | some r =>
    if s.slotWithNumber n then refuse (.wrongState none) s
    else if s.listed n then done (s.setCutList (s.cutList.map fun y => if y.number = n then r else y))
    else refuse .notFound s

/-- CUT_LIST_CLEAR (R29). -/
def cutListClear (s : State) : State × Answer := done (s.setCutList [])

/-- CUT_APPEND (R25). -/
def execCutAppend (q : Req) (n : Nat) (x : CutFields) (s : State) : Host.Outcome State Fault Refusal :=
  .next (s.handle q .cutAppend (controlled (cutAppend n x)))

/-- CUT_INSERT_BEFORE (R26). -/
def execCutInsertBefore (q : Req) (reference n : Nat) (x : CutFields) (s : State) : Host.Outcome State Fault Refusal :=
  .next (s.handle q .cutInsertBefore (controlled (cutInsertBefore reference n x)))

/-- CUT_WITHDRAW (R27). -/
def execCutWithdraw (q : Req) (n : Nat) (s : State) : Host.Outcome State Fault Refusal :=
  .next (s.handle q .cutWithdraw (controlled (cutWithdraw n)))

/-- CUT_AMEND (R28). -/
def execCutAmend (q : Req) (n : Nat) (x : CutFields) (s : State) : Host.Outcome State Fault Refusal :=
  .next (s.handle q .cutAmend (controlled (cutAmend n x)))

/-- CUT_LIST_CLEAR (R29). -/
def execCutListClear (q : Req) (s : State) : Host.Outcome State Fault Refusal :=
  .next (s.handle q .cutListClear (controlled cutListClear))

end Sys2Proof.Machine
end

