-- ==== Sys2Proof/Machine/TableWrites.lean ====
section
/-! DEFINITION. TABLE_WRITE, by table and form (R1 to R8, R102, R168). -/

namespace Sys2Proof.Machine

/-- The engine is in CONFIG. -/
def State.inConfig (s : State) : Bool := decide (s.engine.state = .config)

/-- A point's runtime record as a write or a removal of its point record leaves it: as a warm reset sets it, but for
the mode, which is kept, and the learned throw time (R2, R102). The throw start time then has no meaning
and is a free value (log entry 5). -/
def PointRuntime.rewritten (r : PointRuntime) (moment : Nat) (nominal : Option Nat) : PointRuntime :=
  { PointRuntime.reset with
    held := r.held
    learned := nominal
    throwStart := Config.meaninglessInstant moment }

/-- A point record becomes `rec`, present or absent (R1, R2, R102). -/
def State.putPoint (s : State) (p : Nat) (rec : Option PointRecord) : State :=
  let s1 := { s with tables := { s.tables with points := writeAt s.tables.points p rec }, moments := s.moments + 1 }
  ((s1.dropThrow p).setPt p ((s.pt p).rewritten s.moments (rec.map PointRecord.nominal))).tellFailed

/-- A track record becomes `rec`, present or absent (R1, R3). -/
def State.putTrack (s : State) (t : Nat) (rec : Option TrackRecord) : State :=
  { s with tables := { s.tables with tracks := writeAt s.tables.tracks t rec } }

/-- TABLE_WRITE POINT, whole form (R2, R8, R168). -/
def tableWritePoint (p : Nat) (x : PointFields) (s : State) : State × Answer :=
  if !inRange 1 63 p then refuse .badArgument s
  else if !s.inConfig then refuse (.wrongState none) s
  else match pointRecordOf p x with
    | none => refuse .badArgument s
    | some rec => done (s.putPoint p (some rec))

/-- TABLE_WRITE POINT, remove form (R1, R2, R8, R168). -/
def tableWritePointRemove (p : Nat) (s : State) : State × Answer :=
  if !inRange 1 63 p then refuse .badArgument s
  else if !s.inConfig then refuse (.wrongState none) s
  else if (s.pointRecord p).isNone then done s
  else done (s.putPoint p none)

/-- TABLE_WRITE TRACK, whole form (R3, R8, R168). -/
def tableWriteTrack (t : Nat) (x : TrackFields) (s : State) : State × Answer :=
  if !inRange 1 64 t then refuse .badArgument s
  else if !s.inConfig then refuse (.wrongState none) s
  else match trackRecordOf t x with
    | none => refuse .badArgument s
    | some rec => done (s.putTrack t (some rec))

/-- TABLE_WRITE TRACK, register form (R3, R8, R168). -/
def tableWriteTrackRegister (t : Nat) (x : RegisterFields) (s : State) : State × Answer :=
  if !inRange 1 64 t then refuse .badArgument s
  else match registerOf t x with
    | none => refuse .badArgument s
    | some status =>
      match s.trackRecord t with
      | none => refuse .notFound s
      | some rec => done (s.putTrack t (some { rec with status := status, room := x.room, alternates := x.alternates }))

/-- TABLE_WRITE TRACK, remove form (R1, R3, R8, R168). -/
def tableWriteTrackRemove (t : Nat) (s : State) : State × Answer :=
  if !inRange 1 64 t then refuse .badArgument s
  else if !s.inConfig then refuse (.wrongState none) s
  else done (s.putTrack t none)

/-- What the write of an item starts at once: item 3 writes the demand (R142), item 11 is an input of the demand
(R140). -/
def State.afterParameter (s : State) (item : Nat) : State :=
  if item = 3 then s.writeDemand else if item = 11 then s.recompute else s

/-- TABLE_WRITE PARAMETER (R5, R8, R168): items 1 to 4 in CONFIG only. -/
def tableWriteParameter (item : Nat) (v : ParameterValue) (s : State) : State × Answer :=
  if !inRange 1 14 item then refuse .badArgument s
  else if decide (item ≤ 4) && !s.inConfig then refuse (.wrongState none) s
  else match s.tables.params.write item v with
    | none => refuse .badArgument s
    | some params => done (({ s with tables := { s.tables with params := params } }).afterParameter item)

/-- An entry may name the track now: in RUN or HALTED its record must be present (R6, R7). -/
def State.mayName (s : State) (t : Nat) : Bool := s.inConfig || (s.trackRecord t).isSome

/-- TABLE_WRITE ROUTE (R6, R8, R168). -/
def tableWriteRoute (code value : Nat) (s : State) : State × Answer :=
  if !inRange 0 1023 code then refuse .badArgument s
  else if !inRange 0 64 value then refuse .badArgument s
  else if decide (value ≠ 0) && !s.mayName value then refuse .badArgument s
  else done { s with tables := { s.tables with routes := writeAt s.tables.routes (code + 1) value } }

/-- TABLE_WRITE PATCH (R7, R8, R168). -/
def tableWritePatch (k : Nat) (x : PatchFields) (s : State) : State × Answer :=
  if !inRange 1 8 k then refuse .badArgument s
  else match patchOf x with
    | none => refuse .badArgument s
    | some e =>
      if e.enabled && !s.mayName e.track then refuse .badArgument s
      else done { s with tables := { s.tables with patches := writeAt s.tables.patches k e } }

/-- TABLE_WRITE_POINT (R2). -/
def execTableWritePoint (q : Req) (p : Nat) (x : PointFields) (s : State) : Host.Outcome State Fault Refusal :=
  .next (s.handle q .tableWrite (controlled (tableWritePoint p x)))

/-- TABLE_WRITE_POINT_REMOVE (R1). -/
def execTableWritePointRemove (q : Req) (p : Nat) (s : State) : Host.Outcome State Fault Refusal :=
  .next (s.handle q .tableWrite (controlled (tableWritePointRemove p)))

/-- TABLE_WRITE_TRACK (R3). -/
def execTableWriteTrack (q : Req) (t : Nat) (x : TrackFields) (s : State) : Host.Outcome State Fault Refusal :=
  .next (s.handle q .tableWrite (controlled (tableWriteTrack t x)))

/-- TABLE_WRITE_TRACK_REGISTER (R3). -/
def execTableWriteTrackRegister (q : Req) (t : Nat) (x : RegisterFields) (s : State) : Host.Outcome State Fault Refusal :=
  .next (s.handle q .tableWrite (controlled (tableWriteTrackRegister t x)))

/-- TABLE_WRITE_TRACK_REMOVE (R1). -/
def execTableWriteTrackRemove (q : Req) (t : Nat) (s : State) : Host.Outcome State Fault Refusal :=
  .next (s.handle q .tableWrite (controlled (tableWriteTrackRemove t)))

/-- TABLE_WRITE_PARAMETER (R5). -/
def execTableWriteParameter (q : Req) (item : Nat) (v : ParameterValue) (s : State) : Host.Outcome State Fault Refusal :=
  .next (s.handle q .tableWrite (controlled (tableWriteParameter item v)))

/-- TABLE_WRITE_ROUTE (R6). -/
def execTableWriteRoute (q : Req) (code value : Nat) (s : State) : Host.Outcome State Fault Refusal :=
  .next (s.handle q .tableWrite (controlled (tableWriteRoute code value)))

/-- TABLE_WRITE_PATCH (R7). -/
def execTableWritePatch (q : Req) (k : Nat) (x : PatchFields) (s : State) : Host.Outcome State Fault Refusal :=
  .next (s.handle q .tableWrite (controlled (tableWritePatch k x)))

end Sys2Proof.Machine
end

