-- ==== Sys2Proof/Machine/EngineRequests.lean ====
section
/-! DEFINITION. The requests to the engine and to the management function: START, STOP_ENGINE, HALT, RESUME, the control claim, SERVICE and FENCE_WRITE (R133 to R138, R143 to R145, R164, R165, R170). -/

namespace Sys2Proof.Machine

/-! ### The engine -/

/-- A START that has passed its checks: the structures are built, the engine becomes RUN or HALTED by the cause
set, and the change is reported and handed on (R134). -/
def State.startEngine (s : State) : State :=
  let s1 := s.derive
  ({ s1 with engine := { s1.engine with state := if s1.engine.causes.none then .run else .halted } }).enterEngine .start

/-- START (R133, R134). -/
def start (s : State) : State × Answer :=
  if !s.inConfig then refuse (.wrongState none) s
  else match s.tableCheck with
    | some x => refuse (.tableError x.1 x.2) s
    | none =>
      match s.sectionCheck with
      | some id => refuse (.disturbed id) s
      | none => done s.startEngine

/-- A section as STOP_ENGINE leaves it: a NORMAL one is DISTURBED and keeps its runs (R42). -/
def Section.stopped (x : Section) : Section :=
  match x.disturbance with
  | some _ => x
  | none => { x with disturbance := some ⟨.stopped, none, none⟩ }

/-- Every section as STOP_ENGINE leaves it (R42). -/
def Sections.stopped (x : Sections) : Sections :=
  ⟨mapAll Section.stopped x.guards, mapAll Section.stopped x.pointLinks, mapAll Section.stopped x.trackLinks⟩

/-- A STOP_ENGINE that has passed its checks: CONFIG, the binder CLOSED, the sections DISTURBED, the point controller told of
each guard that was clear and is now occupied, and the change reported and handed on (R42, R135). A return THROW
still queued is then a guard violation, whose causes the one report of this request carries (R114, R132). Several such
guards are told, and their GUARD_VIOLATION reports offered, in ascending point id: R42 and R135 give them no order (DESIGN
CHOICE, log entry 13). -/
def State.haltEngine (s : State) : State :=
  let s1 := ({ s with engine := { s.engine with state := .config } }).shutBinder
  let s2 := { s1 with sections := s1.sections.stopped }
  (((ids 63).filter s.guardClear).foldl (fun a p => a.guardOccupied p true) s2).enterEngine .stopEngine

/-- STOP_ENGINE (R135). -/
def stopEngine (s : State) : State × Answer :=
  if s.inConfig then refuse (.wrongState none) s
  else if 0 < s.slotsInUse then refuse (.busy s.slotsInUse) s
  else done s.haltEngine

/-- HALT (R137). -/
def halt (s : State) : State × Answer :=
  if s.inConfig then refuse (.wrongState none) s
  else done (s.changeCauses (s.engine.causes.put .command true) .halt)

/-- RESUME (R138). -/
def resume (s : State) : State × Answer :=
  if s.engine.causes.pointFailed || s.engine.causes.supervision then refuse (.wrongState (some s.engine.causes)) s
  else done (s.changeCauses ((s.engine.causes.put .command false).put .guardViolation false) .resume)

/-! ### The claim, supervision and the fence set -/

/-- Supervision as a claim or an accepted SERVICE arms it (R143, R144). -/
def State.armed (s : State) : Option Supervision :=
  some ⟨after s.clock s.tables.params.supervisionPeriod, s.clock⟩

/-- CLAIM_CONTROL (R164). -/
def claimControl : Effect := fun src s =>
  match s.mgmt.holder with
  | none => done { s with mgmt := { s.mgmt with holder := some src, supervision := s.armed, phase := none } }
  | some h => if h = src then done s else refuse (.heldElsewhere h) s

/-- RELEASE_CONTROL (R165). -/
def releaseControl (s : State) : State × Answer :=
  done { s with mgmt := { s.mgmt with holder := none, supervision := none, phase := none } }

/-- The phase a SERVICE carries: 0 or 1 (R144). -/
def phaseOf (n : Nat) : Option (Fin 2) := if n = 0 then some 0 else if n = 1 then some 1 else none

/-- SERVICE (R144, R145). -/
def service (phase : Nat) (s : State) : State × Answer :=
  match phaseOf phase with
  | none => refuse .badArgument s
  | some x =>
    if s.mgmt.phase = some x then refuse .badArgument s
    else
      let s1 := { s with mgmt := { s.mgmt with supervision := s.armed, phase := some x } }
      done (if s.mgmt.phase.isNone then s1.clearCause .supervision else s1)

/-- FENCE_WRITE (R170). -/
def fenceWrite (fence : Option Fence) (s : State) : State × Answer :=
  if !s.inConfig then refuse (.wrongState none) s
  else match fenceOf fence with
    | none => refuse .badArgument s
    | some f => done { s with mgmt := { s.mgmt with fence := f } }

/-! ### The commands -/

/-- CLAIM_CONTROL (R164). -/
def execClaimControl (q : Req) (s : State) : Host.Outcome State Fault Refusal :=
  .next (s.handle q .claimControl claimControl)

/-- RELEASE_CONTROL (R165). -/
def execReleaseControl (q : Req) (s : State) : Host.Outcome State Fault Refusal :=
  .next (s.handle q .releaseControl (controlled releaseControl))

/-- START (R133). -/
def execStart (q : Req) (s : State) : Host.Outcome State Fault Refusal :=
  .next (s.handle q .start (controlled start))

/-- STOP_ENGINE (R135). -/
def execStopEngine (q : Req) (s : State) : Host.Outcome State Fault Refusal :=
  .next (s.handle q .stopEngine (controlled stopEngine))

/-- HALT (R137). -/
def execHalt (q : Req) (s : State) : Host.Outcome State Fault Refusal :=
  .next (s.handle q .halt (controlled halt))

/-- RESUME (R138). -/
def execResume (q : Req) (s : State) : Host.Outcome State Fault Refusal :=
  .next (s.handle q .resume (controlled resume))

/-- SERVICE (R144). -/
def execService (q : Req) (phase : Nat) (s : State) : Host.Outcome State Fault Refusal :=
  .next (s.handle q .service (controlled (service phase)))

/-- FENCE_WRITE (R170). -/
def execFenceWrite (q : Req) (fence : Option Fence) (s : State) : Host.Outcome State Fault Refusal :=
  .next (s.handle q .fenceWrite (controlled (fenceWrite fence)))

end Sys2Proof.Machine
end

