-- ==== Sys2Proof/Machine/Reads.lean ====
section
/-! DEFINITION. The reads: STATUS_READ, TABLE_READ, CUT_LIST_READ, SLOT_READ, SECTION_READ, POINT_READ and LINK_READ (R21, R24, R60, R100, R130, R161, R166, R167, R169). -/

namespace Sys2Proof.Machine

/-- A read of a part answers its content with the number of parts, and changes nothing (R166). -/
def answerPart (part parts : Nat) (content : Content) (s : State) : State × Answer := (s, .done (.part part parts content))

/-- The entries of a list from a starting entry 1 onward, as many as one response holds (R166). -/
def page {α : Type} (l : List α) (first held : Nat) : List α := (l.drop (first - 1)).take held

/-! ### STATUS_READ (R167) -/

/-- STATUS_READ part 0. -/
def State.status0 (s : State) : Content :=
  .status0 s.clock s.engine.state s.engine.causes s.mgmt.holder (s.mgmt.supervision.map Supervision.expiry) s.mgmt.phase
    s.mgmt.fence s.signal.demand

/-- STATUS_READ part 1. The number of points FAILED is engine control's (R131). -/
def State.status1 (s : State) : Content :=
  .status1 s.cutList.length s.slotsInUse s.binder.state s.engine.failed s.countUnknown s.countDisturbed
    s.reports.queue.length s.reports.discards

/-- STATUS_READ (R167). -/
def statusRead (part : Nat) (s : State) : State × Answer :=
  match part with
  | 0 => answerPart 0 2 s.status0 s
  | 1 => answerPart 1 2 s.status1 s
  | _ => refuse .badArgument s

/-! ### TABLE_READ (R21, R169) -/

/-- The fields of part 0 of a point record (R169). -/
def PointRecord.part0 (r : PointRecord) : PointPart0 :=
  ⟨r.upstream, r.left, r.right, r.guardIn, r.leftOut, r.rightOut, r.guardLength, r.linkLength, r.machine⟩

/-- The fields of part 1 of a point record (R169). -/
def PointRecord.part1 (r : PointRecord) : PointPart1 :=
  ⟨r.nominal, r.tMin, r.tMax, r.deglitch, r.response, r.retryLimit, r.retryDelay⟩

/-- A yard parameter item as a read returns it, 0 for an item not set (R21); item 14 names a report kind. -/
def Params.read (x : Params) (item : Nat) (kind : Option ReportKind) : Option ParameterValue :=
  match item, kind with
  | 1, _ => some (.number x.leadDetector)
  | 2, _ => some (.number x.rejectTrack)
  | 3, _ => some (.number x.signalStation)
  | 4, _ => some (.number x.supervisionPeriod)
  | 5, _ => some (.number x.separation)
  | 6, _ => some (.number x.entrySpeed)
  | 7, _ => some (.weights x.w1 x.w2 x.w3 x.w4)
  | 8, _ => some (.number x.margin)
  | 9, _ => some (.number x.allowance)
  | 10, _ => some (.number x.stallAllowance)
  | 11, _ => some (.thresholds x.slow x.stop)
  | 12, _ => some (.number x.refresh)
  | 13, _ => some (.forwarding (some x.forwardAll))
  | 14, some k => some (.level (some k) (some (x.level k)))
  | _, _ => none

/-- The entry a TABLE_READ of one part returns; none where its address is out of range (R169). A point record,
read in two parts, is not among them. -/
def State.tableEntry (s : State) : TableEntry → Option Content
  | .point _ => none
  | .track t => if inRange 1 64 t then some (.track ((s.trackRecord t).map fun r => (r, s.reserved t))) else none
  | .parameter item kind => (s.tables.params.read item kind).map .parameter
  | .route code count =>
    if inRange 0 1023 code && inRange 1 16 count && decide (code + count ≤ 1024) then
      some (.routes ((List.range count).map fun k => s.routeEntry (code + k)))
    else none
  | .patch k => if inRange 1 8 k then some (.patch (readAt s.tables.patches ⟨false, 0, 0, 0⟩ k)) else none
  | .unknown => none

/-- TABLE_READ of a point record (R169). -/
def tableReadPoint (p part : Nat) (s : State) : State × Answer :=
  if !inRange 1 63 p then refuse .badArgument s
  else match part with
    | 0 => answerPart 0 2 (.point0 ((s.pointRecord p).map PointRecord.part0)) s
    | 1 => answerPart 1 2 (.point1 ((s.pointRecord p).map PointRecord.part1)) s
    | _ => refuse .badArgument s

/-- TABLE_READ (R169). -/
def tableRead (entry : TableEntry) (part : Nat) (s : State) : State × Answer :=
  match entry with
  | .point p => tableReadPoint p part s
  | other =>
    match s.tableEntry other, part with
    | some content, 0 => answerPart 0 1 content s
    | _, _ => refuse .badArgument s

/-! ### CUT_LIST_READ (R24, R166) -/

/-- CUT_LIST_READ: the count, and up to 4 records with their positions. -/
def cutListRead (first : Nat) (s : State) : State × Answer :=
  if !inRange 1 32 first then refuse .badArgument s
  else (s, .done (.cutList s.cutList.length (page ((ids s.cutList.length).zip s.cutList) first 4)))

/-! ### SLOT_READ (R100) -/

/-- SLOT_READ part 0. R100 gives every field of R77, while its own list and the parts of R166 name neither the bound record
(but for its cut number) nor the NO_ALTERNATE mark: the read returns neither (DESIGN CHOICE, log entry 24). Its state names the track that a CLEARING slot clears into, which R166's table
lists in part 1 (DESIGN CHOICE, log entry 34). -/
def Slot.content0 (x : Slot) : Content :=
  .slot0 x.phase x.number x.ordinal x.expected x.counted x.cleared x.target x.unresolved x.reservation x.flags

/-- The clearing track of a slot (R77). -/
def Slot.clearingTrack (x : Slot) : Option Nat :=
  match x.phase with
  | .clearing t => some t
  | .entering | .rolling => none

/-- SLOT_READ part 1. R166 calls the crest ordinal a field common to the parts of a slot, while its table of parts names the
ordinal in part 0 alone: part 1 does not return it here (DESIGN CHOICE, log entry 31). -/
def Slot.content1 (x : Slot) : Content :=
  .slot1 x.path x.clearingTrack x.head x.headTime x.samples x.estimate x.stall

/-- The claim lists a slot stands in, ascending, then the sections holding runs of it, in section order (R166). -/
def State.slotEntries (s : State) (i : Nat) : List SlotEntry :=
  (ids 63).filterMap (fun p => ((s.claimList p).find? fun c => decide (c.slot = i)).map fun c => .claim p c.want)
    ++ (allSections.filter fun id => (s.sec id).holds i).map fun id => .runs id ((s.sec id).axlesOf i)

/-- SLOT_READ part 2. -/
def State.slotContent2 (s : State) (i first : Nat) : Content :=
  let l := s.slotEntries i
  .slot2 l.length (page l first (Config.slotEntriesHeld l.length))

/-- SLOT_READ (R100, R166). A FREE slot answers FREE alone for every part. -/
def slotRead (i part first : Nat) (s : State) : State × Answer :=
  if !inRange 1 16 i || !inRange 0 2 part || (decide (part = 2) && decide (first = 0)) then refuse .badArgument s
  else match s.slot i, part with
    | none, k => answerPart k 3 .slotFree s
    | some x, 0 => answerPart 0 3 x.content0 s
    | some x, 1 => answerPart 1 3 x.content1 s
    | some _, _ => answerPart 2 3 (s.slotContent2 i first) s

/-! ### SECTION_READ (R60) -/

/-- A run as SECTION_READ returns it. -/
def State.runReading (s : State) (r : Run) : RunReading := ⟨r.owner, r.count, r.owner.slot?.bind s.numberOf⟩

/-- SECTION_READ (R60, R166). -/
def sectionRead (id : Option SectionId) (part : Nat) (s : State) : State × Answer :=
  match id with
  | none => refuse .badArgument s
  | some sec =>
    if !sec.inRange then refuse .badArgument s
    else
      let x := s.sec sec
      match part with
      | 0 => answerPart 0 2 (.section0 x.disturbance x.axles x.runs.length) s
      | 1 => answerPart 1 2 (.section1 (x.runs.map s.runReading)) s
      | _ => refuse .badArgument s

/-! ### POINT_READ (R130) -/

/-- POINT_READ part 0. R130 gives the runtime record of R101, which holds the throw reason, while its own list names the
command alone: the read returns the reason with the command (DESIGN CHOICE, log entry 28). -/
def State.pointContent0 (s : State) (p : Nat) : Content :=
  let r := s.pt p
  .runtime0 (s.pointRecord p).isSome r.state r.detected r.drive r.held r.learned r.retries r.command r.throwStart r.lastFault

/-- POINT_READ part 1. R166 calls the throw start time a field common to the parts of a point, while its table of parts names the
runtime record, which holds that time, in part 0 alone: part 1 does not return it here (DESIGN CHOICE, log entry 31). -/
def State.pointContent1 (s : State) (p : Nat) : Content :=
  let r := s.pt p
  .runtime1 r.supervision r.retryTimer r.deglitchTimer (s.guardClear p) ((s.headClaimant p).map Claim.slot)
    ((s.servedClaimant p).map Claim.slot) (s.latestThrow p)

/-- POINT_READ part 2. -/
def State.pointContent2 (s : State) (p first : Nat) : Content :=
  let l := (s.claimList p).map fun c => ClaimReading.mk c.slot (s.numberOf c.slot) c.want
  .runtime2 l.length (page l first (Config.pointEntriesHeld l.length))

/-- POINT_READ (R130, R166). -/
def pointRead (p part first : Nat) (s : State) : State × Answer :=
  if !inRange 1 63 p then refuse .badArgument s
  else match part, first with
    | 0, _ => answerPart 0 3 (s.pointContent0 p) s
    | 1, _ => answerPart 1 3 (s.pointContent1 p) s
    | 2, n + 1 => answerPart 2 3 (s.pointContent2 p (n + 1)) s
    | _, _ => refuse .badArgument s

/-! ### LINK_READ (R161) -/

/-- The receive buffers of a port that are held: those of the telegrams that wait, and one more while a frame is arriving,
which has a buffer only where one was free (R149, R161). -/
def PortState.held (x : PortState) (arriving : Bool) : Nat :=
  if arriving && decide (x.waiting.length < Config.receiveBuffers) then x.waiting.length + 1 else x.waiting.length

/-- A port's record as LINK_READ part 0 shows it. -/
def PortState.reading (x : PortState) (arriving : Bool) : PortReading :=
  ⟨x.credits, x.owed, x.held arriving, x.passQueue.length, x.fairness, x.errors, x.firstError⟩

/-- LINK_READ part 0. Whether a frame is arriving on Port Y, and on Port T, is a free value of this moment (log entry 8). -/
def State.linkContent0 (s : State) : Content :=
  .link0 s.station (s.link.y.reading (Config.frameArriving s.moments)) (s.link.t.reading (Config.frameArriving (s.moments + 1)))

/-- The number of responses queued for a port. -/
def State.responsesFor (s : State) (p : Port) : Nat := s.link.responses.countP fun r => decide (r.port = p)

/-- LINK_READ part 1. -/
def State.linkContent1 (s : State) (first : Nat) : Content :=
  let l := s.link.commands.map Throw.point
  .link1 l.length (page l first (Config.linkEntriesHeld l.length)) (s.link.signalSlot.map SignalTelegram.aspect)
    (s.responsesFor .y) (s.responsesFor .t) s.link.unmapped s.link.unknownPoint s.link.forwardingLoss

/-- Both first-error records are emptied (R150, R161), and the free values of this moment are used up. -/
def State.emptyErrors (s : State) : State :=
  { s with
    link := { s.link with y := { s.link.y with firstError := none }, t := { s.link.t with firstError := none } }
    moments := s.moments + 2 }

/-- LINK_READ (R161, R166). -/
def linkRead (part first : Nat) (s : State) : State × Answer :=
  match part, first with
  | 0, _ => answerPart 0 2 s.linkContent0 s.emptyErrors
  | 1, n + 1 => answerPart 1 2 (s.linkContent1 (n + 1)) s
  | _, _ => refuse .badArgument s

/-! ### The commands -/

/-- STATUS_READ (R167). -/
def execStatusRead (q : Req) (part : Nat) (s : State) : Host.Outcome State Fault Refusal :=
  .next (s.handle q .statusRead fun _ => statusRead part)

/-- TABLE_READ (R169). -/
def execTableRead (q : Req) (entry : TableEntry) (part : Nat) (s : State) : Host.Outcome State Fault Refusal :=
  .next (s.handle q .tableRead fun _ => tableRead entry part)

/-- CUT_LIST_READ (R24). -/
def execCutListRead (q : Req) (first : Nat) (s : State) : Host.Outcome State Fault Refusal :=
  .next (s.handle q .cutListRead fun _ => cutListRead first)

/-- SLOT_READ (R100). -/
def execSlotRead (q : Req) (i part first : Nat) (s : State) : Host.Outcome State Fault Refusal :=
  .next (s.handle q .slotRead fun _ => slotRead i part first)

/-- SECTION_READ (R60). -/
def execSectionRead (q : Req) (id : Option SectionId) (part : Nat) (s : State) : Host.Outcome State Fault Refusal :=
  .next (s.handle q .sectionRead fun _ => sectionRead id part)

/-- POINT_READ (R130). -/
def execPointRead (q : Req) (p part first : Nat) (s : State) : Host.Outcome State Fault Refusal :=
  .next (s.handle q .pointRead fun _ => pointRead p part first)

/-- LINK_READ (R161). -/
def execLinkRead (q : Req) (part first : Nat) (s : State) : Host.Outcome State Fault Refusal :=
  .next (s.handle q .linkRead fun _ => linkRead part first)

end Sys2Proof.Machine
end

