-- ==== Sys2Proof/Machine/Resets.lean ====
section
/-! DEFINITION. WARM_RESET and DEVICE_RESET (R102, R131, R142, R160, R171 to R173, R182). -/

namespace Sys2Proof.Machine

/-- A point's runtime record as a warm reset leaves it: the learned throw time is kept, and the throw start time
has no meaning (R102; log entry 5). -/
def PointRuntime.warm (r : PointRuntime) (moment : Nat) : PointRuntime :=
  { PointRuntime.reset with learned := r.learned, throwStart := Config.meaninglessInstant moment }

/-- The link interface as a warm reset leaves it: the command queue and the signal-demand slot emptied (R160). -/
def Link.warm (x : Link) : Link := { x with commands := [], signalSlot := none }

/-- Every state that a warm reset sets, block by block, before the STOP telegram and the report (R172). The
reserved counts, being sums over the slots, are 0 with every slot FREE. -/
def State.warmState (s : State) : State :=
  { s with
    link := s.link.warm
    mgmt := { s.mgmt with holder := none, supervision := none, phase := none }
    cutList := []
    binder := .reset
    sections := .afterReset .warmReset
    slots := Vector.replicate 16 none
    points := mapIds (fun p r => r.warm (s.moments + p)) s.points
    claims := Vector.replicate 63 []
    signal := ⟨.stop, none⟩
    engine := .reset
    reports := .reset
    moments := s.moments + 64 }

/-- The effects of a warm reset (R172): the STOP telegram is written when item 3 is set (R142), and engine control
offers its one report (R132). -/
def State.warmReset (s : State) : State := (s.warmState.writeDemand).reportEngine .warmReset

/-- WARM_RESET (R171). -/
def warmReset : Effect := fun src s =>
  if inFence s.mgmt.fence src then done s.warmReset else refuse .fenced s

/-- WARM_RESET (R171). -/
def execWarmReset (q : Req) (s : State) : Host.Outcome State Fault Refusal := .next (s.handle q .warmReset warmReset)

/-- A device reset: every state at its reset value with the straps read anew, the ENGINE_STATE report offered,
and each port's transmitter, idle with 8 credits owed, making its selection (R160, R173). The commands
that wait are outside the part and stay. -/
def State.deviceReset (s : State) (straps : Byte) : State :=
  ((({ State.atDeviceReset straps with moments := s.moments, pending := s.pending }).reportEngine .deviceReset).select .y).select .t

/-- DEVICE_RESET (R173). -/
def execDeviceReset (straps : Byte) (s : State) : Host.Outcome State Fault Refusal := .next (s.deviceReset straps)

end Sys2Proof.Machine
end

