-- ==== Sys2Proof/Machine/Timers.lean ====
section
/-! DEFINITION. The expiries of the part's timers: the lead gap timer, the stall deadlines, the three timers of a point, the refresh timer and controller supervision (R35, R76, R83, R112, R115, R116, R118, R141, R146). A timer that is stopped, or whose instant has not come, has no expiry, and the command then changes nothing (log entry 3). -/

namespace Sys2Proof.Machine

/-- The lead gap timer expires (R35, R37). -/
def State.gapExpiry (s : State) : State := if due s.clock s.binder.gap then s.closeCut else s

/-- A stall deadline expires (R83). -/
def State.stallExpiry (s : State) (i : Nat) : State :=
  if (s.slot i).any fun x => due s.clock x.stall.expiry then s.stallExpired i else s

/-- What the expiry of a point's supervision timer does (R112, R115). -/
def State.supervisionFault (s : State) (p : Nat) : State :=
  match (s.pt p).state with
  | .moving e => s.faultDecision p e .throwTimeout
  | .returning _ => s.failReported p .throwTimeout
  | .unknown | .rest _ | .pending _ | .waitRetry _ | .failed => s.setPt p { s.pt p with supervision := none }

/-- A point's supervision timer expires. -/
def State.supervisionExpiry (s : State) (p : Nat) : State :=
  if due s.clock (s.pt p).supervision then s.supervisionFault p else s

/-- What the expiry of a point's retry timer does (R116). -/
def State.retryOver (s : State) (p : Nat) : State :=
  match (s.pt p).state with
  | .waitRetry origin => (s.setPt p { s.pt p with state := .rest origin, retryTimer := none }).reevaluate p
  | .unknown | .rest _ | .pending _ | .moving _ | .returning _ | .failed => s.setPt p { s.pt p with retryTimer := none }

/-- A point's retry timer expires. -/
def State.retryExpiry (s : State) (p : Nat) : State :=
  if due s.clock (s.pt p).retryTimer then s.retryOver p else s

/-- A point's deglitch timer expires (R118). -/
def State.deglitchExpiry (s : State) (p : Nat) : State :=
  if due s.clock (s.pt p).deglitchTimer then s.deglitchExpired p else s

/-- The refresh timer expires (R141). -/
def State.refreshExpiry (s : State) : State := if due s.clock s.signal.refresh then s.writeDemand else s

/-- Controller supervision expires, in the steps of R146. -/
def State.lapse (s : State) (x : Supervision) : State :=
  (({ s with mgmt := { s.mgmt with holder := none, supervision := none, phase := none } }).setCause .supervision).offer
    (.supervisionLost (s.mgmt.holder.getD 0) s.mgmt.phase x.since x.expiry)

/-- The expiry of controller supervision (R146). -/
def State.controllerExpiry (s : State) : State :=
  match s.mgmt.supervision with
  | none => s
  | some x => if reached s.clock x.expiry then s.lapse x else s

/-- GAP_TIMER_EXPIRY (R35). -/
def execGapTimerExpiry (s : State) : Host.Outcome State Fault Refusal := .next s.gapExpiry

/-- STALL_DEADLINE_EXPIRY (R83). -/
def execStallDeadlineExpiry (i : Nat) (s : State) : Host.Outcome State Fault Refusal := .next (s.stallExpiry i)

/-- SUPERVISION_TIMER_EXPIRY (R112, R115). -/
def execSupervisionTimerExpiry (p : Nat) (s : State) : Host.Outcome State Fault Refusal := .next (s.supervisionExpiry p)

/-- RETRY_TIMER_EXPIRY (R116). -/
def execRetryTimerExpiry (p : Nat) (s : State) : Host.Outcome State Fault Refusal := .next (s.retryExpiry p)

/-- DEGLITCH_TIMER_EXPIRY (R118). -/
def execDeglitchTimerExpiry (p : Nat) (s : State) : Host.Outcome State Fault Refusal := .next (s.deglitchExpiry p)

/-- REFRESH_TIMER_EXPIRY (R141). -/
def execRefreshTimerExpiry (s : State) : Host.Outcome State Fault Refusal := .next s.refreshExpiry

/-- CONTROLLER_SUPERVISION_EXPIRY (R146). -/
def execControllerSupervisionExpiry (s : State) : Host.Outcome State Fault Refusal := .next s.controllerExpiry

end Sys2Proof.Machine
end

