-- ==== Sys2Proof/Machine/YardRequests.lean ====
section
/-! DEFINITION. The requests that work slots, sections and points by hand: SLOT_DROP, SECTION_RESTORE, RESTORE_ALL and the point commands (R57, R58, R98, R124 to R128). -/

namespace Sys2Proof.Machine

/-! ### Slots and sections -/

/-- A slot in use may be dropped: it is LOST or STALLED (R98). -/
def Slot.droppable (x : Slot) : Bool := x.flags.lost || x.flags.stalled

/-- The steps of a drop, in the order of R98. -/
def State.dropSlot (s : State) (i : Nat) (x : Slot) : State :=
  let s1 := (((s.leaveAll i).reevaluateAll (s.standing i)).release i).removeRuns i
  ((s1.freeUp i).binderLoses i).offer (.cutDropped (some i) x.number .slotDrop)

/-- SLOT_DROP (R98). -/
def slotDrop (i : Nat) (s : State) : State × Answer :=
  if !inRange 1 16 i then refuse .badArgument s
  else match s.slot i with
    | none => refuse (.wrongState none) s
    | some x => if x.droppable then done (s.dropSlot i x) else refuse (.wrongState none) s

/-- SECTION_RESTORE (R57). An identifier the telegram gives no meaning to is out of range. -/
def sectionRestore (id : Option SectionId) (s : State) : State × Answer :=
  match id with
  | none => refuse .badArgument s
  | some sec =>
    if !sec.inRange then refuse .badArgument s
    else if (s.sec sec).disturbance.isNone then refuse (.wrongState none) s
    else done (s.restore sec)

/-- RESTORE_ALL (R58). R58 gives the restores no order: the model goes in the section order of R42, each guard made clear being told
before the next section is restored (DESIGN CHOICE, log entry 13). -/
def restoreAll (s : State) : State × Answer :=
  (s.disturbedSections.foldl State.restore s, .done (.restored s.countDisturbed))

/-! ### Points -/

/-- The checks common to the point commands: the id, then the presence of the record (R124 to R127). -/
def withPoint (p : Nat) (effect : State → State × Answer) (s : State) : State × Answer :=
  if !inRange 1 63 p then refuse .badArgument s
  else if (s.pointRecord p).isNone then refuse .notFound s
  else effect s

/-- The mode of a point is set. -/
def State.setMode (s : State) (p : Nat) (held : Bool) : State := s.setPt p { s.pt p with held := held }

/-- An automatic THROW of a PENDING point is queued (R126). -/
def PointRuntime.automaticPending (r : PointRuntime) : Bool :=
  (match r.state with
    | .pending _ => true
    | _ => false) && decide (r.command = .queued .automatic)

/-- POINT_HOLD (R126). -/
def pointHold (p : Nat) : State → State × Answer := withPoint p fun s =>
  if (s.pt p).held then done s
  else if (s.pt p).automaticPending then done ((s.setMode p true).withdrawn p)
  else done (s.setMode p true)

/-- POINT_RELEASE (R127). -/
def pointRelease (p : Nat) : State → State × Answer := withPoint p fun s =>
  if (s.pt p).held then done ((s.setMode p false).reevaluate p) else done s

/-- The end a point at rest lies at, when the state of POINT_SET's third check is met (R128). -/
def PointRuntime.settable (r : PointRuntime) : Option Leg :=
  match r.state with
  | .rest e => if r.held && r.deglitchTimer.isNone then some e else none
  | _ => none

/-- POINT_SET (R128). -/
def pointSet (p : Nat) (leg : Option Leg) (s : State) : State × Answer :=
  match leg with
  | none => refuse .badArgument s
  | some x => withPoint p (fun s =>
      match (s.pt p).settable with
      | none => refuse (.wrongState none) s
      | some e =>
        if !s.guardClear p then refuse .occupied s
        else if e = x then done s
        else done (s.placeThrow p x .manual)) s

/-- The state a detected end gives a point (R124). -/
def restState : Option Leg → PointState
  | none => .unknown
  | some e => .rest e

/-- A FAILED point is cleared: it takes its detected end, engine control is told, and at rest it re-evaluates
(R124). -/
def State.clearFault (s : State) (p : Nat) : State :=
  ((s.setPt p { s.pt p with state := restState (s.pt p).detected, retries := 0 }).tellFailed).reevaluate p

/-- POINT_CLEAR_FAULT (R124). -/
def pointClearFault (p : Nat) : State → State × Answer := withPoint p fun s =>
  if (s.pt p).state = .failed then done (s.clearFault p) else refuse (.wrongState none) s

/-- POINT_CLEAR_RETRIES (R125). -/
def pointClearRetries (p : Nat) : State → State × Answer := withPoint p fun s =>
  done (s.setPt p { s.pt p with retries := 0 })

/-! ### The commands -/

/-- SLOT_DROP (R98). -/
def execSlotDrop (q : Req) (i : Nat) (s : State) : Host.Outcome State Fault Refusal :=
  .next (s.handle q .slotDrop (controlled (slotDrop i)))

/-- SECTION_RESTORE (R57). -/
def execSectionRestore (q : Req) (id : Option SectionId) (s : State) : Host.Outcome State Fault Refusal :=
  .next (s.handle q .sectionRestore (controlled (sectionRestore id)))

/-- RESTORE_ALL (R58). -/
def execRestoreAll (q : Req) (s : State) : Host.Outcome State Fault Refusal :=
  .next (s.handle q .restoreAll (controlled restoreAll))

/-- POINT_HOLD (R126). -/
def execPointHold (q : Req) (p : Nat) (s : State) : Host.Outcome State Fault Refusal :=
  .next (s.handle q .pointHold (controlled (pointHold p)))

/-- POINT_RELEASE (R127). -/
def execPointRelease (q : Req) (p : Nat) (s : State) : Host.Outcome State Fault Refusal :=
  .next (s.handle q .pointRelease (controlled (pointRelease p)))

/-- POINT_SET (R128). -/
def execPointSet (q : Req) (p : Nat) (leg : Option Leg) (s : State) : Host.Outcome State Fault Refusal :=
  .next (s.handle q .pointSet (controlled (pointSet p leg)))

/-- POINT_CLEAR_FAULT (R124). -/
def execPointClearFault (q : Req) (p : Nat) (s : State) : Host.Outcome State Fault Refusal :=
  .next (s.handle q .pointClearFault (controlled (pointClearFault p)))

/-- POINT_CLEAR_RETRIES (R125). -/
def execPointClearRetries (q : Req) (p : Nat) (s : State) : Host.Outcome State Fault Refusal :=
  .next (s.handle q .pointClearRetries (controlled (pointClearRetries p)))

end Sys2Proof.Machine
end

