-- ==== Sys2Proof/Machine/Dispatch.lean ====
section
/-! DEFINITION. The dispatch of the commands to their meanings: one arm per constructor of Instr. -/

namespace Sys2Proof.Machine

/-- The effect of a command on everything but the queue of commands. -/
def exec (i : Instr) (s : State) : Host.Outcome State Fault Refusal :=
  match i with
  | .deviceReset straps => Sys2Proof.Machine.execDeviceReset straps s
  | .telegramReceived port beganFull frame => Sys2Proof.Machine.execTelegramReceived port beganFull frame s
  | .passTelegramMove port => Sys2Proof.Machine.execPassTelegramMove port s
  | .unknownRequest q code => Sys2Proof.Machine.execUnknownRequest q code s
  | .statusRead q part => Sys2Proof.Machine.execStatusRead q part s
  | .tableRead q entry part => Sys2Proof.Machine.execTableRead q entry part s
  | .cutListRead q first => Sys2Proof.Machine.execCutListRead q first s
  | .slotRead q slot part first => Sys2Proof.Machine.execSlotRead q slot part first s
  | .sectionRead q sec part => Sys2Proof.Machine.execSectionRead q sec part s
  | .pointRead q point part first => Sys2Proof.Machine.execPointRead q point part first s
  | .linkRead q part first => Sys2Proof.Machine.execLinkRead q part first s
  | .claimControl q => Sys2Proof.Machine.execClaimControl q s
  | .releaseControl q => Sys2Proof.Machine.execReleaseControl q s
  | .tableWritePoint q index fields => Sys2Proof.Machine.execTableWritePoint q index fields s
  | .tableWritePointRemove q index => Sys2Proof.Machine.execTableWritePointRemove q index s
  | .tableWriteTrack q index fields => Sys2Proof.Machine.execTableWriteTrack q index fields s
  | .tableWriteTrackRegister q index fields => Sys2Proof.Machine.execTableWriteTrackRegister q index fields s
  | .tableWriteTrackRemove q index => Sys2Proof.Machine.execTableWriteTrackRemove q index s
  | .tableWriteParameter q index value => Sys2Proof.Machine.execTableWriteParameter q index value s
  | .tableWriteRoute q index value => Sys2Proof.Machine.execTableWriteRoute q index value s
  | .tableWritePatch q index fields => Sys2Proof.Machine.execTableWritePatch q index fields s
  | .cutAppend q number fields => Sys2Proof.Machine.execCutAppend q number fields s
  | .cutInsertBefore q reference number fields => Sys2Proof.Machine.execCutInsertBefore q reference number fields s
  | .cutWithdraw q number => Sys2Proof.Machine.execCutWithdraw q number s
  | .cutAmend q number fields => Sys2Proof.Machine.execCutAmend q number fields s
  | .cutListClear q => Sys2Proof.Machine.execCutListClear q s
  | .slotDrop q slot => Sys2Proof.Machine.execSlotDrop q slot s
  | .sectionRestore q sec => Sys2Proof.Machine.execSectionRestore q sec s
  | .restoreAll q => Sys2Proof.Machine.execRestoreAll q s
  | .pointHold q point => Sys2Proof.Machine.execPointHold q point s
  | .pointRelease q point => Sys2Proof.Machine.execPointRelease q point s
  | .pointSet q point leg => Sys2Proof.Machine.execPointSet q point leg s
  | .pointClearFault q point => Sys2Proof.Machine.execPointClearFault q point s
  | .pointClearRetries q point => Sys2Proof.Machine.execPointClearRetries q point s
  | .start q => Sys2Proof.Machine.execStart q s
  | .stopEngine q => Sys2Proof.Machine.execStopEngine q s
  | .halt q => Sys2Proof.Machine.execHalt q s
  | .resume q => Sys2Proof.Machine.execResume q s
  | .service q phase => Sys2Proof.Machine.execService q phase s
  | .fenceWrite q fence => Sys2Proof.Machine.execFenceWrite q fence s
  | .warmReset q => Sys2Proof.Machine.execWarmReset q s
  | .endOfTransmission port => Sys2Proof.Machine.execEndOfTransmission port s
  | .gapTimerExpiry => Sys2Proof.Machine.execGapTimerExpiry s
  | .stallDeadlineExpiry slot => Sys2Proof.Machine.execStallDeadlineExpiry slot s
  | .supervisionTimerExpiry point => Sys2Proof.Machine.execSupervisionTimerExpiry point s
  | .retryTimerExpiry point => Sys2Proof.Machine.execRetryTimerExpiry point s
  | .deglitchTimerExpiry point => Sys2Proof.Machine.execDeglitchTimerExpiry point s
  | .refreshTimerExpiry => Sys2Proof.Machine.execRefreshTimerExpiry s
  | .controllerSupervisionExpiry => Sys2Proof.Machine.execControllerSupervisionExpiry s

end Sys2Proof.Machine
end

