-- ==== Sys2Proof/Machine/Step.lean ====
section
/-! DEFINITION. One step: the command at the front of the queue, or a millisecond of the yard clock when none waits. -/

namespace Sys2Proof.Machine

/-- The yard clock advances by 1 ms, modulo 2^32 (00_scope, Yard clock); passing from its last reading to 0, it has wrapped
(R43). -/
def State.tick (s : State) : State := { s with clock := s.clock + 1, wrapped := s.wrapped || decide (s.clock + 1 = 0) }

/-- The part with no command waiting: the yard clock advances by 1 ms (DESIGN CHOICE, log entry 1), and each port that is
idle with something standing for it makes its selection (R157). -/
def State.idle (s : State) : State := (s.tick.select .y).select .t

/-- One step: the command at the front of the queue acts on the state with the queue's rest. -/
def step (s : State) : Host.Outcome State Fault Refusal :=
  match s.pending with
  | [] => .next s.idle
  | c :: rest => exec c { s with pending := rest }

/-- The state with the command a word spells put at the front of its queue. No row of the table gives bits, so no
word spells one. -/
def State.withFetchWord (s : State) (nbits w : Nat) : State :=
  match decodeTableWord nbits w with
  | none => s
  | some c => { s with pending := c :: s.pending }

end Sys2Proof.Machine
end

