-- ==== Sys2Proof/Machine/Line.lean ====
section
/-! DEFINITION. The bytes of what the part sends: the kind, the payload and the telegram of a transmission (R148, R153, R154). -/

/-- The payload bytes of a RESPONSE. R162 names its fields; the spec gives them no byte layout (log entry 15). -/
opaque Sys2Proof.Config.responsePayload : Sys2Proof.Machine.Response → List Sys2Proof.Byte

/-- The payload bytes of a REPORT with its discarded field. R175 names its fields; the spec gives them no byte layout (log
entry 15). -/
opaque Sys2Proof.Config.reportPayload : Sys2Proof.Machine.Report → Nat → List Sys2Proof.Byte

namespace Sys2Proof.Machine

/-- The aspect byte of a SIGNAL_DEMAND (R148). -/
def aspectByte : Aspect → Byte
  | .stop => 0#8
  | .slow => 1#8
  | .proceed => 2#8

/-- The most payload bytes a telegram holds (R148). -/
def payloadRoom : Nat := 32

/-- The kind byte of what is sent (R148). -/
def SentBody.kind : SentBody → Byte
  | .fill => kindFill
  | .throw _ _ => kindThrow
  | .signal _ => kindSignalDemand
  | .response _ => kindResponse
  | .report _ _ => kindReport
  | .passed m => m.kind

/-- The payload bytes of what is sent (R148): a THROW's point and end, a SIGNAL_DEMAND's aspect, none of a FILL, at most 32
of a RESPONSE or a REPORT, and a passed telegram's own. -/
def SentBody.payload : SentBody → List Byte
  | .fill => []
  | .throw p leg => [BitVec.ofNat 8 p, legByte leg]
  | .signal aspect => [aspectByte aspect]
  | .response r => (Config.responsePayload r).take payloadRoom
  | .report r discarded => (Config.reportPayload r discarded).take payloadRoom
  | .passed m => m.payload

/-- The telegram that is sent, but its credits field and its check (R148); a passed one is as it was received (R153). -/
def Sent.telegram (x : Sent) : Telegram :=
  match x.body with
  | .passed m => m
  | .fill | .throw _ _ | .signal _ | .response _ | .report _ _ =>
    ⟨BitVec.ofNat 8 x.dest, BitVec.ofNat 8 x.src, x.body.kind, x.body.payload⟩

/-- The bytes of a transmission on the line, the credits field and the check those of this hop (R148, R153, R154). -/
def Sent.bytes (x : Sent) : List Byte := x.telegram.encode x.credits

end Sys2Proof.Machine
end

