-- ==== Sys2Proof/Safety.lean ====
section
/-! DEFINITION. What the statements speak of: the reports that are offered, the frames of a port's selection, the carrying out and answering of a request, the ladder and its faults, arrivals, the throw decision and the taking of a status, selection, an axle's way through the lists, a slot's way down the ladder, and the invariants of a safe run. -/

namespace Sys2Proof.Machine

/-! ### The offering of reports (R175 to R179) -/

/-- The report queue `q` once records of these bodies have been offered to it in order, each at the level of its kind and with the
clock's reading; none is queued without a station address or at level OFF (R175, R177). -/
def State.offered (s : State) : List ReportBody → ReportQueue → ReportQueue
  | [], q => q
  | b :: rest, q =>
    let level := s.tables.params.level b.kind
    s.offered rest (if s.station = none ∨ level = .off then q else q.offer ⟨level, s.clock, b⟩)

/-- Reports of these bodies have been offered, in this order, and no others. An idle Port Y may once, among them, have begun the
first record that waits, which takes the discard count with it (R158, R176, R180). -/
def Reported (s t : State) (bodies : List ReportBody) : Prop :=
  t.reports = s.offered bodies s.reports
    ∨ ∃ before after r rest n x, bodies = before ++ after ∧ s.link.y.sending = none
      ∧ s.offered before s.reports = ⟨r :: rest, n⟩ ∧ t.link.y.sending = some x ∧ x.body = .report r n
      ∧ t.reports = s.offered after ⟨rest, 0⟩

/-- The one ENGINE_STATE that names a change of the cause set; none where the set is as it was (R132). -/
def causesReport (s t : State) (event : EngineEvent) : List ReportBody :=
  if t.engine.causes = s.engine.causes then [] else [.engineState t.engine.state t.engine.causes event]

/-! ### What a port's selection may change (R154 to R159) -/

/-- Every point's runtime record is as it was, or as the start of transmission of its THROW leaves it (R110). -/
def ThrowsStart (s t : State) : Prop :=
  ∀ p, t.pt p = s.pt p ∨ t.pt p = (s.pt p).started s.clock ((s.pt p).throwTime p) s.tables.params.allowance

/-- The blocks a port's selection does not reach are as they were: the link interface and the report queue may
change, and a point whose THROW starts. -/
structure OnlySends (s t : State) : Prop where
  clock : t.clock = s.clock
  wrapped : t.wrapped = s.wrapped
  straps : t.straps = s.straps
  mgmt : t.mgmt = s.mgmt
  tables : t.tables = s.tables
  cutList : t.cutList = s.cutList
  binder : t.binder = s.binder
  sections : t.sections = s.sections
  slots : t.slots = s.slots
  claims : t.claims = s.claims
  signal : t.signal = s.signal
  engine : t.engine = s.engine
  moments : t.moments = s.moments
  pending : t.pending = s.pending
  points : ThrowsStart s t

/-- What becomes of a port that may begin one telegram while `freed` of its receive buffers are freed: its error record stays.
Without a beginning its credits, fairness count and pass queue stay, and the freed buffers are owed back. An idle
port that begins a telegram returns what it owes, spends a credit unless the telegram is a FILL, and counts it for or
against the passed traffic that waits (R154, R159). -/
def PortKept (x y : PortState) (freed : Nat) : Prop :=
  y.errors = x.errors ∧ y.firstError = x.firstError
    ∧ ∃ owed, owed = (if freed = 0 then x.owed else min 8 (x.owed + freed))
      ∧ ((y.sending = x.sending ∧ y.credits = x.credits ∧ y.owed = owed ∧ y.fairness = x.fairness ∧ y.passQueue = x.passQueue)
      ∨ (x.sending = none ∧ ∃ z, y.sending = some z
          ∧ ((z.credits = x.owed ∧ y.owed = freed) ∨ (z.credits = owed ∧ y.owed = 0))
          ∧ ((z.body = .fill ∧ y.credits = x.credits ∧ y.fairness = x.fairness ∧ y.passQueue = x.passQueue)
            ∨ (x.credits = y.credits + 1 ∧ ∃ m, z.body = .passed m ∧ x.passQueue = m :: y.passQueue ∧ y.fairness = 0)
            ∨ (x.credits = y.credits + 1 ∧ (∀ m, z.body ≠ .passed m) ∧ z.body ≠ .fill ∧ y.passQueue = x.passQueue
                ∧ y.fairness = if x.passQueue = [] then x.fairness else min 4 (x.fairness + 1)))))

/-! ### Requests (R152, R156, R162) -/

/-- Telegram `m` is the oldest own request waiting on the port that `q` names, and the response queue has room. -/
def State.mayAnswer (s : State) (q : Req) (m : Telegram) : Prop :=
  s.oldestWaiting q.port true = some m ∧ s.link.responses.length < Config.responseRoom

/-- The request comes from the station that holds the control claim. That this is enough for a controller-only request to be
carried out, without a SERVICE since the claim, is the model's choice (log entry 27). -/
def State.fromHolder (s : State) (q : Req) (m : Telegram) : Prop :=
  s.mayAnswer q m ∧ s.mgmt.holder = some m.src.toNat

/-- The request that `q` names is answered: one response with its tag, code and outcome, addressed to its source,
stands last in the response queue, or is already being sent on its port; every other response of the
queue stood there before; and the request has left the receive buffers. -/
def Answered (s t : State) (q : Req) (m : Telegram) (code : RequestCode) (a : Answer) : Prop :=
  ((∃ l, l.Sublist s.link.responses ∧ t.link.responses = l ++ [⟨q.port, m.src.toNat, q.tag, code, a⟩])
    ∨ (t.link.responses.Sublist s.link.responses
        ∧ ∃ x, (t.port q.port).sending = some x ∧ x.dest = m.src.toNat
            ∧ x.body = .response ⟨q.port, m.src.toNat, q.tag, code, a⟩))
  ∧ (t.port q.port).waiting = (s.port q.port).waiting.eraseP fun w => w.own == true

/-- A request is answered and nothing else happens: only the ports send, and no report is offered. -/
def AnsweredOnly (s t : State) (q : Req) (m : Telegram) (code : RequestCode) (a : Answer) : Prop :=
  Answered s t q m code a ∧ OnlySends s t ∧ Reported s t []

/-! ### Blocks that a command leaves as they were -/

/-- The clock, the straps, the management function, the cut list, the binder, the sections, the slots and the claim lists
are as they were. -/
def SameYard (s t : State) : Prop :=
  t.clock = s.clock ∧ t.wrapped = s.wrapped ∧ t.straps = s.straps ∧ t.mgmt = s.mgmt ∧ t.cutList = s.cutList ∧ t.binder = s.binder
    ∧ t.sections = s.sections ∧ t.slots = s.slots ∧ t.claims = s.claims

/-- Every block is as it was but the points, the link interface and the report queue. -/
def SameBlocks (s t : State) : Prop := SameYard s t ∧ t.tables = s.tables ∧ t.signal = s.signal ∧ t.engine = s.engine

/-- As `SameYard`, the management function apart. -/
def SameButManagement (s t : State) : Prop :=
  t.clock = s.clock ∧ t.wrapped = s.wrapped ∧ t.straps = s.straps ∧ t.cutList = s.cutList ∧ t.binder = s.binder ∧ t.sections = s.sections
    ∧ t.slots = s.slots ∧ t.claims = s.claims

/-- Every block is as it was but the sections, the points, the link interface and the report queue. -/
def Restored (s t : State) : Prop :=
  t.clock = s.clock ∧ t.wrapped = s.wrapped ∧ t.straps = s.straps ∧ t.mgmt = s.mgmt ∧ t.cutList = s.cutList ∧ t.binder = s.binder
    ∧ t.slots = s.slots ∧ t.claims = s.claims ∧ t.tables = s.tables ∧ t.signal = s.signal ∧ t.engine = s.engine

/-- The cut list has changed: the signal demand is computed from its count (R24, R140), and every other block is as it was
but for what the ports send. -/
def ListChanged (s t : State) : Prop :=
  t.signal.demand = t.demandNow ∧ OnlySends { s with cutList := t.cutList, signal := t.signal } t

/-- A point's runtime record, and the command queue, as a write or a removal of its point record leaves them (R2, R102). -/
def Rewritten (s t : State) (p : Nat) (learned : Option Nat) : Prop :=
  (t.pt p).state = .unknown ∧ (t.pt p).detected = none ∧ (t.pt p).drive = .idle ∧ (t.pt p).held = (s.pt p).held
    ∧ (t.pt p).learned = learned ∧ (t.pt p).retries = 0 ∧ (t.pt p).command = .none ∧ (t.pt p).lastFault = none
    ∧ (t.pt p).supervision = none ∧ (t.pt p).retryTimer = none ∧ (t.pt p).deglitchTimer = none
    ∧ ∀ c ∈ t.link.commands, c.point ≠ p

/-! ### The ladder (R10 to R12) -/

/-- The walk by branches from the root down to a point or a track, with the pairs it has passed, first pair at the root (R12). -/
inductive DownTo (s : State) : Path → Branch → Prop where
  | root (p : Nat) (r : PointRecord) : s.pointRecord p = some r → r.upstream = .lead → DownTo s [] (.point p)
  | leg (path : Path) (p : Nat) (r : PointRecord) (leg : Leg) : DownTo s path (.point p) → s.pointRecord p = some r →
      DownTo s (path ++ [(p, leg)]) (r.branch leg)

/-- What a branch of point `p` on a leg names is present and names it back (R10 step 2). -/
def BranchFits (s : State) (p : Nat) (leg : Leg) : Branch → Prop
  | .point q => ∃ r, s.pointRecord q = some r ∧ r.upstream = .parent p leg
  | .track t => ∃ r, s.trackRecord t = some r ∧ r.parent = p ∧ r.leg = leg

/-- A counter of the ladder has this detector number (R10 step 7, R11). -/
def DetectorAt (s : State) (d : Nat) : Counter → Prop
  | .lead => d = s.tables.params.leadDetector
  | .guardIn p => ∃ r, s.pointRecord p = some r ∧ d = r.guardIn
  | .guardOut p .left => ∃ r, s.pointRecord p = some r ∧ d = r.leftOut
  | .guardOut p .right => ∃ r, s.pointRecord p = some r ∧ d = r.rightOut
  | .clearance t => ∃ r, s.trackRecord t = some r ∧ d = r.clearance

/-- The places that a DOWN crossing of a counter joins (R11). -/
def Joins (s : State) (up down : Place) : Counter → Prop
  | .lead => up = .outside ∧ ∃ p r, s.pointRecord p = some r ∧ r.upstream = .lead ∧ down = .sec (.pointLink p)
  | .guardIn p => up = .sec (.pointLink p) ∧ down = .sec (.guard p)
  | .guardOut p leg => up = .sec (.guard p) ∧ ∃ r, s.pointRecord p = some r
      ∧ ((∃ q, r.branch leg = .point q ∧ down = .sec (.pointLink q)) ∨ ∃ t, r.branch leg = .track t ∧ down = .sec (.trackLink t))
  | .clearance t => up = .sec (.trackLink t) ∧ down = .track t

/-- The faults that the table check of START looks for: the place of the fault in the scan (its step, steps 5 and 9 being two
and three scans, and the index within it), and the table and index that the refusal names (R10). -/
inductive TableFault (s : State) : Nat → Nat → TableName × Nat → Prop where
  | leadDetector : s.tables.params.leadDetector = 0 → TableFault s 1 1 (.parameter, 1)
  | rejectTrack : s.tables.params.rejectTrack = 0 → TableFault s 1 2 (.parameter, 2)
  | signalStation : s.tables.params.signalStation = 0 → TableFault s 1 3 (.parameter, 3)
  | branch (p : Nat) (r : PointRecord) (leg : Leg) : s.pointRecord p = some r → ¬BranchFits s p leg (r.branch leg) →
      TableFault s 2 p (.point, p)
  | upstream (p q : Nat) (r : PointRecord) (leg : Leg) : s.pointRecord p = some r → r.upstream = .parent q leg →
      (∀ x, s.pointRecord q = some x → x.branch leg ≠ .point p) → TableFault s 2 p (.point, p)
  | parent (t : Nat) (r : TrackRecord) : s.trackRecord t = some r →
      (∀ x, s.pointRecord r.parent = some x → x.branch r.leg ≠ .track t) → TableFault s 3 t (.track, t)
  | noRoot : (∀ p r, s.pointRecord p = some r → r.upstream ≠ .lead) → TableFault s 4 0 (.point, 0)
  | twoRoots (p q : Nat) (r x : PointRecord) : s.pointRecord p = some r → r.upstream = .lead → s.pointRecord q = some x →
      x.upstream = .lead → p < q → (∀ k y, s.pointRecord k = some y → y.upstream = .lead → k = p ∨ q ≤ k) →
      TableFault s 4 q (.point, q)
  | unreachedPoint (p : Nat) : s.pointRecord p ≠ none → (∀ path, ¬DownTo s path (.point p)) → TableFault s 5 p (.point, p)
  | unreachedTrack (t : Nat) : s.trackRecord t ≠ none → (∀ path, ¬DownTo s path (.track t)) → TableFault s 6 t (.track, t)
  | longPath (t : Nat) (path : Path) : s.trackRecord t ≠ none → DownTo s path (.track t) → 12 < path.length →
      TableFault s 7 t (.track, t)
  | detector (d : Nat) (c k : Counter) : 1 ≤ d → d ≤ 254 → DetectorAt s d c → DetectorAt s d k → c ≠ k →
      TableFault s 8 d (.detector, d)
  | noReject : s.trackRecord s.tables.params.rejectTrack = none → TableFault s 9 0 (.parameter, 2)
  | route (code : Nat) : s.routeEntry code ≠ 0 → s.trackRecord (s.routeEntry code) = none → TableFault s 10 code (.route, code)
  | patch (k : Nat) (e : Patch) : 1 ≤ k → k ≤ 8 → e = readAt s.tables.patches ⟨false, 0, 0, 0⟩ k → e.enabled = true →
      s.trackRecord e.track = none → TableFault s 11 k (.patch, k)
  | alternate (t a : Nat) (r : TrackRecord) : s.trackRecord t = some r → a ∈ r.alternates → s.trackRecord a = none →
      TableFault s 12 t (.track, t)

/-- The record that gives a section is present (R4). -/
def SectionPresent (s : State) : SectionId → Prop
  | .guard p | .pointLink p => s.pointRecord p ≠ none
  | .trackLink t => s.trackRecord t ≠ none

/-- The place of a section in the order of R42. -/
def sectionPlace : SectionId → Nat
  | .guard p => p
  | .pointLink p => 63 + p
  | .trackLink t => 126 + t

/-- The lie walk from a branch: the pairs it passes and the branch it ends at, a track reached or the point it stops at
(R19). -/
inductive LiesTo (s : State) : Branch → Path → Branch → Prop where
  | track (t : Nat) : LiesTo s (.track t) [] (.track t)
  | stops (q : Nat) : (s.pt q).lieEnd = none → LiesTo s (.point q) [] (.point q)
  | passes (q : Nat) (e : Leg) (r : PointRecord) (pairs : Path) (fin : Branch) : (s.pt q).lieEnd = some e →
      s.pointRecord q = some r → LiesTo s (r.branch e) pairs fin → LiesTo s (.point q) ((q, e) :: pairs) fin

/-! ### Arrival at a point (R67 to R69) -/

/-- The length of the link that a branch leads into (R4). -/
inductive LinkLength (s : State) : Branch → Nat → Prop where
  | point (q : Nat) (r : PointRecord) : s.pointRecord q = some r → LinkLength s (.point q) r.linkLength
  | track (t : Nat) (r : TrackRecord) : s.trackRecord t = some r → LinkLength s (.track t) r.linkLength

/-- The length of the guards and links of a path's pairs (R67). -/
inductive PairsLength (s : State) : Path → Nat → Prop where
  | none : PairsLength s [] 0
  | pair (q : Nat) (leg : Leg) (r : PointRecord) (l n : Nat) (rest : Path) : s.pointRecord q = some r →
      LinkLength s (r.branch leg) l → PairsLength s rest n → PairsLength s ((q, leg) :: rest) (r.guardLength + l + n)

/-- The way from a head counter down to the guard-in counter of point `p`, along the path that START derived for `p`: the
length of the head section, and the length of the sections after it down to and including L(p). Their sum is the D of R67, the
second alone its D'. -/
inductive WayDown (s : State) (p : Nat) : Counter → Nat → Nat → Prop where
  | lead (root : Nat) (r : PointRecord) (n : Nat) : s.pointRecord root = some r → r.upstream = .lead →
      (∀ q x, s.pointRecord q = some x → x.upstream = .lead → q = root) → PairsLength s (s.pointPath p) n →
      WayDown s p .lead r.linkLength n
  | guardIn (q : Nat) (leg : Leg) (r : PointRecord) (l n : Nat) (above rest : Path) :
      s.pointPath p = above ++ (q, leg) :: rest → (∀ x ∈ above, x.1 ≠ q) → s.pointRecord q = some r →
      LinkLength s (r.branch leg) l → PairsLength s rest n → WayDown s p (.guardIn q) r.guardLength (l + n)
  | guardOut (q : Nat) (leg : Leg) (r : PointRecord) (l n : Nat) (above rest : Path) :
      s.pointPath p = above ++ (q, leg) :: rest → (∀ x ∈ above, x.1 ≠ q) → s.pointRecord q = some r →
      LinkLength s (r.branch leg) l → PairsLength s rest n → WayDown s p (.guardOut q leg) l n

/-- The guard-in counter of point `p` does not lie downstream of a head counter (R67). -/
def NotBelow (s : State) (p : Nat) : Counter → Prop
  | .lead => False
  | .guardIn q => ∀ leg, (q, leg) ∉ s.pointPath p
  | .guardOut q leg => (q, leg) ∉ s.pointPath p
  | .clearance _ => True

/-- The head claimant of a point and the arrival time of its head there, when it is defined (R67, R105). -/
def HeadArrives (s : State) (p : Nat) (arrival : Clock) : Prop :=
  ∃ c rest x, s.claimList p = c :: rest ∧ s.slot c.slot = some x ∧ s.arrival x p = some arrival

/-! ### The throw decision (R105 to R108) -/

/-- The served claimant of a point wants `end_`: the first entry of the claim list that wants a definite end (R105). -/
def Serves (s : State) (p : Nat) (end_ : Leg) : Prop :=
  ∃ older c younger, s.claimList p = older ++ c :: younger ∧ (∀ y ∈ older, y.want = none) ∧ c.want = some end_

/-- The five conditions on which a point at rest at `e` is thrown automatically (R107). -/
def AutomaticDue (s : State) (p : Nat) (e : Leg) : Prop :=
  (s.pt p).held = false ∧ (s.pt p).detected = some e ∧ Serves s p e.other ∧ s.guardClear p = true ∧ s.window p = true

/-- A THROW of point `p` has been placed, the point's runtime record having become `r`: it waits in the command queue, or its
transmission has started; nothing else happens but what the ports send (R107, R110). -/
def ThrowPlaced (s t : State) (p : Nat) (leg : Leg) (r : PointRuntime) : Prop :=
  OnlySends (s.setPt p r) t
    ∧ ((t.pt p = r ∧ ⟨p, leg, s.machineOf p⟩ ∈ t.link.commands)
      ∨ t.pt p = r.started s.clock (r.throwTime p) s.tables.params.allowance)

/-- A point at rest at `e` in `s` has re-evaluated: an automatic THROW is placed when the conditions hold, and nothing happens
otherwise but what the ports send (R106, R107). -/
def Reevaluated (s t : State) (p : Nat) (e : Leg) : Prop :=
  (AutomaticDue s p e → ThrowPlaced s t p e.other { s.pt p with state := .pending e.other, command := .queued .automatic })
    ∧ (¬AutomaticDue s p e → OnlySends s t)

/-- Point `k` stands as a re-evaluation leaves it: no automatic THROW of it is due at rest, and one that is PENDING is still what the
served claimant wants (R107, R108). -/
def StandsEvaluated (t : State) (k : Nat) : Prop :=
  (∀ e, (t.pt k).state = .rest e → ¬AutomaticDue t k e)
    ∧ ∀ e, (t.pt k).state = .pending e → (t.pt k).command = .queued .automatic → Serves t k e

/-- A crossing has told the points concerned to re-evaluate: those whose claim list it has changed, and those whose list holds its
slot, or held it (R80, R106). -/
def PointsReevaluated (u t : State) (owner : Owner) : Prop :=
  ∀ k, (t.claimList k ≠ u.claimList k ∨ ∃ i x, owner = .slot i ∧ u.slot i = some x ∧ x.flags.lost = false
      ∧ (u.stands i k = true ∨ t.stands i k = true)) → StandsEvaluated t k

/-- What becomes of a point that is told nothing but to re-evaluate: at rest it may be thrown, AUTO and detected at its end with its
guard clear; PENDING, its automatic THROW may be withdrawn; and a THROW that waits may start (R107, R108, R110). -/
def PointFollows (s t : State) (k : Nat) : Prop :=
  match (s.pt k).state with
  | .rest e => (s.pt k).command = .none → t.pt k = s.pt k
      ∨ ((s.pt k).held = false ∧ (s.pt k).detected = some e ∧ t.guardClear k = true
        ∧ ∃ r : PointRuntime, r = { s.pt k with state := .pending e.other, command := .queued .automatic }
          ∧ (t.pt k = r ∨ t.pt k = r.started s.clock (r.throwTime k) s.tables.params.allowance))
  | .pending e => t.pt k = s.pt k ∨ t.pt k = (s.pt k).started s.clock ((s.pt k).throwTime k) s.tables.params.allowance
      ∨ ((s.pt k).command = .queued .automatic ∧ t.pt k = { s.pt k with state := .rest e.other, command := .none })
  | .returning _ => t.pt k = s.pt k ∨ t.pt k = (s.pt k).started s.clock ((s.pt k).throwTime k) s.tables.params.allowance
  | .unknown | .moving _ | .waitRetry _ | .failed => t.pt k = s.pt k

/-- Point `p` has gone FAILED by a fault: timers stopped, its THROW withdrawn, engine control told, POINT_FAULT reported after the
ENGINE_STATE of a change of the cause set (the order of the two is the model's, log entry 22); the other points are as they
were but for the start of a THROW, and the other blocks but for the engine, the signal and what the ports send (R122). -/
def WentFailed (s t : State) (p : Nat) (kind : PointFaultKind) : Prop :=
  (∃ r : PointRuntime, r = { s.pt p with
      state := .failed, command := .none, lastFault := some kind, supervision := none, retryTimer := none, deglitchTimer := none }
    ∧ ThrowsStart (s.setPt p r) t ∧ t.pt p = r)
    ∧ Reported s t (causesReport s t (.causeSet .pointFailed) ++ [.pointFault p kind (s.pt p).state .failed (s.pt p).detected
        (s.pt p).drive (s.pt p).retries (s.pt p).throwStart])
    ∧ (∀ c ∈ t.link.commands, c.point ≠ p) ∧ SameYard s t ∧ t.tables = s.tables ∧ t.engine.failed = t.countFailed
    ∧ t.engine.causes.guardViolation = s.engine.causes.guardViolation ∧ t.engine.causes.command = s.engine.causes.command
    ∧ t.engine.causes.supervision = s.engine.causes.supervision
    ∧ (s.engine.failed = 0 → s.engine.causes.pointFailed = false → t.engine.causes.pointFailed = true ∧ t.engine.state ≠ .run)

/-- The fault decision for a point in MOVING(e): a return THROW while its response is RETRY, retries are left and its guard is
clear, reported with outcome RETURNING, and FAILED otherwise (R113). -/
def FaultDecided (s t : State) (p : Nat) (e : Leg) (rec : PointRecord) (kind : PointFaultKind) : Prop :=
  if rec.response = .retry ∧ (s.pt p).retries < rec.retryLimit ∧ s.guardClear p = true then
    ThrowPlaced s t p e.other { s.pt p with
      state := .returning e.other, command := .queued .return, supervision := none, lastFault := some kind }
    ∧ Reported s t [.pointFault p kind (s.pt p).state .returning (s.pt p).detected (s.pt p).drive (s.pt p).retries
        (s.pt p).throwStart]
  else WentFailed s t p kind

/-- The slot, if it is in use, is LOST. -/
def LostIfInUse (t : State) (i : Nat) : Prop := ∀ x, t.slot i = some x → x.flags.lost = true

/-- A guard violation at point `p`: the point has gone FAILED with last fault GUARD_VIOLATION, its timers stopped and its THROW
withdrawn; engine control is told of it, which sets the halt cause and takes the engine out of RUN where it did not stand; every
slot with a run in the guard is LOST (R121, R122). -/
def GuardViolated (s t : State) (p : Nat) : Prop :=
  (∃ r : PointRuntime, r = { s.pt p with
      state := .failed, command := .none, lastFault := some .guardViolation, supervision := none, retryTimer := none,
      deglitchTimer := none }
    ∧ t.pt p = r)
    ∧ (∀ c ∈ t.link.commands, c.point ≠ p) ∧ t.engine.failed = t.countFailed ∧ t.engine.causes.guardViolation = true
    ∧ (s.engine.causes.guardViolation = false → t.engine.state ≠ .run)
    ∧ t.engine.causes.command = s.engine.causes.command ∧ t.engine.causes.supervision = s.engine.causes.supervision
    ∧ ∀ i, (t.sec (.guard p)).holds i = true → LostIfInUse t i

/-- The reports of a guard violation at point `p`, taken from state `s`: the change of the cause set, which names GUARD_VIOLATION set, or
POINT_FAILED where that stood already (the model's reading, log entry 11); a CUT_LOST for every slot that it makes LOST, ascending (the
model's order, log entry 13); and GUARD_VIOLATION with the slots handed over (R121, R132). -/
def ViolationReported (s t : State) (p : Nat) (time : Clock) (owner : Option Owner) : Prop :=
  ∃ slots, slots = (ids 16).filter (fun i => (s.sec (.guard p)).holds i || decide (owner = some (.slot i)))
    ∧ Reported s t (causesReport s t (.causeSet (if s.engine.causes.guardViolation then .pointFailed else .guardViolation))
        ++ ((slots.filter fun i => (s.slot i).isSome && !s.isLost i).map fun i => .cutLost i (s.numberOf i) (.guardViolation p))
        ++ [.guardViolation p (s.pt p).state time owner slots])

/-- A crossing at a counter of a guard is a guard entry: DOWN at the guard-in, UP at a guard-out (R56). -/
def IsGuardEntry (dir : Direction) : Counter → Prop
  | .guardIn _ => dir = .down
  | .guardOut _ _ => dir = .up
  | .lead | .clearance _ => False

/-- What a crossing that is a guard entry does to the point of the guard, by its state: a THROW still PENDING is withdrawn, a point
MOVING or RETURNING is violated, the entering axle's owner being LOST as well, and any other is left alone (R120, R121). -/
def EntryTold (u t : State) (p : Nat) (time : Clock) (owner : Owner) : Prop :=
  match (u.pt p).state with
  | .pending e => t.pt p = { u.pt p with state := .rest e.other, command := .none } ∧ ∀ c ∈ t.link.commands, c.point ≠ p
  | .moving _ | .returning _ => GuardViolated u t p ∧ (∀ i, owner = .slot i → LostIfInUse t i)
      ∧ ∃ others slots, slots = (ids 16).filter (fun i => (t.sec (.guard p)).holds i || decide (owner = .slot i))
        ∧ Reported u t (others ++ [.guardViolation p (u.pt p).state time (some owner) slots])
  | .unknown | .rest _ | .waitRetry _ | .failed => t.pt p = u.pt p

/-- What a crossing that makes a clear guard occupied without an entry, from an empty source, does to the point of the guard, by its
state: a THROW still PENDING is withdrawn, a return THROW still QUEUED is a violation, and any other point is left alone
(R114, R120, R121). -/
def OccupiedTold (u t : State) (p : Nat) : Prop :=
  match (u.pt p).state with
  | .pending e => t.pt p = { u.pt p with state := .rest e.other, command := .none } ∧ ∀ c ∈ t.link.commands, c.point ≠ p
  | .returning _ =>
    if (u.pt p).command.isQueued = true then
      GuardViolated u t p ∧ ∃ others, Reported u t (others ++ [.guardViolation p (u.pt p).state u.clock none []])
    else t.pt p = u.pt p
  | .unknown | .rest _ | .moving _ | .waitRetry _ | .failed => t.pt p = u.pt p

/-- A POINT_STATUS telegram ends on Port T and is handed to the point controller: in state `u`, once the telegrams accepted before it
have been handled and the credits it returns have been taken, with its source, point, detected end and drive (R103, R151, R152, R154). -/
def StatusHanded (s u : State) (frame : List Byte) (src p : Nat) (detected : Option Leg) (drive : Drive) : Prop :=
  (s.handleEarlier .t).link.t.waiting.length < 8
    ∧ ∃ r, readFrame .t frame = .ok r ∧ r.telegram.isTracksideBroadcast .t = true ∧ r.telegram.kind = kindPointStatus
      ∧ parsePointStatus r.telegram.payload = some (p, detected, drive) ∧ src = r.telegram.src.toNat
      ∧ u = (s.handleEarlier .t).takeCredits .t r.credits

/-- A POINT_STATUS taken for a point in MOVING(e), by the table of R111, its detected end and drive having been recorded. -/
def StatusMoving (v t : State) (p : Nat) (e : Leg) (rec : PointRecord) (detected : Option Leg) (drive : Drive) : Prop :=
  match drive, detected with
  | .noLoad, _ => WentFailed v t p .noDrive
  | .overload, _ => FaultDecided v t p e rec .obstructed
  | .idle, none | .running, none => OnlySends v t
  | .idle, some d | .running, some d =>
    if d = e then
      ∃ T w, w = v.setPt p { v.pt p with
          state := .rest e, command := .none, retries := 0, supervision := none,
          learned := some (learn T (elapsed (v.pt p).throwStart v.clock) rec.tMin rec.tMax) }
        ∧ ((v.pt p).learned = none ∨ (v.pt p).learned = some T) ∧ Reevaluated w t p e
    else if drive = .idle then FaultDecided v t p e rec .throwTimeout
    else OnlySends v t

/-- A POINT_STATUS taken for a point in RETURNING(origin) with command SENT, by the table of R115. -/
def StatusReturning (v t : State) (p : Nat) (origin : Leg) (rec : PointRecord) (detected : Option Leg) (drive : Drive) : Prop :=
  match drive, detected with
  | .noLoad, _ => WentFailed v t p .noDrive
  | .overload, _ => WentFailed v t p .obstructed
  | .idle, none | .running, none => OnlySends v t
  | .idle, some d | .running, some d =>
    if d = origin then
      ∃ w, w = v.setPt p { v.pt p with
          state := .waitRetry origin, command := .none, retries := (v.pt p).retries + 1, supervision := none,
          retryTimer := some (after v.clock rec.retryDelay) }
        ∧ OnlySends w t
    else if drive = .idle then WentFailed v t p .throwTimeout
    else OnlySends v t

/-- A POINT_STATUS taken for a point that lies at `e`, in LEFT, RIGHT, PENDING or WAIT_RETRY: the end it lies at stops the
deglitch timer; another, or none, starts the timer when it is stopped, a THROW still queued being withdrawn first; with a
deglitch of 0 ms the expiry is taken at once, and the end adopted may place a THROW of its own (R117, R118). -/
def StatusLying (v t : State) (p : Nat) (e : Leg) (rec : PointRecord) (detected : Option Leg) : Prop :=
  (detected = some e → OnlySends (v.setPt p { v.pt p with deglitchTimer := none }) t)
    ∧ (detected ≠ some e → ∀ w : PointRuntime,
      w = (match (v.pt p).state with
        | .pending _ => { v.pt p with state := .rest e, command := .none }
        | _ => v.pt p) →
      ((∃ x, (v.pt p).state = .pending x) → ∀ c ∈ t.link.commands,
        c.point ≠ p ∨ (c.leg = e ∧ rec.deglitch = 0 ∧ detected = some e.other))
      ∧ (w.deglitchTimer ≠ none → OnlySends (v.setPt p w) t)
      ∧ (w.deglitchTimer = none → 1 ≤ rec.deglitch → rec.deglitch ≤ 700 →
          OnlySends (v.setPt p { w with deglitchTimer := some (after v.clock rec.deglitch) }) t)
      ∧ (w.deglitchTimer = none → rec.deglitch = 0 →
          (detected = none → WentFailed (v.setPt p w) t p .detectionLost)
          ∧ (detected = some e.other → v.guardClear p = true →
              Reevaluated (v.setPt p { w with state := .rest e.other, retryTimer := none }) t p e.other
                ∧ Reported v t [.pointUncommandedMove p e e.other])
          ∧ (detected = some e.other → v.guardClear p = false → ∃ x, x = v.setPt p w
              ∧ GuardViolated x t p ∧ ViolationReported x t p v.clock none ∧ t.sections = v.sections ∧ t.tables = v.tables)))

/-! ### Selection at a port (R154, R157 to R159) -/

/-- No own class of a port holds a telegram: without a station address none does (R147, R158). -/
def NoOwn (s : State) : Port → Prop
  | .t => s.station = none ∨ (s.link.commands = [] ∧ s.link.signalSlot = none ∧ ∀ r ∈ s.link.responses, r.port ≠ .t)
  | .y => s.station = none ∨ ((∀ r ∈ s.link.responses, r.port ≠ .y) ∧ s.reports.queue = [])

/-- A port may begin a telegram of its own: it is idle with credit, the part has a station address, and no pass telegram is due by
fairness (R154, R158, R159). -/
def OwnMay (s : State) (port : Port) : Prop :=
  (s.port port).sending = none ∧ 1 ≤ (s.port port).credits ∧ s.station ≠ none
    ∧ ((s.port port).passQueue = [] ∨ (s.port port).fairness < 4)

/-- A port as it was, but for an own telegram that it begins (R154, R159). -/
def PortState.begun (x : PortState) (dest src : Nat) (body : SentBody) : PortState :=
  { x with
    sending := some ⟨dest, src, x.owed, body⟩
    owed := 0
    credits := x.credits - 1
    fairness := if x.passQueue = [] then x.fairness else min 4 (x.fairness + 1) }

/-- A telegram has been placed last in a port's pass queue, whose head may have begun at once (R152, R153, R157). -/
def PassPlaced (s t : State) (port : Port) (m : Telegram) : Prop :=
  (t.port port).passQueue = (s.port port).passQueue ++ [m]
    ∨ ∃ x y, (t.port port).sending = some x ∧ x.body = .passed y ∧ y :: (t.port port).passQueue = (s.port port).passQueue ++ [m]

/-! ### SLOT_READ part 2 (R166) -/

/-- The place of an entry: the claim lists ascending, then the sections in the order of R42. -/
def SlotEntry.place : SlotEntry → Nat
  | .claim p _ => p
  | .runs id _ => 63 + sectionPlace id

/-- What SLOT_READ part 2 lists for a slot: its claim at every point in whose claim list it stands, and the axles it has in every
section that holds a run of it, in that order, each once (R100, R166). -/
def SlotListed (s : State) (i : Nat) (l : List SlotEntry) : Prop :=
  (∀ p want, .claim p want ∈ l ↔ (1 ≤ p ∧ p ≤ 63
      ∧ ∃ a b, s.claimList p = a ++ ⟨i, want⟩ :: b ∧ ∀ c ∈ a, c.slot ≠ i))
    ∧ (∀ id n, .runs id n ∈ l ↔ (id.inRange = true ∧ (∃ r ∈ (s.sec id).runs, r.owner = .slot i)
      ∧ n = ((s.sec id).runs.map fun r => if r.owner = .slot i then r.count else 0).sum))
    ∧ l.Pairwise fun a b => a.place < b.place

/-! ### Run removal (R59) -/

/-- Runs grouped by neighbours of one owner, joined and capped at 127 (R59). -/
def RunsJoined (groups : List (List Run)) (before after : List Run) : Prop :=
  before = groups.flatten ∧ (∀ g ∈ groups, g ≠ [] ∧ ∀ x ∈ g, ∀ y ∈ g, x.owner = y.owner)
    ∧ (∀ a b l m, groups = l ++ a :: b :: m → ∀ x ∈ a, ∀ y ∈ b, x.owner ≠ y.owner)
    ∧ List.Forall₂ (fun g r => (∀ x ∈ g, x.owner = r.owner) ∧ r.count = min 127 (g.map Run.count).sum) groups after

/-- A section that held runs of slot `i` has lost them: what is left is joined, and the section is DISTURBED with cause
RUN_OVERFLOW, its slots becoming LOST, where a joined count exceeds 127 (R53, R59). -/
def RunsRemoved (s t : State) (i : Nat) (id : SectionId) : Prop :=
  ∃ groups, RunsJoined groups ((s.sec id).runs.filter fun r => decide (r.owner ≠ .slot i)) (t.sec id).runs
    ∧ (if ∃ g ∈ groups, 127 < (g.map Run.count).sum then
        (t.sec id).disturbance = some ((s.sec id).disturbance.getD ⟨.runOverflow, none, none⟩)
          ∧ ((s.sec id).disturbance = none → ∀ r ∈ (t.sec id).runs, ∀ k, r.owner = .slot k → LostIfInUse t k)
      else (t.sec id).disturbance = (s.sec id).disturbance)

/-! ### An axle's way through the lists (R43 to R54) -/

/-- An AXLE telegram ends on Port T and is handed to the section counter unit: in state `u`, once the telegrams accepted before it have
been handled and the credits it returns have been taken, outside CONFIG, with its detector, direction and event time (R43, R44, R151,
R152, R154). -/
def AxleHanded (s u : State) (frame : List Byte) (d : Nat) (dir : Direction) (time : Clock) : Prop :=
  (s.handleEarlier .t).link.t.waiting.length < 8 ∧ u.engine.state ≠ .config
    ∧ ∃ r age, readFrame .t frame = .ok r ∧ r.telegram.isTracksideBroadcast .t = true ∧ r.telegram.kind = kindAxle
      ∧ parseAxle r.telegram.payload = some (d, dir, age) ∧ u = (s.handleEarlier .t).takeCredits .t r.credits
      ∧ time = eventTime u.wrapped u.clock age

/-- A section list seen from one of its ends (R41). -/
def facing : Side → List Run → List Run
  | .head, l => l
  | .tail, l => l.reverse

/-- One axle has been taken at an end: the run there, whose owner it has, is one shorter, or gone at 0 (R45, R48). -/
def AxleTaken (side : Side) (before : List Run) (owner : Owner) (after : List Run) : Prop :=
  ∃ n l, facing side before = ⟨owner, n⟩ :: l ∧ facing side after = if n ≤ 1 then l else ⟨owner, n - 1⟩ :: l

/-- One axle of an owner can be recorded at an end: the run there has its owner and holds less than 127, or there is room for
one more run (R52). -/
def AxleFits (side : Side) (runs : List Run) (owner : Owner) : Prop :=
  match facing side runs with
  | [] => True
  | r :: _ => if r.owner = owner then r.count < 127 else runs.length < 8

/-- One axle of an owner has been recorded at an end: on the run there when that has its owner, else as a new run
(R45, R48). -/
def AxleAdded (side : Side) (before : List Run) (owner : Owner) (after : List Run) : Prop :=
  facing side after = match facing side before with
    | [] => [⟨owner, 1⟩]
    | r :: l => if r.owner = owner then ⟨owner, r.count + 1⟩ :: l else ⟨owner, 1⟩ :: r :: l

/-- A section is DISTURBED: with its earlier record when it has one, and otherwise with this one, every slot with a run in it
being LOST, and SECTION_DISTURBED reported with the slots that it makes LOST, the owner of a discarded axle among them, ascending (R53). -/
def DisturbedBy (s t : State) (id : SectionId) (record : Disturbance) (owner : Owner) : Prop :=
  (t.sec id).disturbance = some ((s.sec id).disturbance.getD record)
    ∧ ((s.sec id).disturbance = none → (∀ i, (s.sec id).holds i = true → LostIfInUse t i)
      ∧ ∃ before after slots, Reported s t (before ++ .sectionDisturbed id record.cause record.detector record.time slots :: after)
        ∧ slots.Pairwise (· < ·)
        ∧ ∀ i x, s.slot i = some x → (i ∈ slots ↔ ((s.sec id).holds i = true ∨ owner = .slot i) ∧ x.flags.lost = false))

/-- An axle has left a section at one end. From an empty section it comes as UNKNOWN, and the section is DISTURBED with cause
EMPTY_SOURCE (R45, R48, R51). -/
def AxleLeaves (s t : State) (id : SectionId) (side : Side) (d : Nat) (time : Clock) (owner : Owner) : Prop :=
  ((s.sec id).runs ≠ [] → AxleTaken side (s.sec id).runs owner (t.sec id).runs ∧ (t.sec id).disturbance = (s.sec id).disturbance)
    ∧ ((s.sec id).runs = [] → owner = .unknown ∧ (t.sec id).runs = [] ∧ DisturbedBy s t id ⟨.emptySource, some d, some time⟩ owner)

/-- An axle has entered a section at one end: recorded where it fits, and otherwise discarded, the section being DISTURBED with
cause RUN_OVERFLOW. An axle that enters a DISTURBED section, and one discarded, makes its owner LOST, which CUT_LOST reports where the
section was DISTURBED already (R45, R48, R52 to R54, R96). -/
def AxleEnters (s t : State) (id : SectionId) (side : Side) (d : Nat) (time : Clock) (owner : Owner) : Prop :=
  (AxleFits side (s.sec id).runs owner → AxleAdded side (s.sec id).runs owner (t.sec id).runs
      ∧ (t.sec id).disturbance = (s.sec id).disturbance)
    ∧ (¬AxleFits side (s.sec id).runs owner → (t.sec id).runs = (s.sec id).runs
      ∧ DisturbedBy s t id ⟨.runOverflow, some d, some time⟩ owner)
    ∧ (¬AxleFits side (s.sec id).runs owner ∨ (s.sec id).disturbance ≠ none → ∀ i, owner = .slot i → LostIfInUse t i)
    ∧ ((s.sec id).disturbance ≠ none → ∀ i x, owner = .slot i → s.slot i = some x → x.flags.lost = false →
        ∃ before after, Reported s t (before ++ .cutLost i x.number (.sec id) :: after))

/-- Every section but those two is as it was. -/
def OtherSections (s t : State) (a b : SectionId) : Prop := ∀ id, id ≠ a → id ≠ b → t.sec id = s.sec id

/-! ### A slot's way down the ladder (R81 to R96) -/

/-- Slot `x` as steps 1 to 4 of a head crossing at `c` leave it: the sample and the estimate when one is due, the head and its
time, the anchor, and the stall deadline, whose timer an instant already reached stops at once (R62, R64, R76, R77, R81). -/
def HeadMoved (s : State) (x : Slot) (c : Counter) (time : Clock) (y : Slot) : Prop :=
  ∃ samples estimate deadline,
    (if x.flags.unanchored = false ∧ s.exitCounter x.head c = true then
        samples = (sampleOf (s.headLength x.head) x.headTime time :: x.samples).take 4
          ∧ estimate = estimateOf s.tables.params.weights samples
      else samples = x.samples ∧ estimate = x.estimate)
    ∧ deadline = after time (stallInterval (s.headLength c) estimate s.tables.params.stallAllowance)
    ∧ y = { x with head := c, headTime := time, samples := samples, estimate := estimate,
                   stall := ⟨deadline, !reached s.clock deadline⟩,
                   flags := { x.flags with unanchored := false, stalled := reached s.clock deadline } }

/-- Slot `x` with the result of a retargeting or a resolution at `p` by `leg` taken (R13, R89). -/
def Routed (s : State) (x : Slot) (p : Nat) (leg : Leg) (y : Slot) : Retarget → Prop
  | .track t mark => y = { x with
      target := some t, path := s.trackPath t, unresolved := none, reservation := x.expected,
      flags := { x.flags with overRoom := mark, retargeted := x.flags.retargeted || decide (x.target ≠ some t) } }
  | .unresolved q => ∃ pairs, s.lieWalkFrom p leg = .stopped q pairs ∧ y = { x with
      target := none, path := s.pointPath p ++ (p, leg) :: pairs, unresolved := some q, reservation := 0,
      flags := { x.flags with overRoom := false, retargeted := x.flags.retargeted || x.target.isSome } }

/-- The point is the slot's unresolved point or lies in that point's subtree (R84). -/
def Covers (s : State) (x : Slot) (p : Nat) : Prop := ∃ q, x.unresolved = some q ∧ (p = q ∨ s.below q p = true)

/-- The wanted end that the claim set of a slot gives at a point: the leg of its path, or NONE where it is UNRESOLVED (R84). -/
def Wants (s : State) (x : Slot) (p : Nat) (want : Option Leg) : Prop :=
  (∃ e, legAt x.path p = some e ∧ want = some e) ∨ (legAt x.path p = none ∧ Covers s x p ∧ want = none)

/-- The claims of slot `i` are in line with its claim set at the point of a change and below it: what stands is wanted so, and
what is wanted below stands, unless the head has passed (R84, R85). -/
def ClaimsInLine (s t : State) (i : Nat) (y : Slot) (base : Nat) : Prop :=
  ∀ k, 1 ≤ k → k ≤ 63 → k = base ∨ s.below base k = true →
    (∀ c ∈ t.claimList k, c.slot = i → Wants s y k c.want)
      ∧ (k ≠ base → s.headPassed y.head k = false → (∃ want, Wants s y k want) → t.stands i k = true)

/-- The head counter of a slot is one of point `k`'s guard-out counters, or lies downstream of them (R85). -/
def HeadBeyond (s : State) (k : Nat) : Counter → Prop
  | .lead => False
  | .guardIn q => ∃ leg, (k, leg) ∈ s.pointPath q
  | .guardOut q _ => q = k ∨ ∃ leg, (k, leg) ∈ s.pointPath q
  | .clearance t => ∃ leg, (k, leg) ∈ s.trackPath t

/-- A section is the guard of point `k`, its link, or one above it on the route from the lead (R85). -/
def DownTill (s : State) (k : Nat) (id : SectionId) : Prop :=
  ∃ q, (q = k ∨ ∃ leg, (q, leg) ∈ s.pointPath k) ∧ (id = .guard q ∨ id = .pointLink q)

/-- The tail of slot `i`, whose head counter is `head`, has not gone by point `k`: the head has not passed its guard-out, or a run of the
slot is left in its guard or above (R85). -/
def TailRemains (s t : State) (i k : Nat) (head : Counter) : Prop :=
  HeadBeyond s k head → ∃ id, DownTill s k id ∧ (t.sec id).holds i = true

/-- The tail test after a crossing of slot `i`: it stands in the claim list of a point only while its tail has not gone by, and a claim of
its claim set is given up on that ground alone (R84, R85). -/
def TailFollowed (u t : State) (i : Nat) : Prop :=
  ∀ y, t.slot i = some y → y.flags.lost = false → ∀ k,
    (t.stands i k = true → TailRemains u t i k y.head)
      ∧ (u.stands i k = true → (∃ want, Wants u y k want) → TailRemains u t i k y.head → t.stands i k = true)

/-- Slot `x`, not LOST before, has become LOST (R96). -/
def BecameLost (t : State) (i : Nat) (x : Slot) : Prop :=
  t.slot i = some { x with unresolved := none, reservation := 0, flags := { x.flags with lost := true } }
    ∧ ∀ p, t.stands i p = false

/-- The axle of slot `i`, in use as `x` and not LOST, that has entered the guard of point `p` other than as its head, leaves the slot as
`y`: it joins the point's claim list again, with the wanted end of its claim set; where that does not hold the point it stays where it
stands, and becomes LOST, with cause OFF_PATH, where it does not stand there (R86). -/
def Rejoined (u t : State) (i p : Nat) (x y : Slot) : Prop :=
  (∀ want, Wants u x p want → t.slot i = some y ∧ t.stands i p = true
      ∧ (u.stands i p = false → ⟨i, want⟩ ∈ t.claimList p) ∧ Reported u t [])
    ∧ ((∀ want, ¬Wants u x p want) →
      (u.stands i p = true → t.slot i = some y ∧ Reported u t [])
      ∧ (u.stands i p = false → BecameLost t i y ∧ Reported u t [.cutLost i x.number (.offPath p)]))

/-- Slot `i` has cleared into track `k`, which is charged with `n` axles; the points in whose claim lists it stood have re-evaluated
(R14, R95, R106). -/
def ClearedInto (s t : State) (i k n : Nat) : Prop :=
  t.slot i = none ∧ (∀ p, t.stands i p = false) ∧ t.signal.demand = t.demandNow
    ∧ (∀ p, s.stands i p = true → StandsEvaluated t p)
    ∧ ∃ tracks, tracks = writeAt s.tables.tracks k ((s.trackRecord k).map fun r => { r with room := r.room - n })
      ∧ t.tables = { s.tables with tracks := tracks }

/-- Slot `x` as the closing of its cut leaves it: a listed cut's counts compared, an UNLISTED one's count taken as expected,
and ROLLING unless CLEARING (R37). -/
def Closed (x y : Slot) : Prop :=
  ∃ phase bad count, (phase = match x.phase with | .clearing k => .clearing k | .entering | .rolling => .rolling)
    ∧ bad = (x.flags.mismatch || (x.record.isSome && decide (x.counted ≠ x.expected)))
    ∧ count = (if x.record = none then x.counted else x.expected)
    ∧ y = { x with phase := phase, expected := count, flags := { x.flags with mismatch := bad } }

/-- AXLE_MISMATCH of slot `i` at the closing of its cut; none of an UNLISTED cut, nor where the counts are equal (R37). -/
def mismatchReport (i : Nat) (x : Slot) : List ReportBody :=
  match x.record with
  | some r => if x.counted = x.expected then [] else [.axleMismatch i r.number x.expected x.counted]
  | none => []

/-- CUT_STALLED of slot `i` where its stall deadline, when it was armed, had already passed (R76, R83). -/
def stalledReport (i : Nat) (z : Slot) : List ReportBody :=
  if z.flags.stalled then [.cutStalled i z.number z.head z.headTime z.estimate z.flags] else []

/-! ### ENGINE_STATE reports (R132) -/

/-- The record is an ENGINE_STATE report. -/
def Report.ofEngine (r : Report) : Bool :=
  match r.body with
  | .engineState .. => true
  | _ => false

/-- The ENGINE_STATE reports that wait. -/
def State.engineReports (s : State) : Nat := s.reports.queue.countP Report.ofEngine

/-! ### Bounds of the queues, lists and counts -/

/-- The bounds of a port (R149, R150, R153, R154, R159). -/
def PortState.bounded (x : PortState) : Prop :=
  x.waiting.length ≤ 8 ∧ x.credits ≤ 15 ∧ x.owed ≤ 8 ∧ x.fairness ≤ 4 ∧ x.passQueue.length ≤ 16 ∧ x.errors ≤ 65535

/-- The report queue holds at most 32 records, in level order, and its discard count is in range (R178, R180). -/
def ReportQueue.bounded (x : ReportQueue) : Prop :=
  x.queue.length ≤ 32 ∧ x.queue.Pairwise (fun a b => b.level.rank ≤ a.level.rank) ∧ x.discards ≤ 65535

/-- A section list holds at most 8 runs of 1 to 127 axles, no two neighbours of one owner (R41). -/
def Section.bounded (x : Section) : Prop :=
  x.runs.length ≤ 8 ∧ (∀ r ∈ x.runs, 1 ≤ r.count ∧ r.count ≤ 127)
    ∧ ∀ a b l m, x.runs = l ++ a :: b :: m → a.owner ≠ b.owner

/-- A cut record's expected axles are in range (R23). -/
def CutRecord.bounded (r : CutRecord) : Prop := 1 ≤ r.expected ∧ r.expected ≤ 96

/-- The counts, the samples and the estimate of a slot are in range (R61, R63, R64, R77). -/
def Slot.bounded (x : Slot) : Prop :=
  x.counted ≤ 127 ∧ x.cleared ≤ 127 ∧ x.expected ≤ 127 ∧ x.reservation ≤ 127 ∧ x.samples.length ≤ 4
    ∧ (∀ v ∈ x.samples, 20 ≤ v ∧ v ≤ 1200) ∧ 20 ≤ x.estimate ∧ x.estimate ≤ 1200 ∧ ∀ r, x.record = some r → r.bounded

/-- The retries used of a point stay within its record's limit, itself at most 3, and below 3 while a return throw is out
(R2, R101, R113, R115). -/
def PointRuntime.bounded (r : PointRuntime) : Prop := r.retries ≤ 3 ∧ ((∃ e, r.state = .returning e) → r.retries ≤ 2)

/-- A point record's throw times and retry limit are in range (R2). -/
def PointRecord.bounded (r : PointRecord) : Prop :=
  100 ≤ r.tMin ∧ r.tMin ≤ r.nominal ∧ r.nominal ≤ r.tMax ∧ r.tMax ≤ 4000 ∧ r.retryLimit ≤ 3

/-- A track register's room and alternates are in range (R3). -/
def TrackRecord.bounded (r : TrackRecord) : Prop :=
  r.room ≤ 4095 ∧ r.alternates.length ≤ 3 ∧ r.alternates.Nodup ∧ ∀ a ∈ r.alternates, 1 ≤ a ∧ a ≤ 64

/-- A patch entry's numbers are in range (R7). -/
def Patch.bounded (e : Patch) : Prop := e.destination ≤ 1023 ∧ e.track ≤ 64 ∧ e.uses ≤ 255

/-- The fence set is ANY, or a list of 1 to 4 stations without repeats (R170). -/
def fenceBounded : Fence → Prop
  | .any => True
  | .only l => l ≠ [] ∧ l.length ≤ 4 ∧ l.Nodup ∧ ∀ a ∈ l, 1 ≤ a ∧ a ≤ 254

/-- Every queue, list and count of the part that the spec bounds is within its bound; the paths of the slots apart, which
`State.ladderSound` bounds. -/
structure State.bounded (s : State) : Prop where
  ports : s.link.y.bounded ∧ s.link.t.bounded
  commands : s.link.commands.length ≤ 64
  responses : s.link.responses.length ≤ 4
  counts : s.link.unmapped ≤ 65535 ∧ s.link.unknownPoint ≤ 65535 ∧ s.link.forwardingLoss ≤ 65535
  reports : s.reports.bounded
  cutList : s.cutList.length ≤ 32 ∧ ∀ r ∈ s.cutList, r.bounded
  sections : ∀ id, (s.sec id).bounded
  slots : ∀ i x, s.slot i = some x → x.bounded
  claims : ∀ p, (s.claimList p).length ≤ 16
  points : ∀ p, (s.pt p).bounded
  records : ∀ p r, s.pointRecord p = some r → r.bounded
  learned : ∀ p T, (s.pt p).learned = some T → ∃ r, s.pointRecord p = some r ∧ r.tMin ≤ T ∧ T ≤ r.tMax
  tracks : ∀ t r, s.trackRecord t = some r → r.bounded
  patches : ∀ k, (readAt s.tables.patches ⟨false, 0, 0, 0⟩ k).bounded
  routes : ∀ code, s.routeEntry code ≤ 64
  fence : fenceBounded s.mgmt.fence
  entrySpeed : 20 ≤ s.tables.params.entrySpeed ∧ s.tables.params.entrySpeed ≤ 1200

/-! ### The ladder of a run (R10 to R12, R78) -/

/-- In CONFIG no slot is in use. Outside CONFIG the walks of the ladder have at most 12 pairs, the derived paths of the present
points and tracks are those walks and an absent one has none, and every number of the detector map is that of its counter. The
path of every slot has at most 12 pairs. -/
structure State.ladderSound (s : State) : Prop where
  config : s.engine.state = .config → ∀ i, s.slot i = none
  walks : s.engine.state ≠ .config → ∀ path b, DownTo s path b → path.length ≤ 12
  points : s.engine.state ≠ .config →
    ∀ p, if s.pointRecord p = none then s.pointPath p = [] else DownTo s (s.pointPath p) (.point p)
  tracks : s.engine.state ≠ .config →
    ∀ t, if s.trackRecord t = none then s.trackPath t = [] else DownTo s (s.trackPath t) (.track t)
  map : s.engine.state ≠ .config → ∀ d j, s.joint d = some j → DetectorAt s d j.counter ∧ Joins s j.up j.down j.counter
  slots : ∀ i x, s.slot i = some x → x.path.length ≤ 12

/-! ### THROWs (R101, R109, R155) -/

/-- An entry of the detector map joins the places of its counter (R11). -/
def Joint.sound (j : Joint) : Prop :=
  match j.counter with
  | .lead => j.up = .outside ∧ ∃ p, j.down = .sec (.pointLink p)
  | .guardIn p => j.up = .sec (.pointLink p) ∧ j.down = .sec (.guard p)
  | .guardOut p _ => j.up = .sec (.guard p) ∧ ∃ b : Branch, j.down = .sec b.sec
  | .clearance t => j.up = .sec (.trackLink t) ∧ j.down = .track t

/-- A point's state and its command go together (R101), and its deglitch timer runs only while the point lies at an end that
is not the one detected (R117). -/
def PointRuntime.sound (r : PointRuntime) : Prop :=
  (match r.state, r.command with
    | .pending _, .queued .automatic | .pending _, .queued .manual => True
    | .moving _, .sent .automatic | .moving _, .sent .manual => True
    | .returning _, .queued .return | .returning _, .sent .return => True
    | .unknown, .none | .rest _, .none | .waitRetry _, .none | .failed, .none => True
    | _, _ => False)
  ∧ (r.deglitchTimer ≠ none → ∃ e, (r.state = .rest e ∨ r.state = .waitRetry e) ∧ r.detected ≠ some e)

/-- The command queue holds one THROW of each point whose command is QUEUED, to the end its state names, and no other; and no
THROW stands queued for a point whose guard is not clear. -/
structure State.throwsSound (s : State) : Prop where
  map : ∀ x ∈ s.tables.detectorMap, x.2.sound
  points : ∀ p, (s.pt p).sound
  distinct : (s.link.commands.map Throw.point).Nodup
  queued : ∀ c ∈ s.link.commands, 1 ≤ c.point ∧ c.point ≤ 63 ∧ (s.pt c.point).command.isQueued = true
    ∧ ((s.pt c.point).state = .pending c.leg ∨ (s.pt c.point).state = .returning c.leg)
  clear : ∀ p, (s.pt p).command.isQueued = true → (∃ c ∈ s.link.commands, c.point = p) ∧ s.guardClear p = true

/-! ### Claim lists (R84, R96, R104) -/

/-- No slot stands in a claim list twice, and every slot that stands in one is in use and not LOST. -/
def State.claimsSound (s : State) : Prop :=
  ∀ p, ((s.claimList p).map Claim.slot).Nodup ∧ ∀ c ∈ s.claimList p, ∃ x, s.slot c.slot = some x ∧ x.flags.lost = false

/-- Every claim list stands in the order of the crest ordinals, oldest first (R38). -/
def State.claimsOrdered (s : State) : Prop :=
  ∀ p, (s.claimList p).Pairwise fun a b =>
    ∀ x y, s.slot a.slot = some x → s.slot b.slot = some y → older x.ordinal y.ordinal = true

/-- The slots in use were bound within the last 32,767 bindings, each by its own, so that R38 orders them as they were bound. -/
def State.recent (s : State) : Prop :=
  (∀ i x, s.slot i = some x → 1 ≤ (s.binder.nextOrdinal - x.ordinal).toNat ∧ (s.binder.nextOrdinal - x.ordinal).toNat ≤ 32767)
    ∧ ∀ i j x y, s.slot i = some x → s.slot j = some y → x.ordinal = y.ordinal → i = j

/-! ### Engine control (R131, R136) -/

/-- Outside CONFIG the engine is HALTED exactly while the cause set is not empty; POINT_FAILED stands exactly while
the number of points FAILED is above 0, and that number is the points' own. -/
def State.engineSound (s : State) : Prop :=
  (s.engine.state ≠ .config → (s.engine.state = .halted ↔ s.engine.causes ≠ .empty))
    ∧ (s.engine.causes.pointFailed = true ↔ 0 < s.engine.failed) ∧ s.engine.failed = s.countFailed

/-! ### The hump signal (R140 to R142) -/

/-- The current demand is the one its inputs give; a telegram that waits for the signal station carries it; the
refresh timer runs exactly while the signal station is set. -/
def State.signalSound (s : State) : Prop :=
  s.signal.demand = s.demandNow
    ∧ (∀ m, s.link.signalSlot = some m → m = ⟨s.signal.demand, s.tables.params.signalStation⟩ ∧ m.dest ≠ 0)
    ∧ (s.signal.refresh.isSome = true ↔ s.tables.params.signalStation ≠ 0)

/-! ### The control claim (R143, R164) -/

/-- Supervision is armed exactly while a station holds the claim, and no phase is kept without a claim. -/
def State.claimSound (s : State) : Prop :=
  (s.mgmt.supervision.isSome = s.mgmt.holder.isSome) ∧ (s.mgmt.holder = none → s.mgmt.phase = none)

end Sys2Proof.Machine

namespace Sys2Proof

/-- The request and its code, for a command that carries out a controller-only request of 9.2 (R163). -/
def Instr.controllerRequest : Instr → Option (Req × RequestCode)
  | .releaseControl q => some (q, .releaseControl)
  | .tableWritePoint q _ _ | .tableWritePointRemove q _ | .tableWriteTrack q _ _ | .tableWriteTrackRegister q _ _
  | .tableWriteTrackRemove q _ | .tableWriteParameter q _ _ | .tableWriteRoute q _ _ | .tableWritePatch q _ _ =>
    some (q, .tableWrite)
  | .cutAppend q _ _ => some (q, .cutAppend)
  | .cutInsertBefore q _ _ _ => some (q, .cutInsertBefore)
  | .cutWithdraw q _ => some (q, .cutWithdraw)
  | .cutAmend q _ _ => some (q, .cutAmend)
  | .cutListClear q => some (q, .cutListClear)
  | .slotDrop q _ => some (q, .slotDrop)
  | .sectionRestore q _ => some (q, .sectionRestore)
  | .restoreAll q => some (q, .restoreAll)
  | .pointHold q _ => some (q, .pointHold)
  | .pointRelease q _ => some (q, .pointRelease)
  | .pointSet q _ _ => some (q, .pointSet)
  | .pointClearFault q _ => some (q, .pointClearFault)
  | .pointClearRetries q _ => some (q, .pointClearRetries)
  | .start q => some (q, .start)
  | .stopEngine q => some (q, .stopEngine)
  | .halt q => some (q, .halt)
  | .resume q => some (q, .resume)
  | .service q _ => some (q, .service)
  | .fenceWrite q _ => some (q, .fenceWrite)
  | .deviceReset _ | .telegramReceived _ _ _ | .passTelegramMove _ | .unknownRequest _ _ | .statusRead _ _
  | .tableRead _ _ _ | .cutListRead _ _ | .slotRead _ _ _ _ | .sectionRead _ _ _ | .pointRead _ _ _ _ | .linkRead _ _ _
  | .claimControl _ | .warmReset _ | .endOfTransmission _ | .gapTimerExpiry | .stallDeadlineExpiry _
  | .supervisionTimerExpiry _ | .retryTimerExpiry _ | .deglitchTimerExpiry _ | .refreshTimerExpiry
  | .controllerSupervisionExpiry => none

end Sys2Proof
end

