-- ==== Sys2Proof/Certificates/Slice0/Obligations.lean ====
section
/-! DEFINITION. The statements for the provers, drawn from the numbered rules of spec/. -/

section
open Sys2Proof Sys2Proof.Machine

/-! ### The step, completion, reset -/

/-- A step takes the command at the front of the queue and carries it out on the state with the queue's rest. -/
def Obligations.StepRunsFrontCommand : Prop :=
  ∀ (s : State) (c : Instr) (rest : List Instr), s.pending = c :: rest → step s = exec c { s with pending := rest }

/-- With no command waiting one millisecond passes and the ports may send; the clock that passes from its last reading to 0 has
wrapped (the model's choice, log entries 1 and 21). -/
def Obligations.IdleStepLetsAMillisecondPass : Prop :=
  ∀ s : State, s.pending = [] →
    ∃ t wrapped, step s = .next t ∧ t.clock = s.clock + 1 ∧ t.wrapped = wrapped
      ∧ wrapped = (s.wrapped || decide (s.clock = 4294967295#32)) ∧ OnlySends { s with clock := s.clock + 1, wrapped := wrapped } t

/-- Every command is carried out, in every state, and leaves the commands behind it waiting. That DEVICE_RESET keeps them is the
model's choice (log entry 2), and so is it that a command whose event cannot occur, or with no request waiting or no room
for its response, still answers a next state (log entries 3 and 4). -/
def Obligations.EveryCommandRunsAndKeepsTheQueue : Prop :=
  ∀ (c : Instr) (s : State), ∃ t, exec c s = .next t ∧ t.pending = s.pending

/-- The state right after a device reset holds the values the rules give (R1, R5, R7, R24, R31, R42, R77, R102, R131,
R142, R143, R160, R164, R170, R173, R180). The straps, all low, are the model's (log entry 2), and so is the bit that says
the clock has wrapped (log entry 21). -/
def Obligations.ResetHoldsTheGivenValues : Prop :=
  let s := State.reset
  (∀ p, s.pointRecord p = none) ∧ (∀ t, s.trackRecord t = none) ∧ (∀ code, code ≤ 1023 → s.routeEntry code = 0)
    ∧ (∀ k, 1 ≤ k → k ≤ 8 → readAt s.tables.patches ⟨true, 1, 1, 1⟩ k = ⟨false, 0, 0, 0⟩)
    ∧ s.tables.params = ⟨0, 0, 0, 2000, 1500, 300, 128, 64, 32, 32, 300, 500, 10000, 8, 14, 1000, true, Vector.replicate 18 .mid⟩
    ∧ s.tables.detectorMap = [] ∧ s.cutList = [] ∧ s.binder = ⟨.closed, none, 0⟩
    ∧ (∀ id, id.inRange = true → s.sec id = ⟨some ⟨.deviceReset, none, none⟩, []⟩) ∧ (∀ i, s.slot i = none)
    ∧ (∀ p, 1 ≤ p → p ≤ 63 → (s.pt p).state = .unknown ∧ (s.pt p).detected = none ∧ (s.pt p).drive = .idle
        ∧ (s.pt p).held = false ∧ (s.pt p).learned = none ∧ (s.pt p).retries = 0 ∧ (s.pt p).command = .none
        ∧ (s.pt p).lastFault = none ∧ (s.pt p).supervision = none ∧ (s.pt p).retryTimer = none
        ∧ (s.pt p).deglitchTimer = none ∧ s.claimList p = [])
    ∧ s.signal = ⟨.stop, none⟩ ∧ s.engine = ⟨.config, ⟨false, false, false, false⟩, 0⟩
    ∧ s.mgmt = ⟨none, .any, none, none⟩ ∧ s.reports = ⟨[], 0⟩ ∧ s.clock = 0 ∧ s.wrapped = false
    ∧ s.link = ⟨⟨[], 0, 8, 0, [], none, 0, none⟩, ⟨[], 0, 8, 0, [], none, 0, none⟩, [], none, [], 0, 0, 0⟩

/-- DEVICE_RESET sets every block to its reset value with the straps read anew, offers one ENGINE_STATE report, and each
port sends a FILL that returns 8 credits (R131, R132, R160, R173, R182). The model's choices in it: that the commands
that wait stay (log entry 2), that every throw start time is 0 (log entry 5, unsafe: R102 gives it no meaning) and that
the derived paths are empty (log entry 20). -/
def Obligations.DeviceResetCompletes : Prop :=
  ∀ (straps : Byte) (s : State), ∃ t, exec (.deviceReset straps) s = .next t ∧ t.straps = straps ∧ t.clock = 0
    ∧ t.wrapped = false ∧ t.tables = State.reset.tables ∧ t.cutList = [] ∧ t.binder = State.reset.binder
    ∧ t.sections = State.reset.sections
    ∧ t.slots = State.reset.slots ∧ t.points = State.reset.points ∧ t.claims = State.reset.claims
    ∧ t.signal = ⟨.stop, none⟩ ∧ t.engine = State.reset.engine ∧ t.mgmt = State.reset.mgmt
    ∧ (∀ p, t.port p = ⟨[], 0, 0, 0, [], some ⟨255, t.source, 8, .fill⟩, 0, none⟩)
    ∧ t.link.commands = [] ∧ t.link.signalSlot = none ∧ t.link.responses = [] ∧ t.link.unmapped = 0
    ∧ t.link.unknownPoint = 0 ∧ t.link.forwardingLoss = 0
    ∧ t.reports = ⟨if t.station = none then [] else [⟨.mid, 0, .engineState .config .empty .deviceReset⟩], 0⟩
    ∧ t.pending = s.pending

/-- WARM_RESET from a station in the fence set has the effects of R172 and is answered DONE; from another station it is
refused with FENCED (R102, R131, R142, R160, R170, R171, R172). The ports keep what R160 and R172 say but for what they
then send, and the request's buffer is freed. Its ENGINE_STATE report is queued alone, or already being sent; there is
none without a station address or at level OFF. -/
def Obligations.WarmResetCompletes : Prop :=
  ∀ (q : Req) (m : Telegram) (s : State), s.mayAnswer q m →
    (inFence s.mgmt.fence m.src.toNat = true → ∃ t, exec (.warmReset q) s = .next t
      ∧ Answered s t q m .warmReset (.done .plain) ∧ t.clock = s.clock ∧ t.wrapped = s.wrapped ∧ t.straps = s.straps
      ∧ t.tables = s.tables
      ∧ t.engine = ⟨.config, ⟨false, false, false, false⟩, 0⟩ ∧ t.cutList = [] ∧ t.binder = ⟨.closed, none, 0⟩
      ∧ (∀ i, t.slot i = none) ∧ (∀ id, id.inRange = true → t.sec id = ⟨some ⟨.warmReset, none, none⟩, []⟩)
      ∧ t.mgmt = ⟨none, s.mgmt.fence, none, none⟩
      ∧ (∀ p, 1 ≤ p → p ≤ 63 → (t.pt p).state = .unknown ∧ (t.pt p).detected = none ∧ (t.pt p).drive = .idle
          ∧ (t.pt p).held = false ∧ (t.pt p).learned = (s.pt p).learned ∧ (t.pt p).retries = 0
          ∧ (t.pt p).command = .none ∧ (t.pt p).lastFault = none ∧ (t.pt p).supervision = none
          ∧ (t.pt p).retryTimer = none ∧ (t.pt p).deglitchTimer = none ∧ t.claimList p = [])
      ∧ t.link.commands = [] ∧ t.link.unmapped = s.link.unmapped ∧ t.link.unknownPoint = s.link.unknownPoint
      ∧ t.link.forwardingLoss = s.link.forwardingLoss ∧ t.signal.demand = .stop
      ∧ PortKept (s.port q.port) (t.port q.port) 1 ∧ PortKept (s.port (other q.port)) (t.port (other q.port)) 0
      ∧ (t.port (other q.port)).waiting = (s.port (other q.port)).waiting
      ∧ (if s.tables.params.signalStation = 0 then t.signal.refresh = none ∧ t.link.signalSlot = none
          else t.signal.refresh = some (after s.clock s.tables.params.refresh)
            ∧ (t.link.signalSlot = some ⟨.stop, s.tables.params.signalStation⟩
              ∨ (t.link.signalSlot = none ∧ ∃ x, (t.port .t).sending = some x ∧ x.body = .signal .stop
                  ∧ x.dest = s.tables.params.signalStation)))
      ∧ (∃ r : Report, r = ⟨s.tables.params.level .engineState, s.clock, .engineState .config .empty .warmReset⟩
          ∧ (if s.station = none ∨ s.tables.params.level .engineState = .off then t.reports = ⟨[], 0⟩
            else t.reports = ⟨[r], 0⟩
              ∨ (t.reports = ⟨[], 0⟩ ∧ ∃ x, (t.port .y).sending = some x ∧ x.dest = 255 ∧ x.body = .report r 0))))
    ∧ (inFence s.mgmt.fence m.src.toNat = false →
        ∃ t, exec (.warmReset q) s = .next t ∧ AnsweredOnly s t q m .warmReset .fenced)

/-! ### Who may send what -/

/-- A controller-only request from a station that does not hold the claim is refused with NOT_CONTROLLER before any
other check, and changes nothing. A request whose code names none is answered BAD_ARGUMENT whoever sends it; one
of a known code whose payload does not fit, BAD_ARGUMENT, after the claim check (R162, R163). That a WARM_RESET, or a
TABLE_WRITE of an unknown table or form, whose payload does not fit is such a request is the model's reading (log entry
18, unsafe). -/
def Obligations.RequestsAreRefusedByTheirGroup : Prop :=
  (∀ (c : Instr) (q : Req) (code : RequestCode) (m : Telegram) (s : State), c.controllerRequest = some (q, code) →
      s.mayAnswer q m → s.mgmt.holder ≠ some m.src.toNat →
      ∃ t, exec c s = .next t ∧ AnsweredOnly s t q m code .notController)
    ∧ (∀ (q : Req) (code : RequestCode) (m : Telegram) (s : State), s.mayAnswer q m →
      ∃ t, exec (.unknownRequest q code) s = .next t
        ∧ AnsweredOnly s t q m code
            (if code.controllerOnly = true ∧ s.mgmt.holder ≠ some m.src.toNat then .notController else .badArgument))

/-- The fence set changes by FENCE_WRITE from the holder and by a device reset alone; the holder of the claim changes
by CLAIM_CONTROL while there is none, by RELEASE_CONTROL from the holder, by supervision expiry and by either
reset alone (R146, R164, R170). -/
def Obligations.ClaimAndFenceChangeOnlyByTheirEvents : Prop :=
  ∀ (c : Instr) (s t : State), exec c s = .next t →
    (t.mgmt.fence ≠ s.mgmt.fence →
      (∃ q f m, c = .fenceWrite q f ∧ s.fromHolder q m) ∨ ∃ straps, c = .deviceReset straps)
    ∧ (t.mgmt.holder ≠ s.mgmt.holder →
      (∃ q m, c = .claimControl q ∧ s.mayAnswer q m ∧ s.mgmt.holder = none ∧ t.mgmt.holder = some m.src.toNat)
        ∨ (t.mgmt.holder = none
          ∧ ((∃ q m, c = .releaseControl q ∧ s.fromHolder q m)
            ∨ (c = .controllerSupervisionExpiry ∧ ∃ x, s.mgmt.supervision = some x ∧ reached s.clock x.expiry = true)
            ∨ (∃ q m, c = .warmReset q ∧ s.mayAnswer q m ∧ inFence s.mgmt.fence m.src.toNat = true)
            ∨ ∃ straps, c = .deviceReset straps)))

/-! ### The reads -/

/-- STATUS_READ answers any station with the content of R167 and changes nothing. That the points UNKNOWN are counted over all 63
runtime records, present or not, is the model's choice (log entry 25). -/
def Obligations.StatusReadAnswers : Prop :=
  ∀ (q : Req) (m : Telegram) (s : State), s.mayAnswer q m →
    (∃ t, exec (.statusRead q 0) s = .next t ∧ AnsweredOnly s t q m .statusRead (.done (.part 0 2
      (.status0 s.clock s.engine.state s.engine.causes s.mgmt.holder (s.mgmt.supervision.map Supervision.expiry)
        s.mgmt.phase s.mgmt.fence s.signal.demand))))
    ∧ (∃ t, exec (.statusRead q 1) s = .next t ∧ AnsweredOnly s t q m .statusRead (.done (.part 1 2
      (.status1 s.cutList.length s.slotsInUse s.binder.state s.engine.failed s.countUnknown s.countDisturbed
        s.reports.queue.length s.reports.discards))))
    ∧ ∀ part, 2 ≤ part → ∃ t, exec (.statusRead q part) s = .next t ∧ AnsweredOnly s t q m .statusRead .badArgument

/-- TABLE_READ answers any station with the entry as it stands, a point record in two parts, a yard parameter by its item
(item 14 by a report kind), and refuses an address out of range (R5, R21, R169). -/
def Obligations.TableReadAnswers : Prop :=
  (∀ (x : Params) (kind : Option ReportKind), x.read 1 kind = some (.number x.leadDetector)
      ∧ x.read 2 kind = some (.number x.rejectTrack) ∧ x.read 3 kind = some (.number x.signalStation)
      ∧ x.read 4 kind = some (.number x.supervisionPeriod) ∧ x.read 5 kind = some (.number x.separation)
      ∧ x.read 6 kind = some (.number x.entrySpeed) ∧ x.read 7 kind = some (.weights x.w1 x.w2 x.w3 x.w4)
      ∧ x.read 8 kind = some (.number x.margin) ∧ x.read 9 kind = some (.number x.allowance)
      ∧ x.read 10 kind = some (.number x.stallAllowance) ∧ x.read 11 kind = some (.thresholds x.slow x.stop)
      ∧ x.read 12 kind = some (.number x.refresh) ∧ x.read 13 kind = some (.forwarding (some x.forwardAll))
      ∧ x.read 14 kind = kind.map (fun k => .level (some k) (some (x.level k)))
      ∧ ∀ item, item = 0 ∨ 14 < item → x.read item kind = none)
    ∧ ∀ (q : Req) (m : Telegram) (s : State), s.mayAnswer q m →
    (∀ p, 1 ≤ p → p ≤ 63 →
      (∃ t, exec (.tableRead q (.point p) 0) s = .next t ∧ AnsweredOnly s t q m .tableRead (.done (.part 0 2 (.point0
        ((s.pointRecord p).map fun r => ⟨r.upstream, r.left, r.right, r.guardIn, r.leftOut, r.rightOut, r.guardLength,
          r.linkLength, r.machine⟩)))))
      ∧ ∃ t, exec (.tableRead q (.point p) 1) s = .next t ∧ AnsweredOnly s t q m .tableRead (.done (.part 1 2 (.point1
        ((s.pointRecord p).map fun r => ⟨r.nominal, r.tMin, r.tMax, r.deglitch, r.response, r.retryLimit,
          r.retryDelay⟩)))))
    ∧ (∀ k, 1 ≤ k → k ≤ 64 → ∃ t, exec (.tableRead q (.track k) 0) s = .next t ∧ AnsweredOnly s t q m .tableRead
        (.done (.part 0 1 (.track ((s.trackRecord k).map fun r => (r, s.reserved k))))))
    ∧ (∀ item kind v, s.tables.params.read item kind = some v → ∃ t, exec (.tableRead q (.parameter item kind) 0) s = .next t
        ∧ AnsweredOnly s t q m .tableRead (.done (.part 0 1 (.parameter v))))
    ∧ (∀ code n, code ≤ 1023 → 1 ≤ n → n ≤ 16 → code + n ≤ 1024 → ∃ t, exec (.tableRead q (.route code n) 0) s = .next t
        ∧ AnsweredOnly s t q m .tableRead
            (.done (.part 0 1 (.routes ((List.range n).map fun j => s.routeEntry (code + j))))))
    ∧ (∀ k, 1 ≤ k → k ≤ 8 → ∃ t, exec (.tableRead q (.patch k) 0) s = .next t ∧ AnsweredOnly s t q m .tableRead
        (.done (.part 0 1 (.patch (readAt s.tables.patches ⟨false, 0, 0, 0⟩ k)))))
    ∧ (∀ entry part, ((∀ p, entry = .point p → p = 0 ∨ 63 < p ∨ 2 ≤ part) ∧ (∀ k, entry = .track k → k = 0 ∨ 64 < k ∨ 1 ≤ part)
          ∧ (∀ item kind, entry = .parameter item kind → s.tables.params.read item kind = none ∨ 1 ≤ part)
          ∧ (∀ code n, entry = .route code n → 1023 < code ∨ n = 0 ∨ 16 < n ∨ 1024 < code + n ∨ 1 ≤ part)
          ∧ (∀ k, entry = .patch k → k = 0 ∨ 8 < k ∨ 1 ≤ part)) →
        ∃ t, exec (.tableRead q entry part) s = .next t ∧ AnsweredOnly s t q m .tableRead .badArgument)

/-- CUT_LIST_READ answers any station with the number of records and up to 4 records with their positions (R24, R166); that four
records always fit one response is the model's reading of R166. SECTION_READ answers any station with a section's state,
disturbance record, axle total and runs (R60, R166). SLOT_READ answers any station with a slot's fields by part, part 2 with its
claims and its axles in order, with FREE alone for a slot not in use, and refuses a slot, part or starting entry out of range
(R100, R166). How many entries part 2 holds is open (log entry 7); that no part holds the bound record or NO_ALTERNATE is the
model's reading (log entry 24), and so is it that part 0 alone holds the crest ordinal (log entry 31) and that its state names the
clearing track, which part 1 returns too (log entry 34). -/
def Obligations.CutListSectionAndSlotReadsAnswer : Prop :=
  ((∀ (q : Req) (m : Telegram) (s : State) (first : Nat), s.mayAnswer q m →
      ∃ t, exec (.cutListRead q first) s = .next t ∧ AnsweredOnly s t q m .cutListRead
        (if 1 ≤ first ∧ first ≤ 32 then
          .done (.cutList s.cutList.length ((((ids s.cutList.length).zip s.cutList).drop (first - 1)).take 4))
        else .badArgument))
    ∧ (∀ (q : Req) (m : Telegram) (s : State), s.mayAnswer q m →
      (∀ id, id.inRange = true →
        (∃ t, exec (.sectionRead q (some id) 0) s = .next t ∧ AnsweredOnly s t q m .sectionRead (.done (.part 0 2
          (.section0 (s.sec id).disturbance ((s.sec id).runs.map Run.count).sum (s.sec id).runs.length))))
        ∧ (∃ t, exec (.sectionRead q (some id) 1) s = .next t ∧ AnsweredOnly s t q m .sectionRead (.done (.part 1 2
          (.section1 ((s.sec id).runs.map fun r => ⟨r.owner, r.count, r.owner.slot?.bind s.numberOf⟩)))))
        ∧ ∀ part, 2 ≤ part → ∃ t, exec (.sectionRead q (some id) part) s = .next t
          ∧ AnsweredOnly s t q m .sectionRead .badArgument)
      ∧ ∀ id part, (∀ x, id = some x → x.inRange = false) →
          ∃ t, exec (.sectionRead q id part) s = .next t ∧ AnsweredOnly s t q m .sectionRead .badArgument))
    ∧ ∀ (q : Req) (m : Telegram) (s : State) (i part first : Nat), s.mayAnswer q m →
    ∃ t a, exec (.slotRead q i part first) s = .next t ∧ AnsweredOnly s t q m .slotRead a
      ∧ (i = 0 ∨ 16 < i ∨ 2 < part ∨ (part = 2 ∧ first = 0) → a = .badArgument)
      ∧ (1 ≤ i → i ≤ 16 → part ≤ 2 → (part = 2 → 1 ≤ first) →
          (s.slot i = none → a = .done (.part part 3 .slotFree))
          ∧ ∀ x, s.slot i = some x →
            (part = 0 → a = .done (.part 0 3 (.slot0 x.phase x.number x.ordinal x.expected x.counted x.cleared x.target
              x.unresolved x.reservation x.flags)))
            ∧ (part = 1 → a = .done (.part 1 3 (.slot1 x.path x.clearingTrack x.head x.headTime x.samples x.estimate
              x.stall)))
            ∧ (part = 2 → ∃ l, SlotListed s i l ∧ a = .done (.part 2 3 (.slot2 l.length
              ((l.drop (first - 1)).take (Config.slotEntriesHeld l.length))))))

/-- POINT_READ answers any station with a point's runtime record, timers, claimants and claim list by part (R130, R166). How many
entries part 2 holds is open (log entry 7); that the throw reason is shown with the command is the model's choice (log entry
28), and so is it that part 0 alone holds the throw start time (log entry 31). LINK_READ answers any station; part 0 then empties both first-error records, part 1 leaves them (R150, R161, R166). Whether a
frame is arriving on a port, and holds one buffer more, is open (`a`, `b`; log entry 8), and how many entries part 1 holds (log
entry 7). -/
def Obligations.PointAndLinkReadsAnswer : Prop :=
  (∀ (q : Req) (m : Telegram) (s : State) (p part first : Nat), s.mayAnswer q m →
    ∃ t a, exec (.pointRead q p part first) s = .next t ∧ AnsweredOnly s t q m .pointRead a
      ∧ (p = 0 ∨ 63 < p ∨ 2 < part ∨ (part = 2 ∧ first = 0) → a = .badArgument)
      ∧ (1 ≤ p → p ≤ 63 →
          (part = 0 → a = .done (.part 0 3 (.runtime0 (s.pointRecord p).isSome (s.pt p).state (s.pt p).detected (s.pt p).drive
            (s.pt p).held (s.pt p).learned (s.pt p).retries (s.pt p).command (s.pt p).throwStart (s.pt p).lastFault)))
          ∧ (part = 1 → a = .done (.part 1 3 (.runtime1 (s.pt p).supervision (s.pt p).retryTimer (s.pt p).deglitchTimer
            (s.guardClear p) ((s.claimList p).head?.map Claim.slot)
            (((s.claimList p).find? fun c => c.want.isSome).map Claim.slot) (s.latestThrow p))))
          ∧ (part = 2 → 1 ≤ first → a = .done (.part 2 3 (.runtime2 (s.claimList p).length
            ((((s.claimList p).map fun c => ClaimReading.mk c.slot (s.numberOf c.slot) c.want).drop (first - 1)).take
              (Config.pointEntriesHeld (s.claimList p).length)))))))
    ∧ ∀ (q : Req) (m : Telegram) (s : State), s.mayAnswer q m →
    (∀ first, ∃ t, ∃ a b : Bool, exec (.linkRead q 0 first) s = .next t
      ∧ Answered s t q m .linkRead (.done (.part 0 2 (.link0 s.station
          ⟨s.link.y.credits, s.link.y.owed,
            s.link.y.waiting.length + (if a = true ∧ s.link.y.waiting.length < 8 then 1 else 0), s.link.y.passQueue.length,
            s.link.y.fairness, s.link.y.errors, s.link.y.firstError⟩
          ⟨s.link.t.credits, s.link.t.owed,
            s.link.t.waiting.length + (if b = true ∧ s.link.t.waiting.length < 8 then 1 else 0), s.link.t.passQueue.length,
            s.link.t.fairness, s.link.t.errors, s.link.t.firstError⟩)))
      ∧ OnlySends { s with moments := t.moments } t
      ∧ t.link.y.firstError = none ∧ t.link.t.firstError = none)
    ∧ (∀ first, 1 ≤ first → ∃ t, exec (.linkRead q 1 first) s = .next t
      ∧ AnsweredOnly s t q m .linkRead (.done (.part 1 2 (.link1 s.link.commands.length
          (((s.link.commands.map Throw.point).drop (first - 1)).take (Config.linkEntriesHeld s.link.commands.length))
          (s.link.signalSlot.map SignalTelegram.aspect) (s.link.responses.countP fun r => decide (r.port = .y))
          (s.link.responses.countP fun r => decide (r.port = .t)) s.link.unmapped s.link.unknownPoint
          s.link.forwardingLoss)))
      ∧ t.link.y.firstError = s.link.y.firstError ∧ t.link.t.firstError = s.link.t.firstError)
    ∧ ∀ part first, 2 ≤ part ∨ (part = 1 ∧ first = 0) → ∃ t, exec (.linkRead q part first) s = .next t
      ∧ AnsweredOnly s t q m .linkRead .badArgument

/-! ### Table writes -/

/-- TABLE_WRITE POINT, whole and remove form: the holder writes in CONFIG a record that passes the checks of R2, or
removes one; the runtime record is set anew with its mode kept; a record already absent stays so; a write is
refused outside CONFIG and for an index or fields out of range, in the order of R168 (R1, R2, R8, R102). -/
def Obligations.PointRecordWrites : Prop :=
  (∀ (p : Nat) (x : PointFields) (rec : PointRecord), pointRecordOf p x = some rec ↔
      (x.upstream = some rec.upstream ∧ x.left = some rec.left ∧ x.right = some rec.right ∧ x.response = some rec.response
        ∧ rec = ⟨rec.upstream, rec.left, rec.right, x.guardIn, x.leftOut, x.rightOut, x.guardLength, x.linkLength, x.machine,
            x.nominal, x.tMin, x.tMax, x.deglitch, rec.response, x.retryLimit, x.retryDelay⟩
        ∧ (∀ q leg, rec.upstream = .parent q leg → 1 ≤ q ∧ q ≤ 63 ∧ q ≠ p)
        ∧ (∀ leg q, rec.branch leg = .point q → 1 ≤ q ∧ q ≤ 63 ∧ q ≠ p) ∧ (∀ leg k, rec.branch leg = .track k → 1 ≤ k ∧ k ≤ 64)
        ∧ rec.left ≠ rec.right ∧ (∀ d ∈ [x.guardIn, x.leftOut, x.rightOut], 1 ≤ d ∧ d ≤ 254)
        ∧ [x.guardIn, x.leftOut, x.rightOut].Nodup ∧ 300 ≤ x.guardLength ∧ x.guardLength ≤ 6000 ∧ 100 ≤ x.linkLength
        ∧ x.linkLength ≤ 65535 ∧ 1 ≤ x.machine ∧ x.machine ≤ 254 ∧ 200 ≤ x.nominal ∧ x.nominal ≤ 3000 ∧ 100 ≤ x.tMin
        ∧ x.tMin ≤ x.nominal ∧ x.nominal ≤ x.tMax ∧ x.tMax ≤ 4000 ∧ x.deglitch ≤ 700 ∧ x.deglitch % 100 = 0
        ∧ x.retryLimit ≤ 3 ∧ 100 ≤ x.retryDelay ∧ x.retryDelay ≤ 2000))
    ∧ ∀ (q : Req) (m : Telegram) (s : State) (p : Nat) (x : PointFields), s.fromHolder q m →
    (1 ≤ p → p ≤ 63 → s.engine.state = .config →
      (∀ rec, pointRecordOf p x = some rec → ∃ t, exec (.tableWritePoint q p x) s = .next t
        ∧ Answered s t q m .tableWrite (.done .plain)
        ∧ t.tables = { s.tables with points := writeAt s.tables.points p (some rec) }
        ∧ Rewritten s t p (some rec.nominal) ∧ t.engine.state = .config ∧ t.engine.failed = t.countFailed
        ∧ Reported s t (causesReport s t (if t.engine.failed = 0 then .causeCleared .pointFailed else .causeSet .pointFailed))
        ∧ (∀ k, k ≠ p → t.pt k = s.pt k
            ∨ t.pt k = (s.pt k).started s.clock ((s.pt k).throwTime k) s.tables.params.allowance)
        ∧ SameYard s t)
      ∧ (pointRecordOf p x = none → ∃ t, exec (.tableWritePoint q p x) s = .next t
        ∧ AnsweredOnly s t q m .tableWrite .badArgument)
      ∧ (s.pointRecord p ≠ none → ∃ t, exec (.tableWritePointRemove q p) s = .next t
        ∧ Answered s t q m .tableWrite (.done .plain)
        ∧ t.tables = { s.tables with points := writeAt s.tables.points p none }
        ∧ Rewritten s t p none ∧ t.engine.state = .config ∧ t.engine.failed = t.countFailed
        ∧ Reported s t (causesReport s t (if t.engine.failed = 0 then .causeCleared .pointFailed else .causeSet .pointFailed))
        ∧ (∀ k, k ≠ p → t.pt k = s.pt k
            ∨ t.pt k = (s.pt k).started s.clock ((s.pt k).throwTime k) s.tables.params.allowance)
        ∧ SameYard s t)
      ∧ (s.pointRecord p = none → ∃ t, exec (.tableWritePointRemove q p) s = .next t
        ∧ AnsweredOnly s t q m .tableWrite (.done .plain)))
    ∧ (1 ≤ p → p ≤ 63 → s.engine.state ≠ .config →
      (∃ t, exec (.tableWritePoint q p x) s = .next t ∧ AnsweredOnly s t q m .tableWrite (.wrongState none))
      ∧ ∃ t, exec (.tableWritePointRemove q p) s = .next t ∧ AnsweredOnly s t q m .tableWrite (.wrongState none))
    ∧ (p = 0 ∨ 63 < p →
      (∃ t, exec (.tableWritePoint q p x) s = .next t ∧ AnsweredOnly s t q m .tableWrite .badArgument)
      ∧ ∃ t, exec (.tableWritePointRemove q p) s = .next t ∧ AnsweredOnly s t q m .tableWrite .badArgument)

/-- TABLE_WRITE TRACK: the holder writes or removes a whole record in CONFIG, and its register part in every engine
state; nothing else changes; an index out of range, a form outside CONFIG, fields that fail R3 and the register form of an
absent record are refused, in the order of R168 (R1, R3, R8, R168). -/
def Obligations.TrackRecordWrites : Prop :=
  (∀ (k : Nat) (x : RegisterFields) (status : TrackStatus), registerOf k x = some status ↔
      (x.status = some status ∧ x.room ≤ 4095 ∧ x.alternates.length ≤ 3 ∧ x.alternates.Nodup ∧ k ∉ x.alternates
        ∧ ∀ a ∈ x.alternates, 1 ≤ a ∧ a ≤ 64))
    ∧ (∀ (k : Nat) (x : TrackFields) (rec : TrackRecord), trackRecordOf k x = some rec ↔
      (registerOf k x.register = some rec.status ∧ x.leg = some rec.leg ∧ 1 ≤ x.parent ∧ x.parent ≤ 63 ∧ 1 ≤ x.clearance
        ∧ x.clearance ≤ 254 ∧ 100 ≤ x.linkLength ∧ x.linkLength ≤ 65535
        ∧ rec = ⟨x.parent, rec.leg, x.clearance, x.linkLength, rec.status, x.register.room, x.register.alternates⟩))
    ∧ ∀ (q : Req) (m : Telegram) (s : State), s.fromHolder q m →
    (∀ k, 1 ≤ k → k ≤ 64 →
      (∀ x rec, s.engine.state = .config → trackRecordOf k x = some rec → ∃ t, exec (.tableWriteTrack q k x) s = .next t
        ∧ Answered s t q m .tableWrite (.done .plain)
        ∧ OnlySends { s with tables := { s.tables with tracks := writeAt s.tables.tracks k (some rec) } } t)
      ∧ (∀ x status rec, registerOf k x = some status → s.trackRecord k = some rec →
        ∃ t, exec (.tableWriteTrackRegister q k x) s = .next t ∧ Answered s t q m .tableWrite (.done .plain)
        ∧ ∃ new : TrackRecord, new = { rec with status := status, room := x.room, alternates := x.alternates }
          ∧ OnlySends { s with tables := { s.tables with tracks := writeAt s.tables.tracks k (some new) } } t)
      ∧ (s.engine.state = .config → ∃ t, exec (.tableWriteTrackRemove q k) s = .next t
        ∧ Answered s t q m .tableWrite (.done .plain)
        ∧ OnlySends { s with tables := { s.tables with tracks := writeAt s.tables.tracks k none } } t)
      ∧ (∀ x, s.engine.state ≠ .config →
        (∃ t, exec (.tableWriteTrack q k x) s = .next t ∧ AnsweredOnly s t q m .tableWrite (.wrongState none))
        ∧ ∃ t, exec (.tableWriteTrackRemove q k) s = .next t ∧ AnsweredOnly s t q m .tableWrite (.wrongState none))
      ∧ (∀ x, s.engine.state = .config → trackRecordOf k x = none → ∃ t, exec (.tableWriteTrack q k x) s = .next t
        ∧ AnsweredOnly s t q m .tableWrite .badArgument)
      ∧ (∀ x, registerOf k x = none → ∃ t, exec (.tableWriteTrackRegister q k x) s = .next t
        ∧ AnsweredOnly s t q m .tableWrite .badArgument)
      ∧ (∀ x status, registerOf k x = some status → s.trackRecord k = none →
        ∃ t, exec (.tableWriteTrackRegister q k x) s = .next t ∧ AnsweredOnly s t q m .tableWrite .notFound))
    ∧ (∀ k x y, k = 0 ∨ 64 < k →
      (∃ t, exec (.tableWriteTrack q k x) s = .next t ∧ AnsweredOnly s t q m .tableWrite .badArgument)
      ∧ (∃ t, exec (.tableWriteTrackRegister q k y) s = .next t ∧ AnsweredOnly s t q m .tableWrite .badArgument)
      ∧ ∃ t, exec (.tableWriteTrackRemove q k) s = .next t ∧ AnsweredOnly s t q m .tableWrite .badArgument)

/-- TABLE_WRITE PARAMETER: an item that passes its check is written, items 1 to 4 in CONFIG alone; item 3 also writes the
demand and item 11 has it computed anew. The items, their values and their ranges are those of the table of R5; a value of
another item's form is refused (R5, R8, R140, R142, R168). -/
def Obligations.ParameterWrites : Prop :=
  (∀ (x : Params) (n : Nat),
      x.write 1 (.number n) = (if 1 ≤ n ∧ n ≤ 254 then some { x with leadDetector := n } else none)
      ∧ x.write 2 (.number n) = (if 1 ≤ n ∧ n ≤ 64 then some { x with rejectTrack := n } else none)
      ∧ x.write 3 (.number n) = (if 1 ≤ n ∧ n ≤ 254 then some { x with signalStation := n } else none)
      ∧ x.write 4 (.number n) = (if 500 ≤ n ∧ n ≤ 10000 then some { x with supervisionPeriod := n } else none)
      ∧ x.write 5 (.number n) = (if 200 ≤ n ∧ n ≤ 10000 then some { x with separation := n } else none)
      ∧ x.write 6 (.number n) = (if 50 ≤ n ∧ n ≤ 600 then some { x with entrySpeed := n } else none)
      ∧ x.write 8 (.number n) = (if n ≤ 2000 then some { x with margin := n } else none)
      ∧ x.write 9 (.number n) = (if 100 ≤ n ∧ n ≤ 2000 then some { x with allowance := n } else none)
      ∧ x.write 10 (.number n) = (if 1000 ≤ n ∧ n ≤ 60000 then some { x with stallAllowance := n } else none)
      ∧ x.write 12 (.number n) = (if 200 ≤ n ∧ n ≤ 2000 then some { x with refresh := n } else none)
      ∧ ∀ item ∈ [7, 11, 13, 14], x.write item (.number n) = none)
    ∧ (∀ (x : Params) (item a b c d : Nat), x.write item (.weights a b c d)
        = (if item = 7 ∧ (1 ≤ a ∧ a ≤ 255) ∧ b ≤ 255 ∧ c ≤ 255 ∧ d ≤ 255 then some { x with w1 := a, w2 := b, w3 := c, w4 := d }
          else none)
      ∧ x.write item (.thresholds a b)
        = (if item = 11 ∧ 1 ≤ a ∧ a ≤ b ∧ b ≤ 16 then some { x with slow := a, stop := b } else none))
    ∧ (∀ (x : Params) (item : Nat) (all : Option Bool) (kind : Option ReportKind) (level : Option Level),
      x.write item (.forwarding all) = (if item = 13 then all.map fun v => { x with forwardAll := v } else none)
      ∧ (item ≠ 14 ∨ kind = none ∨ level = none → x.write item (.level kind level) = none)
      ∧ ∀ k l, kind = some k → level = some l → ∃ y, x.write 14 (.level kind level) = some y ∧ y.level k = l
          ∧ (∀ j, j ≠ k → y.level j = x.level j) ∧ y = { x with levels := y.levels })
    ∧ ∀ (q : Req) (m : Telegram) (s : State) (item : Nat) (v : ParameterValue), s.fromHolder q m →
    (1 ≤ item → item ≤ 14 → (item ≤ 4 → s.engine.state = .config) →
      (∀ x, s.tables.params.write item v = some x → ∃ t, exec (.tableWriteParameter q item v) s = .next t
        ∧ Answered s t q m .tableWrite (.done .plain) ∧ t.tables = { s.tables with params := x }
        ∧ t.engine = s.engine ∧ SameYard s t ∧ ThrowsStart { s with tables := t.tables } t
        ∧ (item ≠ 3 → item ≠ 11 → OnlySends { s with tables := t.tables } t)
        ∧ (item = 3 → t.signal = ⟨s.signal.demand, some (after s.clock x.refresh)⟩
            ∧ (t.link.signalSlot = some ⟨s.signal.demand, x.signalStation⟩
              ∨ (t.link.signalSlot = none ∧ ∃ y, (t.port .t).sending = some y ∧ y.dest = x.signalStation
                  ∧ y.body = .signal s.signal.demand)))
        ∧ (item = 11 → t.signal.demand = demandOf s.engine.state s.cutList.length s.slotsInUse x.slow x.stop))
      ∧ (s.tables.params.write item v = none → ∃ t, exec (.tableWriteParameter q item v) s = .next t
        ∧ AnsweredOnly s t q m .tableWrite .badArgument))
    ∧ (1 ≤ item → item ≤ 4 → s.engine.state ≠ .config → ∃ t, exec (.tableWriteParameter q item v) s = .next t
        ∧ AnsweredOnly s t q m .tableWrite (.wrongState none))
    ∧ (item = 0 ∨ 14 < item → ∃ t, exec (.tableWriteParameter q item v) s = .next t
        ∧ AnsweredOnly s t q m .tableWrite .badArgument)

/-- TABLE_WRITE ROUTE and PATCH: an entry in range that names a track it may name now is written, and nothing else
changes; any other is refused (R6, R7, R8, R168). -/
def Obligations.RouteAndPatchWrites : Prop :=
  ∀ (q : Req) (m : Telegram) (s : State), s.fromHolder q m →
    (∀ code value, if code ≤ 1023 ∧ value ≤ 64 ∧ (value = 0 ∨ s.engine.state = .config ∨ s.trackRecord value ≠ none) then
        ∃ t, exec (.tableWriteRoute q code value) s = .next t ∧ Answered s t q m .tableWrite (.done .plain)
          ∧ t.routeEntry code = value ∧ (∀ k, k ≠ code → t.routeEntry k = s.routeEntry k)
          ∧ OnlySends { s with tables := { s.tables with routes := t.tables.routes } } t
      else ∃ t, exec (.tableWriteRoute q code value) s = .next t ∧ AnsweredOnly s t q m .tableWrite .badArgument)
    ∧ (∀ k x, if (1 ≤ k ∧ k ≤ 8) ∧ x.destination ≤ 1023 ∧ (1 ≤ x.track ∧ x.track ≤ 64) ∧ x.uses ≤ 255
          ∧ (x.enabled = false ∨ s.engine.state = .config ∨ s.trackRecord x.track ≠ none) then
        ∃ t, exec (.tableWritePatch q k x) s = .next t ∧ Answered s t q m .tableWrite (.done .plain)
          ∧ ∃ patches, patches = writeAt s.tables.patches k ⟨x.enabled, x.destination, x.track, x.uses⟩
            ∧ OnlySends { s with tables := { s.tables with patches := patches } } t
      else ∃ t, exec (.tableWritePatch q k x) s = .next t ∧ AnsweredOnly s t q m .tableWrite .badArgument)

/-! ### The cut list -/

/-- CUT_APPEND puts a valid record with a number not held at the tail, and CUT_INSERT_BEFORE puts one directly before its
reference, while the list has room; otherwise they are refused in the order of their checks (R23 to R26). That a reference above
65,535 is not found, and no argument out of range, is the model's choice (log entry 30). -/
def Obligations.CutAppendAndInsert : Prop :=
  (∀ (n : Nat) (x : CutFields) (r : CutRecord), cutRecordOf n x = some r ↔
      (n ≤ 65535 ∧ 1 ≤ x.expected ∧ x.expected ≤ 96 ∧ r = ⟨n, r.route, x.expected, x.noAlternate⟩
        ∧ ((∃ code, x.destination = some code ∧ x.track = none ∧ code ≤ 1023 ∧ r.route = .destination code)
          ∨ ∃ k, x.destination = none ∧ x.track = some k ∧ 1 ≤ k ∧ k ≤ 64 ∧ r.route = .track k)))
    ∧ ∀ (q : Req) (m : Telegram) (s : State) (n : Nat) (x : CutFields), s.fromHolder q m →
    (∀ r, cutRecordOf n x = some r → s.numberHeld n = false → s.cutList.length < 32 →
      (∃ t, exec (.cutAppend q n x) s = .next t ∧ Answered s t q m .cutAppend (.done .plain)
        ∧ t.cutList = s.cutList ++ [r] ∧ ListChanged s t)
      ∧ (∀ reference a b y, s.cutList = a ++ y :: b → y.number = reference → (∀ z ∈ a, z.number ≠ reference) →
          ∃ t, exec (.cutInsertBefore q reference n x) s = .next t ∧ Answered s t q m .cutInsertBefore (.done .plain)
            ∧ t.cutList = a ++ r :: y :: b ∧ ListChanged s t)
      ∧ (∀ reference, (∀ z ∈ s.cutList, z.number ≠ reference) → ∃ t, exec (.cutInsertBefore q reference n x) s = .next t
          ∧ AnsweredOnly s t q m .cutInsertBefore
              (if s.slotWithNumber reference = true then .wrongState none else .notFound)))
    ∧ (∀ reference a, (cutRecordOf n x = none ∧ a = .badArgument)
          ∨ (cutRecordOf n x ≠ none ∧ s.numberHeld n = true ∧ a = .duplicate)
          ∨ (cutRecordOf n x ≠ none ∧ s.numberHeld n = false ∧ 32 ≤ s.cutList.length ∧ a = .full) →
        (∃ t, exec (.cutAppend q n x) s = .next t ∧ AnsweredOnly s t q m .cutAppend a)
        ∧ ∃ t, exec (.cutInsertBefore q reference n x) s = .next t ∧ AnsweredOnly s t q m .cutInsertBefore a)

/-- CUT_WITHDRAW removes the record with the number named; CUT_AMEND replaces its other fields in its place; CUT_LIST_CLEAR
empties the list; a number of a slot in use is refused with WRONG_STATE, an unknown one with NOT_FOUND
(R27, R28, R29). That a number above 65,535 is not found by CUT_WITHDRAW, and fails the checks of CUT_AMEND, is the model's choice
(log entry 30). -/
def Obligations.CutWithdrawAmendAndClear : Prop :=
  (∀ (q : Req) (m : Telegram) (s : State) (n : Nat), s.fromHolder q m →
      (s.listed n = true → ∃ t, exec (.cutWithdraw q n) s = .next t ∧ Answered s t q m .cutWithdraw (.done .plain)
        ∧ t.cutList = s.cutList.filter (fun r => decide (r.number ≠ n)) ∧ ListChanged s t)
      ∧ (s.listed n = false → ∃ t, exec (.cutWithdraw q n) s = .next t
        ∧ AnsweredOnly s t q m .cutWithdraw (if s.slotWithNumber n = true then .wrongState none else .notFound)))
    ∧ (∀ (q : Req) (m : Telegram) (s : State), s.fromHolder q m →
      (∀ n x r, cutRecordOf n x = some r → s.slotWithNumber n = false → s.listed n = true →
        ∃ t, exec (.cutAmend q n x) s = .next t ∧ Answered s t q m .cutAmend (.done .plain)
          ∧ t.cutList = s.cutList.map (fun y => if y.number = n then r else y) ∧ ListChanged s t)
      ∧ (∀ n x a, (cutRecordOf n x = none ∧ a = .badArgument)
            ∨ (cutRecordOf n x ≠ none ∧ s.slotWithNumber n = true ∧ a = .wrongState none)
            ∨ (cutRecordOf n x ≠ none ∧ s.slotWithNumber n = false ∧ s.listed n = false ∧ a = .notFound) →
          ∃ t, exec (.cutAmend q n x) s = .next t ∧ AnsweredOnly s t q m .cutAmend a)
      ∧ ∃ t, exec (.cutListClear q) s = .next t ∧ Answered s t q m .cutListClear (.done .plain) ∧ t.cutList = []
          ∧ ListChanged s t)

/-! ### Slots, sections and points by hand -/

/-- SLOT_DROP frees a LOST or STALLED slot: it stands in no claim list, no section holds a run of it, neighbouring runs of one owner
that its removal leaves are joined (a join above 127 disturbs the section), a section that held none is as it was, and a binder
open on it becomes OPEN_UNTRACKED; the points in whose lists it stood, and those whose guards are so cleared, re-evaluate, and
CUT_DROPPED is the last report; any other slot is refused (R31, R59, R98, R106). SECTION_RESTORE empties a DISTURBED section and makes it
NORMAL, a point at rest re-evaluating where its guard is so cleared; RESTORE_ALL does so for every DISTURBED section and answers how
many; the other sections, the slots and the claim lists are as they were, and neither is reported (R57, R58, R106). -/
def Obligations.SlotDropAndRestoresComplete : Prop :=
  (∀ (q : Req) (m : Telegram) (s : State) (i : Nat), s.fromHolder q m →
    (∀ x, 1 ≤ i → i ≤ 16 → s.slot i = some x → (x.flags.lost = true ∨ x.flags.stalled = true) →
      ∃ t, exec (.slotDrop q i) s = .next t ∧ Answered s t q m .slotDrop (.done .plain) ∧ t.slot i = none
        ∧ (∀ p, t.stands i p = false) ∧ (∀ id, (t.sec id).holds i = false)
        ∧ (∀ id, (s.sec id).holds i = false → t.sec id = s.sec id)
        ∧ (∀ id, (s.sec id).holds i = true → (s.sec id).bounded → RunsRemoved s t i id)
        ∧ t.binder = (if s.binder.state = .tracked i then { s.binder with state := .untracked } else s.binder)
        ∧ t.cutList = s.cutList ∧ t.tables = s.tables ∧ t.mgmt = s.mgmt ∧ t.clock = s.clock
        ∧ (∀ k, s.stands i k = true ∨ t.claimList k ≠ s.claimList k ∨ (s.guardClear k = false ∧ t.guardClear k = true) →
            StandsEvaluated t k)
        ∧ ∃ others, Reported s t (others ++ [.cutDropped (some i) x.number .slotDrop]))
    ∧ (1 ≤ i → i ≤ 16 → (∀ x, s.slot i = some x → x.flags.lost = false ∧ x.flags.stalled = false) →
        ∃ t, exec (.slotDrop q i) s = .next t ∧ AnsweredOnly s t q m .slotDrop (.wrongState none))
    ∧ (i = 0 ∨ 16 < i → ∃ t, exec (.slotDrop q i) s = .next t ∧ AnsweredOnly s t q m .slotDrop .badArgument))
    ∧ ∀ (q : Req) (m : Telegram) (s : State), s.fromHolder q m →
    (∀ id, id.inRange = true → (s.sec id).disturbance ≠ none → ∃ t, exec (.sectionRestore q (some id)) s = .next t
      ∧ Answered s t q m .sectionRestore (.done .plain) ∧ t.sec id = ⟨none, []⟩ ∧ (∀ k, k ≠ id → t.sec k = s.sec k)
      ∧ Restored s t
      ∧ (∀ p e, id = .guard p → (s.pt p).state = .rest e → ∃ w, w = s.setSec id ⟨none, []⟩ ∧ Reevaluated w t p e)
      ∧ Reported s t [])
    ∧ (∀ id, id.inRange = true → (s.sec id).disturbance = none → ∃ t, exec (.sectionRestore q (some id)) s = .next t
      ∧ AnsweredOnly s t q m .sectionRestore (.wrongState none))
    ∧ (∀ id, (∀ x, id = some x → x.inRange = false) → ∃ t, exec (.sectionRestore q id) s = .next t
      ∧ AnsweredOnly s t q m .sectionRestore .badArgument)
    ∧ ∃ t, exec (.restoreAll q) s = .next t ∧ Answered s t q m .restoreAll (.done (.restored s.countDisturbed))
        ∧ (∀ id, t.sec id = if (s.sec id).disturbance = none then s.sec id else ⟨none, []⟩) ∧ Restored s t
        ∧ (∀ p, (s.sec (.guard p)).disturbance ≠ none → StandsEvaluated t p) ∧ Reported s t []

/-- POINT_HOLD sets the mode HELD and withdraws an automatic THROW still queued; POINT_RELEASE sets it AUTO, and a point that was HELD
re-evaluates; at a point already in that mode either changes nothing. Both are refused with BAD_ARGUMENT for an id outside 1..63 and
with NOT_FOUND for an absent record (R106, R107, R109, R126, R127). POINT_SET queues a manual THROW of a HELD point at rest whose
guard is clear, does nothing when the point already lies at the end named, and is refused in the order of its checks (R128). -/
def Obligations.PointHoldReleaseAndSet : Prop :=
  (∀ (q : Req) (m : Telegram) (s : State) (p : Nat), s.fromHolder q m →
    (1 ≤ p → p ≤ 63 → s.pointRecord p ≠ none →
      (∃ t, exec (.pointHold q p) s = .next t ∧ Answered s t q m .pointHold (.done .plain) ∧ (t.pt p).held = true
        ∧ ((s.pt p).held = true → OnlySends s t)
        ∧ ((s.pt p).held = false → ∀ e, (s.pt p).state = .pending e → (s.pt p).command = .queued .automatic →
            t.pt p = { s.pt p with held := true, state := .rest e.other, command := .none }
              ∧ ∀ c ∈ t.link.commands, c.point ≠ p)
        ∧ ((s.pt p).held = false → (s.pt p).automaticPending = false →
            OnlySends (s.setPt p { s.pt p with held := true }) t)
        ∧ SameBlocks s t)
      ∧ (∃ t, exec (.pointRelease q p) s = .next t ∧ Answered s t q m .pointRelease (.done .plain)
        ∧ (t.pt p).held = false ∧ ((s.pt p).held = false → OnlySends s t) ∧ SameBlocks s t
        ∧ ((s.pt p).held = true → ∃ w, w = s.setPt p { s.pt p with held := false }
            ∧ (∀ e, (s.pt p).state = .rest e → Reevaluated w t p e)
            ∧ ((∀ e, (s.pt p).state ≠ .rest e) → (s.pt p).automaticPending = false → OnlySends w t))))
    ∧ (∀ a, ((p = 0 ∨ 63 < p) ∧ a = .badArgument) ∨ (1 ≤ p ∧ p ≤ 63 ∧ s.pointRecord p = none ∧ a = .notFound) →
      (∃ t, exec (.pointHold q p) s = .next t ∧ AnsweredOnly s t q m .pointHold a)
      ∧ ∃ t, exec (.pointRelease q p) s = .next t ∧ AnsweredOnly s t q m .pointRelease a))
    ∧ ∀ (q : Req) (m : Telegram) (s : State) (p : Nat) (leg : Option Leg), s.fromHolder q m →
    (∀ x e, leg = some x → 1 ≤ p → p ≤ 63 → s.pointRecord p ≠ none → (s.pt p).state = .rest e → (s.pt p).held = true →
      (s.pt p).deglitchTimer = none →
      (s.guardClear p = true → e ≠ x → ∃ t, exec (.pointSet q p leg) s = .next t
        ∧ Answered s t q m .pointSet (.done .plain) ∧ SameBlocks s t
        ∧ (((t.pt p).state = .pending x ∧ (t.pt p).command = .queued .manual
              ∧ ∃ c ∈ t.link.commands, c.point = p ∧ c.leg = x)
          ∨ ((t.pt p).state = .moving x ∧ (t.pt p).command = .sent .manual ∧ (t.pt p).throwStart = s.clock)))
      ∧ (s.guardClear p = true → e = x → ∃ t, exec (.pointSet q p leg) s = .next t
        ∧ AnsweredOnly s t q m .pointSet (.done .plain))
      ∧ (s.guardClear p = false → ∃ t, exec (.pointSet q p leg) s = .next t ∧ AnsweredOnly s t q m .pointSet .occupied))
    ∧ (leg ≠ none → 1 ≤ p → p ≤ 63 → s.pointRecord p ≠ none →
      ((s.pt p).held = false ∨ (s.pt p).deglitchTimer ≠ none ∨ ∀ e, (s.pt p).state ≠ .rest e) →
      ∃ t, exec (.pointSet q p leg) s = .next t ∧ AnsweredOnly s t q m .pointSet (.wrongState none))
    ∧ (leg ≠ none → 1 ≤ p → p ≤ 63 → s.pointRecord p = none →
      ∃ t, exec (.pointSet q p leg) s = .next t ∧ AnsweredOnly s t q m .pointSet .notFound)
    ∧ (leg = none ∨ p = 0 ∨ 63 < p →
      ∃ t, exec (.pointSet q p leg) s = .next t ∧ AnsweredOnly s t q m .pointSet .badArgument)

/-- POINT_CLEAR_FAULT takes a FAILED point to its detected end, or to UNKNOWN, with retries used 0 and the last fault kept;
engine control's count follows, with POINT_FAILED cleared and reported as it falls to 0, GUARD_VIOLATION stands as it stood; a point
cleared to an end re-evaluates and may be thrown at once. It is refused with BAD_ARGUMENT for an id outside 1..63, with NOT_FOUND for an absent record and with
WRONG_STATE for a point not FAILED (R106, R107, R124, R136). -/
def Obligations.PointClearFaultCompletes : Prop :=
  ∀ (q : Req) (m : Telegram) (s : State) (p : Nat), s.fromHolder q m →
    (1 ≤ p → p ≤ 63 → s.pointRecord p ≠ none → (s.pt p).state = .failed → ∃ t, exec (.pointClearFault q p) s = .next t
      ∧ Answered s t q m .pointClearFault (.done .plain) ∧ (t.pt p).retries = 0
      ∧ (t.pt p).lastFault = (s.pt p).lastFault ∧ (t.pt p).detected = (s.pt p).detected
      ∧ ((s.pt p).detected = none → (t.pt p).state = .unknown)
      ∧ (∀ e, (s.pt p).detected = some e → ∃ w,
          w = { s.setPt p { s.pt p with state := .rest e, retries := 0 } with engine := t.engine, signal := t.signal }
            ∧ Reevaluated w t p e)
      ∧ t.engine.failed = t.countFailed ∧ t.engine.causes.guardViolation = s.engine.causes.guardViolation
      ∧ (0 < s.engine.failed → t.engine.failed = 0 → t.engine.causes = { s.engine.causes with pointFailed := false })
      ∧ Reported s t (causesReport s t (if t.engine.failed = 0 then .causeCleared .pointFailed else .causeSet .pointFailed))
      ∧ t.sections = s.sections ∧ t.slots = s.slots ∧ t.claims = s.claims ∧ t.tables = s.tables)
    ∧ (1 ≤ p → p ≤ 63 → s.pointRecord p ≠ none → (s.pt p).state ≠ .failed → ∃ t, exec (.pointClearFault q p) s = .next t
      ∧ AnsweredOnly s t q m .pointClearFault (.wrongState none))
    ∧ (1 ≤ p → p ≤ 63 → s.pointRecord p = none → ∃ t, exec (.pointClearFault q p) s = .next t
      ∧ AnsweredOnly s t q m .pointClearFault .notFound)
    ∧ (p = 0 ∨ 63 < p → ∃ t, exec (.pointClearFault q p) s = .next t ∧ AnsweredOnly s t q m .pointClearFault .badArgument)

/-- POINT_CLEAR_RETRIES sets retries used to 0 in whatever state the point is in and changes nothing else; it is refused
with BAD_ARGUMENT for an id outside 1..63 and with NOT_FOUND for an absent record (R125). -/
def Obligations.PointClearRetriesCompletes : Prop :=
  ∀ (q : Req) (m : Telegram) (s : State) (p : Nat), s.fromHolder q m →
    (1 ≤ p → p ≤ 63 → s.pointRecord p ≠ none → ∃ t, exec (.pointClearRetries q p) s = .next t
      ∧ Answered s t q m .pointClearRetries (.done .plain) ∧ OnlySends (s.setPt p { s.pt p with retries := 0 }) t)
    ∧ (1 ≤ p → p ≤ 63 → s.pointRecord p = none → ∃ t, exec (.pointClearRetries q p) s = .next t
      ∧ AnsweredOnly s t q m .pointClearRetries .notFound)
    ∧ (p = 0 ∨ 63 < p → ∃ t, exec (.pointClearRetries q p) s = .next t
      ∧ AnsweredOnly s t q m .pointClearRetries .badArgument)

/-! ### Engine and management requests -/

/-- START, once its checks pass, builds the detector map and the paths and makes the engine RUN, or HALTED while a cause
stands; it changes no record, section, slot, claim or cut; a check that fails names its refusal, in order. The map gives every
detector number of a present record, and item 1, its counter and the places a DOWN crossing joins, and no other; the path of
a present point or track is the walk down to it from the root; ENGINE_STATE is reported (R11, R12, R132 to R134). -/
def Obligations.StartCompletes : Prop :=
  ∀ (q : Req) (m : Telegram) (s : State), s.fromHolder q m →
    (s.engine.state = .config → s.tableCheck = none → s.sectionCheck = none → ∃ t, exec (.start q) s = .next t
      ∧ Answered s t q m .start (.done .plain) ∧ t.tables.points = s.tables.points
      ∧ t.tables.tracks = s.tables.tracks ∧ t.tables.params = s.tables.params ∧ t.tables.routes = s.tables.routes
      ∧ t.tables.patches = s.tables.patches
      ∧ (∀ d c, 1 ≤ d → d ≤ 254 → DetectorAt s d c → ∃ up down, t.joint d = some ⟨c, up, down⟩ ∧ Joins s up down c)
      ∧ (∀ d, (∀ c, ¬DetectorAt s d c) → t.joint d = none)
      ∧ (∀ p, s.pointRecord p ≠ none → DownTo s (t.pointPath p) (.point p))
      ∧ (∀ k, s.trackRecord k ≠ none → DownTo s (t.trackPath k) (.track k))
      ∧ t.engine = { s.engine with state := if s.engine.causes = .empty then .run else .halted }
      ∧ t.signal.demand = t.demandNow ∧ SameYard s t ∧ ThrowsStart s t
      ∧ Reported s t [.engineState t.engine.state t.engine.causes .start])
    ∧ (s.engine.state ≠ .config → ∃ t, exec (.start q) s = .next t ∧ AnsweredOnly s t q m .start (.wrongState none))
    ∧ (∀ x, s.engine.state = .config → s.tableCheck = some x → ∃ t, exec (.start q) s = .next t
      ∧ AnsweredOnly s t q m .start (.tableError x.1 x.2))
    ∧ (∀ id, s.engine.state = .config → s.tableCheck = none → s.sectionCheck = some id →
      ∃ t, exec (.start q) s = .next t ∧ AnsweredOnly s t q m .start (.disturbed id))

/-- The table check of START answers the first fault in the scan order of R10, and none when there is none; the section check
answers the first DISTURBED section of the present records in the order of R42 (R10, R42). -/
def Obligations.StartChecksFindTheFirstFault : Prop :=
  ∀ s : State,
    (s.tableCheck = none ↔ ∀ step index fault, ¬TableFault s step index fault)
    ∧ (∀ fault, s.tableCheck = some fault ↔ ∃ step index, TableFault s step index fault
        ∧ ∀ n i x, TableFault s n i x → step < n ∨ (step = n ∧ index ≤ i))
    ∧ (s.sectionCheck = none ↔ ∀ id, SectionPresent s id → (s.sec id).disturbance = none)
    ∧ ∀ id, s.sectionCheck = some id ↔ SectionPresent s id ∧ (s.sec id).disturbance ≠ none
        ∧ ∀ x, SectionPresent s x → (s.sec x).disturbance ≠ none → sectionPlace id ≤ sectionPlace x

/-- STOP_ENGINE with no slot in use makes the engine CONFIG, closes the binder, and disturbs every NORMAL section with cause
STOPPED, its runs kept; with a slot in use it is BUSY. Whatever causes it sets, it offers one ENGINE_STATE report at most,
which names STOP_ENGINE and carries the whole change; it follows a GUARD_VIOLATION for every point whose return THROW was still
QUEUED and whose guard was clear, ascending (the model's order, log entry 13; R42, R114, R132, R135). -/
def Obligations.StopEngineCompletes : Prop :=
  ∀ (q : Req) (m : Telegram) (s : State), s.fromHolder q m →
    (s.engine.state ≠ .config → s.slotsInUse = 0 → ∃ t, exec (.stopEngine q) s = .next t
      ∧ Answered s t q m .stopEngine (.done .plain) ∧ t.engine.state = .config
      ∧ t.binder = { s.binder with state := .closed, gap := none }
      ∧ (∀ id, id.inRange = true → (t.sec id).runs = (s.sec id).runs
          ∧ (t.sec id).disturbance = some ((s.sec id).disturbance.getD ⟨.stopped, none, none⟩))
      ∧ (∀ c, s.engine.causes.has c = true → t.engine.causes.has c = true) ∧ t.signal.demand = t.demandNow
      ∧ t.engineReports ≤ s.engineReports + 1
      ∧ (∀ r ∈ t.reports.queue, r ∉ s.reports.queue → r.ofEngine = true →
          r.body = .engineState .config t.engine.causes .stopEngine)
      ∧ (∃ violated : List Nat, (∀ p, p ∈ violated ↔ (1 ≤ p ∧ p ≤ 63 ∧ s.guardClear p = true ∧ (∃ e, (s.pt p).state = .returning e)
            ∧ (s.pt p).command.isQueued = true))
          ∧ violated.Pairwise (· < ·) ∧ (∀ p ∈ violated, GuardViolated s t p)
          ∧ Reported s t (violated.map (fun p => .guardViolation p (s.pt p).state s.clock none [])
              ++ [.engineState .config t.engine.causes .stopEngine]))
      ∧ t.cutList = s.cutList ∧ t.tables = s.tables ∧ t.slots = s.slots ∧ t.mgmt = s.mgmt)
    ∧ (s.engine.state = .config → ∃ t, exec (.stopEngine q) s = .next t
      ∧ AnsweredOnly s t q m .stopEngine (.wrongState none))
    ∧ (s.engine.state ≠ .config → 0 < s.slotsInUse → ∃ t, exec (.stopEngine q) s = .next t
      ∧ AnsweredOnly s t q m .stopEngine (.busy s.slotsInUse))

/-- HALT and RESUME from a station without the claim are refused with NOT_CONTROLLER. HALT is refused in CONFIG with
WRONG_STATE; otherwise it sets COMMAND when it is absent, which makes the engine HALTED, and changes nothing when it stands
(R137). RESUME is refused with WRONG_STATE and the whole cause set while POINT_FAILED or SUPERVISION stands; otherwise
COMMAND and GUARD_VIOLATION are cleared, which empties the set and makes a HALTED engine RUN (R138). A change of the set by either is
reported by one ENGINE_STATE that names the request (R132). -/
def Obligations.HaltAndResumeComplete : Prop :=
  (∀ (q : Req) (m : Telegram) (s : State), s.mayAnswer q m → s.mgmt.holder ≠ some m.src.toNat →
      (∃ t, exec (.halt q) s = .next t ∧ AnsweredOnly s t q m .halt .notController)
      ∧ ∃ t, exec (.resume q) s = .next t ∧ AnsweredOnly s t q m .resume .notController)
    ∧ ∀ (q : Req) (m : Telegram) (s : State), s.fromHolder q m →
    (s.engine.state ≠ .config → s.engine.causes.command = false → ∃ t, exec (.halt q) s = .next t
      ∧ Answered s t q m .halt (.done .plain)
      ∧ t.engine = { s.engine with state := .halted, causes := { s.engine.causes with command := true } }
      ∧ Reported s t [.engineState .halted { s.engine.causes with command := true } .halt]
      ∧ SameYard s t ∧ t.tables = s.tables ∧ ThrowsStart s t)
    ∧ (s.engine.state ≠ .config → s.engine.causes.command = true → ∃ t, exec (.halt q) s = .next t
      ∧ AnsweredOnly s t q m .halt (.done .plain))
    ∧ (s.engine.state = .config → ∃ t, exec (.halt q) s = .next t ∧ AnsweredOnly s t q m .halt (.wrongState none))
    ∧ (s.engine.causes.pointFailed = true ∨ s.engine.causes.supervision = true → ∃ t, exec (.resume q) s = .next t
      ∧ AnsweredOnly s t q m .resume (.wrongState (some s.engine.causes)))
    ∧ (s.engine.causes.pointFailed = false → s.engine.causes.supervision = false →
      (s.engine.causes = .empty → ∃ t, exec (.resume q) s = .next t ∧ AnsweredOnly s t q m .resume (.done .plain))
      ∧ (s.engine.causes ≠ .empty → ∃ t, exec (.resume q) s = .next t ∧ Answered s t q m .resume (.done .plain)
        ∧ t.engine = { s.engine with state := (if s.engine.state = .config then .config else .run), causes := .empty }
        ∧ Reported s t [.engineState t.engine.state .empty .resume]
        ∧ SameYard s t ∧ t.tables = s.tables ∧ ThrowsStart s t))

/-- CLAIM_CONTROL gives the claim to the source when there is none and arms supervision, changes nothing for the holder,
and names the holder to another station; RELEASE_CONTROL from the holder clears the claim and disarms
supervision (R143, R164, R165). FENCE_WRITE from the holder in CONFIG sets ANY, or a list of 1 to 4 addresses 1..254
without repeats; outside CONFIG and for any other argument it is refused (R170). -/
def Obligations.ClaimReleaseAndFence : Prop :=
  (∀ (q : Req) (m : Telegram) (s : State), s.mayAnswer q m →
    (s.mgmt.holder = none → ∃ t, exec (.claimControl q) s = .next t ∧ Answered s t q m .claimControl (.done .plain)
      ∧ ∃ x : Supervision, x = ⟨after s.clock s.tables.params.supervisionPeriod, s.clock⟩
        ∧ OnlySends { s with mgmt := ⟨some m.src.toNat, s.mgmt.fence, some x, none⟩ } t)
    ∧ (∀ h, s.mgmt.holder = some h → ∃ t, exec (.claimControl q) s = .next t
      ∧ AnsweredOnly s t q m .claimControl (if h = m.src.toNat then .done .plain else .heldElsewhere h))
    ∧ (s.mgmt.holder = some m.src.toNat → ∃ t, exec (.releaseControl q) s = .next t
      ∧ Answered s t q m .releaseControl (.done .plain)
      ∧ OnlySends { s with mgmt := ⟨none, s.mgmt.fence, none, none⟩ } t))
    ∧ ∀ (q : Req) (m : Telegram) (s : State) (f : Option Fence), s.fromHolder q m →
    (s.engine.state = .config →
      (∀ x, f = some x → (x = .any ∨ ∃ l : List Nat, x = .only l ∧ l ≠ [] ∧ l.length ≤ 4 ∧ l.Nodup ∧ ∀ a ∈ l, 1 ≤ a ∧ a ≤ 254) →
        ∃ t, exec (.fenceWrite q f) s = .next t ∧ Answered s t q m .fenceWrite (.done .plain)
          ∧ OnlySends { s with mgmt := { s.mgmt with fence := x } } t)
      ∧ ((f = none ∨ ∃ l : List Nat, f = some (.only l) ∧ (l = [] ∨ 4 < l.length ∨ ¬l.Nodup ∨ ∃ a ∈ l, a = 0 ∨ 254 < a)) →
        ∃ t, exec (.fenceWrite q f) s = .next t ∧ AnsweredOnly s t q m .fenceWrite .badArgument))
    ∧ (s.engine.state ≠ .config → ∃ t, exec (.fenceWrite q f) s = .next t
      ∧ AnsweredOnly s t q m .fenceWrite (.wrongState none))

/-- SERVICE from a station without the claim is refused with NOT_CONTROLLER. With phase 0 or 1, other than the last accepted,
it moves the expiry and becomes the last accepted phase, and the first after a claim also clears SUPERVISION, which one ENGINE_STATE
reports where it stood (R132); any other phase is refused and changes nothing (R144, R145). -/
def Obligations.ServiceCompletes : Prop :=
  (∀ (q : Req) (m : Telegram) (s : State) (n : Nat), s.mayAnswer q m → s.mgmt.holder ≠ some m.src.toNat →
      ∃ t, exec (.service q n) s = .next t ∧ AnsweredOnly s t q m .service .notController)
    ∧ ∀ (q : Req) (m : Telegram) (s : State), s.fromHolder q m →
    (∀ phase : Fin 2, s.mgmt.phase ≠ some phase → ∃ t, exec (.service q phase.val) s = .next t
      ∧ Answered s t q m .service (.done .plain)
      ∧ t.mgmt = ⟨s.mgmt.holder, s.mgmt.fence, some ⟨after s.clock s.tables.params.supervisionPeriod, s.clock⟩, some phase⟩
      ∧ SameButManagement s t ∧ t.tables = s.tables ∧ ThrowsStart s t
      ∧ (s.mgmt.phase = none → t.engine.causes = { s.engine.causes with supervision := false })
      ∧ (s.mgmt.phase ≠ none → t.engine = s.engine ∧ t.signal = s.signal)
      ∧ Reported s t (causesReport s t (.causeCleared .supervision)))
    ∧ (∀ n, 2 ≤ n ∨ s.mgmt.phase.map Fin.val = some n → ∃ t, exec (.service q n) s = .next t
      ∧ AnsweredOnly s t q m .service .badArgument)

/-! ### The line -/

/-- A frame that fails a check raises the port's error count and fills an empty first-error record, which LINK_ERROR then reports; no
telegram of it is kept, and no block changes but by what the ports then send; an overrun comes before the other checks. An accepted FILL is
kept in no buffer; on a busy port its credits are added, one more buffer is owed, and nothing else happens. An accepted
telegram that is no FILL and no consumed broadcast is handled after those accepted before it (state `v`) and after its credits have been
taken (state `u`): an own request stays in its receive buffer, and a pass telegram moves to the other port's pass queue, where it waits
last or begins at once, or stays in its buffer while that queue is full; one that waited, and finds room as the credits are taken,
goes before it (R149 to R154). The model's choices in it: an overrun when eight telegrams wait at the frame's end, whatever
held at its begin (log entry 8, unsafe), the overrun of a FILL as of any telegram (log entry 29, unsafe), the owed count that an
accepted FILL raises by one (log entry 9, unsafe), and that an own request stays until its command, and a pass telegram that waited for
room until its own or this one (log entry 32, unsafe). -/
def Obligations.FramesAreCountedConsumedOrKept : Prop :=
  (∀ (p : Port) (full : Bool) (frame : List Byte) (cls : ErrorClass) (s v : State), v = s.handleEarlier p →
    (if full = true ∨ 8 ≤ (v.port p).waiting.length then cls = .overrun else readFrame p frame = .error cls) →
    ∃ t, exec (.telegramReceived p full frame) s = .next t ∧ OnlySends s t
      ∧ (t.port p).errors = min 65535 ((s.port p).errors + 1)
      ∧ (t.port p).firstError = some ((s.port p).firstError.getD (cls, s.clock))
      ∧ Reported s t (if (s.port p).firstError = none then [.linkError p cls s.clock] else [])
      ∧ (t.port p).waiting = (v.port p).waiting)
    ∧ (∀ (p : Port) (frame : List Byte) (r : Received) (s v : State), v = s.handleEarlier p → (v.port p).waiting.length < 8 →
      readFrame p frame = .ok r → r.telegram.kind = kindFill →
      ∃ t, exec (.telegramReceived p false frame) s = .next t ∧ (t.port p).waiting = (v.port p).waiting
        ∧ ((v.port p).sending ≠ none → ∃ credits owed, credits = min 15 ((v.port p).credits + r.credits)
            ∧ owed = min 8 ((v.port p).owed + 1) ∧ t = v.setPort p { v.port p with credits := credits, owed := owed }))
    ∧ (∀ (p : Port) (frame : List Byte) (r : Received) (s v u : State) (own : Prop), v = s.handleEarlier p →
      u = v.takeCredits p r.credits → (v.port p).waiting.length < 8 → readFrame p frame = .ok r → r.telegram.kind ≠ kindFill →
      r.telegram.isTracksideBroadcast p = false →
      own = (r.telegram.kind = kindRequest ∧ s.station = some r.telegram.dest.toNat) →
      ∃ t, exec (.telegramReceived p false frame) s = .next t ∧ (t.port (other p)).waiting = (s.port (other p)).waiting
        ∧ (own → (t.port p).waiting = (v.port p).waiting ++ [⟨true, r.telegram⟩])
        ∧ (¬own → (u.port (other p)).passQueue.length < 16 →
          (t.port p).waiting = ((v.port p).waiting ++ [Waiting.mk false r.telegram]).eraseP (fun w => w.own == false)
          ∧ PassPlaced u t (other p) ((v.oldestWaiting p false).getD r.telegram))
        ∧ (¬own → 16 ≤ (u.port (other p)).passQueue.length → (t.port p).waiting = (v.port p).waiting ++ [⟨false, r.telegram⟩]
          ∧ (t.port (other p)).passQueue = (u.port (other p)).passQueue))

/-- A POINT_STATUS of a point whose record is present and names its source as the machine is recorded and taken by the point's state:
UNKNOWN by R119; lying at an end by R117 and, with a deglitch of 0 ms, R118; MOVING by the table of R111, with its success (R73) and the
fault decision (R113); RETURNING by the table of R115, or, its THROW still queued, recorded alone; FAILED recorded alone. Any other
is counted and has no effect (R103). -/
def Obligations.PointStatusIsTaken : Prop :=
  ∀ (frame : List Byte) (s u : State) (src p : Nat) (detected : Option Leg) (drive : Drive),
    StatusHanded s u frame src p detected drive →
    ∃ t, exec (.telegramReceived .t false frame) s = .next t
      ∧ ((∀ rec, u.pointRecord p = some rec → rec.machine ≠ src) →
          OnlySends u t ∧ t.link.unknownPoint = min 65535 (u.link.unknownPoint + 1))
      ∧ ∀ rec v, u.pointRecord p = some rec → rec.machine = src →
          v = u.setPt p { u.pt p with detected := detected, drive := drive } →
          match (u.pt p).state with
          | .unknown => (detected = none → OnlySends v t)
              ∧ ∀ e, detected = some e → ∃ w, w = v.setPt p { v.pt p with state := .rest e } ∧ Reevaluated w t p e
          | .rest e | .waitRetry e => StatusLying v t p e rec detected
          | .pending e => StatusLying v t p e.other rec detected
          | .moving e => StatusMoving v t p e rec detected drive
          | .returning e => ((u.pt p).command.isQueued = true → OnlySends v t)
              ∧ ((u.pt p).command.isQueued = false → StatusReturning v t p e rec detected drive)
          | .failed => OnlySends v t

/-- An automatic THROW is queued at a re-evaluation of a point at rest exactly on the five conditions of R107; at one of a PENDING
point, an automatic THROW that the served claimant no longer wants is withdrawn, and no other; a point in another state queues none. A
guard that becomes occupied, or that an axle enters, withdraws the THROW of a PENDING point, which goes back to the end it lay at. An
entry told to a point MOVING or RETURNING is a guard violation, and so is the guard's becoming occupied while a return THROW is
QUEUED; at any other point neither notice has an effect (R105, R107 to R109, R114, R120, R121; the event that the ENGINE_STATE of a
violation names, and the order of its CUT_LOST, are the model's, log entries 11 and 13). -/
def Obligations.AutomaticThrowsFollowTheClaims : Prop :=
  ∀ (s : State) (p : Nat), 1 ≤ p → p ≤ 63 →
    (∀ e, (s.pt p).state = .rest e →
      Reevaluated s (s.reevaluate p) p e ∧ (¬AutomaticDue s p e → s.reevaluate p = s))
    ∧ (∀ e v, (s.pt p).state = .pending e →
      v = { s.setPt p { s.pt p with state := .rest e.other, command := .none } with
        link := { s.link with commands := s.link.commands.filter fun c => decide (c.point ≠ p) } } →
      ((s.pt p).command = .queued .automatic → ¬Serves s p e → s.reevaluate p = v)
      ∧ ((s.pt p).command ≠ .queued .automatic ∨ Serves s p e → s.reevaluate p = s)
      ∧ (s.guardClear p = false → s.guardOccupied p = v ∧ ∀ time owner, s.guardEntry p time owner = v))
    ∧ ((∀ e, (s.pt p).state ≠ .rest e) → (∀ e, (s.pt p).state ≠ .pending e) → s.reevaluate p = s)
    ∧ (∀ time owner,
      ((∃ e, (s.pt p).state = .moving e) ∨ (∃ e, (s.pt p).state = .returning e) → ∃ t, s.guardEntry p time owner = t
        ∧ GuardViolated s t p ∧ (∀ i, owner = .slot i → LostIfInUse t i) ∧ ViolationReported s t p time (some owner)
        ∧ t.sections = s.sections ∧ t.tables = s.tables)
      ∧ ((∀ e, (s.pt p).state ≠ .pending e) → (∀ e, (s.pt p).state ≠ .moving e) → (∀ e, (s.pt p).state ≠ .returning e) →
        s.guardEntry p time owner = s))
    ∧ ((∃ e, (s.pt p).state = .returning e) → (s.pt p).command.isQueued = true → ∃ t, s.guardOccupied p = t
      ∧ GuardViolated s t p ∧ ViolationReported s t p s.clock none ∧ t.sections = s.sections ∧ t.tables = s.tables)
    ∧ ((∀ e, (s.pt p).state ≠ .pending e) → (∀ e, (s.pt p).state = .returning e → (s.pt p).command.isQueued = false) →
      s.guardOccupied p = s)

/-- A crossing at a guard-in or guard-out counter, in RUN or HALTED, moves one axle with its owner: DOWN from the head of
the section above to the tail of the one below, UP from the tail of the one below to the head of the one above. An empty
source gives an UNKNOWN axle and is DISTURBED; an axle that cannot be recorded is discarded and disturbs the section it was
entering; an axle that is discarded or enters a DISTURBED section makes its owner LOST. No other section changes, and no slot
but the owner and those with runs in the two sections (R41, R44, R45, R48, R51 to R54). The points whose claim lists the crossing changes, or
hold its slot, re-evaluate, and so does the guard's point where the guard becomes clear; another point changes by that alone (R80, R106 to
R108). The guard's point is told of an entry, and of the guard's becoming occupied: a PENDING THROW is withdrawn, and an entry at a
point MOVING or RETURNING, or an occupation with a return THROW still QUEUED, is a guard violation (R56, R114, R120, R121). A slot
stands in a claim list until its head has passed and its tail has gone by (R85); one whose axle enters the guard again joins the
point's claim list again, or becomes LOST where its claim set does not hold the point (R86). -/
def Obligations.CrossingMovesOneAxle : Prop :=
  ∀ (frame : List Byte) (s u : State) (d p : Nat) (dir : Direction) (time : Clock) (counter : Counter) (a b : SectionId),
    AxleHanded s u frame d dir time → u.joint d = some ⟨counter, .sec a, .sec b⟩ → 1 ≤ p → p ≤ 63 → b.inRange = true →
    ((counter = .guardIn p ∧ a = .pointLink p ∧ b = .guard p)
      ∨ ∃ x branch, counter = .guardOut p x ∧ a = .guard p ∧ b = Branch.sec branch) →
    ∃ t owner, exec (.telegramReceived .t false frame) s = .next t
      ∧ (match dir with
        | .down => AxleLeaves u t a .head d time owner ∧ AxleEnters u t b .tail d time owner
        | .up => AxleLeaves u t b .tail d time owner ∧ AxleEnters u t a .head d time owner)
      ∧ OtherSections u t a b
      ∧ (∀ i, owner ≠ .slot i → (u.sec a).holds i = false → (u.sec b).holds i = false → t.slot i = u.slot i)
      ∧ t.binder = u.binder ∧ t.cutList = u.cutList ∧ t.tables = u.tables ∧ t.mgmt = u.mgmt ∧ t.clock = u.clock
      ∧ PointsReevaluated u t owner ∧ (∀ k, k ≠ p → PointFollows u t k)
      ∧ (u.guardClear p = false → t.guardClear p = true → StandsEvaluated t p)
      ∧ (IsGuardEntry dir counter → EntryTold u t p time owner)
      ∧ (¬IsGuardEntry dir counter → u.guardClear p = true → t.guardClear p = false → OccupiedTold u t p)
      ∧ (∀ i, owner = .slot i → TailFollowed u t i)
      ∧ ∀ i x y, owner = .slot i → u.slot i = some x → x.flags.lost = false → (u.sec (.guard p)).disturbance = none →
        (∀ e, (u.pt p).state ≠ .moving e) → (∀ e, (u.pt p).state ≠ .returning e) →
        ((dir = .down ∧ counter = .guardIn p ∧ u.downstream x.head counter = false
            ∧ AxleFits .tail (u.sec (.guard p)).runs owner ∧ y = x)
          ∨ (dir = .up ∧ counter ≠ .guardIn p ∧ AxleFits .head (u.sec (.guard p)).runs owner
            ∧ y = { x with flags := { x.flags with unanchored := true } })) →
        Rejoined u t i p x y

/-- A DOWN crossing at the lead entry counter adds one axle to the tail of L(root), of the owner the binder names; an UP crossing
there takes one from it. A DOWN crossing at a clearance counter takes one axle from the head of L(t) into the track; an UP
crossing brings one back, its owner the youngest slot CLEARING there with a cleared axle, or UNKNOWN. Empty sources, overflow
and DISTURBED sections are as elsewhere, and no other section changes (R46, R47, R49, R50 to R54). The points whose claim lists such a
crossing changes, or hold its slot, re-evaluate, no point changes otherwise, and the tail test is made (R80, R85, R106 to R108). -/
def Obligations.LeadAndClearanceCrossings : Prop :=
  ∀ (frame : List Byte) (s u : State) (d : Nat) (dir : Direction) (time : Clock), AxleHanded s u frame d dir time →
    (∀ p, u.joint d = some ⟨.lead, .outside, .sec (.pointLink p)⟩ → 1 ≤ p → p ≤ 63 →
      ∃ t owner, exec (.telegramReceived .t false frame) s = .next t
        ∧ (match dir with
          | .down => AxleEnters u t (.pointLink p) .tail d time owner
              ∧ owner = (match u.binder.state with
                | .tracked i => .slot i
                | .untracked => .unknown
                | .closed => match u.freeSlot with
                  | some i => .slot i
                  | none => .unknown)
          | .up => AxleLeaves u t (.pointLink p) .tail d time owner
              ∧ (owner = .unknown → t.slots = u.slots ∧ t.binder = u.binder ∧ t.cutList = u.cutList))
        ∧ OtherSections u t (.pointLink p) (.pointLink p)
        ∧ PointsReevaluated u t owner ∧ (∀ j, PointFollows u t j) ∧ ∀ i, owner = .slot i → TailFollowed u t i)
    ∧ ∀ k, u.joint d = some ⟨.clearance k, .sec (.trackLink k), .track k⟩ → 1 ≤ k → k ≤ 64 →
      ∃ t owner, exec (.telegramReceived .t false frame) s = .next t
        ∧ (match dir with
          | .down => AxleLeaves u t (.trackLink k) .head d time owner ∧ (owner = .unknown → t.slots = u.slots)
          | .up => AxleEnters u t (.trackLink k) .head d time owner
              ∧ (∀ i x, owner = .slot i → u.slot i = some x → x.phase = .clearing k ∧ 1 ≤ x.cleared
                  ∧ ∃ y, t.slot i = some y ∧ y.cleared = x.cleared - 1 ∧ y.phase = x.phase)
              ∧ (∀ i x, u.slot i = some x → x.phase = .clearing k → 1 ≤ x.cleared →
                  (∀ j y, j ≠ i → u.slot j = some y → y.phase = .clearing k → 1 ≤ y.cleared →
                    older y.ordinal x.ordinal = true) → owner = .slot i)
              ∧ (owner = .unknown → ∀ i x, u.slot i = some x → x.phase = .clearing k → x.cleared = 0)
              ∧ ∀ i, owner = .slot i → u.slot i ≠ none)
        ∧ OtherSections u t (.trackLink k) (.trackLink k)
        ∧ PointsReevaluated u t owner ∧ (∀ j, PointFollows u t j) ∧ ∀ i, owner = .slot i → TailFollowed u t i

/-- An AXLE taken in CONFIG, or naming a detector not in the map, moves no axle; the second is counted (R44). With forwarding ALL its
copy goes last to Port Y's pass queue, behind the pass telegrams accepted before it (state `v`), or is dropped and counted when that is
full (R151 to R153). -/
def Obligations.AxleWithoutRoleMovesNothing : Prop :=
  ∀ (frame : List Byte) (r : Received) (s v : State) (d age : Nat) (dir : Direction), v = s.handleEarlier .t →
    v.link.t.waiting.length < 8 → readFrame .t frame = .ok r → r.telegram.isTracksideBroadcast .t = true →
    r.telegram.kind = kindAxle → parseAxle r.telegram.payload = some (d, dir, age) →
    v.link.t.credits ≠ 0 ∨ r.credits = 0 → s.engine.state = .config ∨ s.joint d = none →
    ∃ t, exec (.telegramReceived .t false frame) s = .next t ∧ OnlySends s t
      ∧ t.link.unmapped = (if s.engine.state = .config then s.link.unmapped else min 65535 (s.link.unmapped + 1))
      ∧ (s.tables.params.forwardAll = false → t.link.y = v.link.y ∧ t.link.forwardingLoss = s.link.forwardingLoss)
      ∧ (s.tables.params.forwardAll = true → v.link.y.passQueue.length < 16 → PassPlaced v t .y r.telegram
        ∧ t.link.forwardingLoss = s.link.forwardingLoss)
      ∧ (s.tables.params.forwardAll = true → 16 ≤ v.link.y.passQueue.length → t.link.y = v.link.y
        ∧ t.link.forwardingLoss = min 65535 (s.link.forwardingLoss + 1))

/-! ### Routes, cuts and slots -/

/-- The reserved count of a track is the capped sum of the reservations on it, and a track is available as R15 says. The
candidate of a cut record is its explicit track, or comes from the lowest enabled patch entry of its destination, which is drawn
upon, or from the route table; the target is the candidate, the first available alternate, or the reject track, marked OVER_ROOM
only where it is not available. The lie walk follows the present ends; retargeting chooses an alternate or the reject track that
the leg leads to and that is available, and what the lie walk reaches otherwise (R7, R13, R15 to R20). -/
def Obligations.RoutesAreResolved : Prop :=
  (∀ (s : State) (t : Nat), (s.reserved t = min 4095 (((ids 16).map fun i => match s.slot i with
        | some x => if x.target = some t then x.reservation else 0
        | none => 0).sum))
      ∧ ∀ n, s.available t n = true ↔ ∃ r, s.trackRecord t = some r ∧ r.status = .opened ∧ s.reserved t + n ≤ r.room)
    ∧ (∀ (s : State) (r : CutRecord),
      (∀ k, r.route = .track k → s.candidate r = (k, s))
      ∧ ∀ code, r.route = .destination code →
        (∀ k e, 1 ≤ k → k ≤ 8 → readAt s.tables.patches ⟨false, 0, 0, 0⟩ k = e → e.enabled = true → e.destination = code →
          (∀ j, 1 ≤ j → j < k → (readAt s.tables.patches ⟨false, 0, 0, 0⟩ j).enabled = true →
            (readAt s.tables.patches ⟨false, 0, 0, 0⟩ j).destination ≠ code) →
          ∃ patches, patches = writeAt s.tables.patches k ⟨decide (e.uses ≠ 1), code, e.track, e.uses - 1⟩
            ∧ s.candidate r = (e.track, { s with tables := { s.tables with patches := patches } }))
        ∧ ((∀ k, 1 ≤ k → k ≤ 8 → (readAt s.tables.patches ⟨false, 0, 0, 0⟩ k).enabled = true →
            (readAt s.tables.patches ⟨false, 0, 0, 0⟩ k).destination ≠ code) →
          s.candidate r = (if s.routeEntry code = 0 then s.tables.params.rejectTrack else s.routeEntry code, s)))
    ∧ (∀ (s : State) (c n : Nat) (noAlternate : Bool),
      (s.available c n = true → s.chooseTarget c n noAlternate = (c, false))
      ∧ (s.available c n = false →
        (∀ x a k b, noAlternate = false → s.trackRecord c = some x → x.alternates = a ++ k :: b → s.available k n = true →
          (∀ j ∈ a, s.available j n = false) → s.chooseTarget c n noAlternate = (k, false))
        ∧ (noAlternate = true ∨ (∀ x, s.trackRecord c = some x → ∀ j ∈ x.alternates, s.available j n = false) →
          s.chooseTarget c n noAlternate
            = (s.tables.params.rejectTrack, !s.available s.tables.params.rejectTrack n))))
    ∧ (∀ (s : State) (p : Nat), (s.pt p).lieEnd = match (s.pt p).state with
        | .rest e | .pending e | .moving e | .returning e => some e
        | .waitRetry _ | .failed => (s.pt p).detected
        | .unknown => none)
    ∧ (∀ (s : State) (p : Nat) (leg : Leg) (r : PointRecord) (pairs : Path) (fin : Branch), s.pointRecord p = some r →
      LiesTo s (r.branch leg) pairs fin → pairs.length ≤ 12 → s.lieWalkFrom p leg = match fin with
        | .track t => .track t
        | .point q => .stopped q pairs)
    ∧ ∀ (s : State) (x : Slot) (p : Nat) (leg : Leg),
      (∀ t r a k b, x.noAlternate = false → x.target = some t → s.trackRecord t = some r → r.alternates = a ++ k :: b →
        (p, leg) ∈ s.trackPath k → s.available k x.expected = true →
        (∀ j ∈ a, (p, leg) ∈ s.trackPath j → s.available j x.expected = false) → s.retarget x p leg = .track k false)
      ∧ (x.noAlternate = true ∨ (∀ t r, x.target = some t → s.trackRecord t = some r →
            ∀ j ∈ r.alternates, (p, leg) ∈ s.trackPath j → s.available j x.expected = false) →
        ((p, leg) ∈ s.trackPath s.tables.params.rejectTrack → s.available s.tables.params.rejectTrack x.expected = true →
          s.retarget x p leg = .track s.tables.params.rejectTrack false)
        ∧ (((p, leg) ∈ s.trackPath s.tables.params.rejectTrack → s.available s.tables.params.rejectTrack x.expected = false) →
          s.retarget x p leg = match s.lieWalkFrom p leg with
            | .track t => .track t (!s.available t x.expected)
            | .stopped q _ => .unresolved q))

/-- A DOWN axle at the lead entry counter with the binder CLOSED binds the cut list's first record, or an UNLISTED cut to the
reject track, to the lowest FREE slot: target, reservation, path and claims are those route resolution gives, the crest ordinal
advances and the binder opens on the slot with its gap timer started; with no slot FREE an untracked cut opens. With the binder
open the axle counts for its slot and restarts the gap timer, and the axle that brings the count to 127 closes the cut
(R16, R17, R32 to R37, R104). L(root) is NORMAL and has room for the axle, and the gap has not passed already (where it has, see
log entry 12). A claim stands before the first younger one, which is a choice only where R38 puts the slots in a ring (log entry
23). The points whose lists the slot joins re-evaluate (R80, R106); CUT_BOUND, UNLISTED_CUT, TRACKING_OVERFLOW and AXLE_MISMATCH
are reported. -/
def Obligations.LeadAxlesBindAndCount : Prop :=
  ∀ (frame : List Byte) (s u : State) (d p : Nat) (time gap : Clock), AxleHanded s u frame d .down time →
    u.joint d = some ⟨.lead, .outside, .sec (.pointLink p)⟩ → 1 ≤ p → p ≤ 63 → (u.sec (.pointLink p)).disturbance = none →
    gap = after time u.tables.params.separation → reached u.clock gap = false →
    (∀ i, u.binder.state = .closed → u.freeSlot = some i → AxleFits .tail (u.sec (.pointLink p)).runs (.slot i) →
      (∀ k, u.stands i k = false) →
      ∃ t record n target mark, exec (.telegramReceived .t false frame) s = .next t
        ∧ ((u.cutList = [] ∧ record = none ∧ n = 1 ∧ target = u.tables.params.rejectTrack
              ∧ mark = !u.available u.tables.params.rejectTrack 1 ∧ t.cutList = [] ∧ t.tables = u.tables)
          ∨ ∃ r rest c v, u.cutList = r :: rest ∧ record = some r ∧ n = r.expected ∧ u.candidate r = (c, v)
              ∧ (target, mark) = v.chooseTarget c n r.noAlternate ∧ t.cutList = rest ∧ t.tables = v.tables)
        ∧ t.slot i = some {
            phase := .entering, record := record, ordinal := u.binder.nextOrdinal, expected := n, target := some target,
            reservation := n, path := u.trackPath target, unresolved := none, counted := 1, cleared := 0, head := .lead,
            headTime := time, samples := [], estimate := u.tables.params.entrySpeed,
            stall := ⟨after time (stallInterval u.leadLength u.tables.params.entrySpeed u.tables.params.stallAllowance), true⟩,
            flags := ⟨record.isNone, false, mark, false, false, false, false, false, false⟩ }
        ∧ (∀ j, j ≠ i → t.slot j = u.slot j)
        ∧ t.binder = ⟨.tracked i, some gap, u.binder.nextOrdinal + 1⟩ ∧ t.signal.demand = t.demandNow
        ∧ Reported u t [match record with
          | some r => .cutBound i r.number u.binder.nextOrdinal target mark
          | none => .unlistedCut i u.binder.nextOrdinal target mark]
        ∧ (∀ k, t.stands i k = true → StandsEvaluated t k)
        ∧ (∀ k, legAt (u.trackPath target) k = none → t.claimList k = u.claimList k)
        ∧ ∀ k e, 1 ≤ k → k ≤ 63 → legAt (u.trackPath target) k = some e →
            ∃ a b, u.claimList k = a ++ b ∧ t.claimList k = a ++ ⟨i, some e⟩ :: b
              ∧ (∀ c ∈ a, ∀ y, u.slot c.slot = some y → older u.binder.nextOrdinal y.ordinal = false)
              ∧ ∀ c, b.head? = some c → ∃ y, u.slot c.slot = some y ∧ older u.binder.nextOrdinal y.ordinal = true)
    ∧ (u.binder.state = .closed → u.freeSlot = none → AxleFits .tail (u.sec (.pointLink p)).runs .unknown →
      ∃ t, exec (.telegramReceived .t false frame) s = .next t
        ∧ Reported u t [.trackingOverflow time u.cutList.length]
        ∧ t.binder = ⟨.untracked, some gap, u.binder.nextOrdinal⟩ ∧ t.slots = u.slots ∧ t.cutList = u.cutList
        ∧ t.tables = u.tables ∧ t.claims = u.claims)
    ∧ (u.binder.state = .untracked → AxleFits .tail (u.sec (.pointLink p)).runs .unknown →
      ∃ t, exec (.telegramReceived .t false frame) s = .next t ∧ t.binder = { u.binder with gap := some gap }
        ∧ t.slots = u.slots ∧ t.cutList = u.cutList ∧ t.tables = u.tables ∧ t.claims = u.claims ∧ Reported u t [])
    ∧ ∀ i x, u.binder.state = .tracked i → u.slot i = some x → AxleFits .tail (u.sec (.pointLink p)).runs (.slot i) →
      ∃ t, exec (.telegramReceived .t false frame) s = .next t ∧ (∀ j, j ≠ i → t.slot j = u.slot j)
        ∧ t.cutList = u.cutList ∧ t.tables = u.tables
        ∧ (x.counted < 126 → t.slot i = some { x with counted := x.counted + 1 }
            ∧ t.binder = { u.binder with gap := some gap } ∧ Reported u t [])
        ∧ (126 ≤ x.counted → t.binder = { u.binder with state := .closed, gap := none }
            ∧ Reported u t (mismatchReport i { x with counted := 127 })
            ∧ ∃ y, Closed { x with counted := 127 } y ∧ t.slot i = some y)

/-- The gap timer's expiry closes the open cut: the slot goes from ENTERING to ROLLING, a listed cut whose counts differ is
flagged MISMATCH and reported by AXLE_MISMATCH, an UNLISTED one takes its count as expected, and the binder is CLOSED with its timer stopped. A slot already
CLEARING stays so while it has a run, and clears when it has none, which CUT_CLEARED reports (R14, R31, R35, R37, R95). -/
def Obligations.GapExpiryClosesTheCut : Prop :=
  ∀ s : State, due s.clock s.binder.gap = true →
    ∃ t, exec .gapTimerExpiry s = .next t ∧ t.binder = { s.binder with state := .closed, gap := none }
      ∧ t.sections = s.sections ∧ t.cutList = s.cutList ∧ t.engine = s.engine
      ∧ ((∀ i, s.binder.state ≠ .tracked i) → t = { s with binder := t.binder })
      ∧ ∀ i x, s.binder.state = .tracked i → s.slot i = some x → (∀ k, k ≠ i → t.slot k = s.slot k)
          ∧ (((∀ k, x.phase ≠ .clearing k) ∨ ∃ id, (s.sec id).holds i = true) →
            (∃ y, Closed x y ∧ t.slot i = some y) ∧ t.claims = s.claims ∧ t.tables = s.tables
              ∧ Reported s t (mismatchReport i x))
          ∧ ∀ k, x.phase = .clearing k → (∀ id, (s.sec id).holds i = false) → ClearedInto s t i k x.counted
            ∧ ∃ y, Closed x y ∧ Reported s t (mismatchReport i x
              ++ [.cutCleared i x.number x.ordinal x.target k x.counted x.cleared y.flags])

/-- An UP axle at the lead entry counter lowers its slot's counted axles and unanchors it; when that leaves no counted axle, no
run and no cleared axle, the cut has rolled back whole: its slot is FREE, stands in no claim list, its record is back at the head
of the cut list while that has room, and is dropped, which CUT_DROPPED reports, where it has none; a binder open on it is CLOSED; the
points it stood at re-evaluate (R39, R40, R82, R106, R140). -/
def Obligations.WholeRollbackFreesTheSlot : Prop :=
  ∀ (frame : List Byte) (s u : State) (d p i n : Nat) (time : Clock) (x : Slot), AxleHanded s u frame d .up time →
    u.joint d = some ⟨.lead, .outside, .sec (.pointLink p)⟩ → 1 ≤ p → p ≤ 63 →
    (u.sec (.pointLink p)).runs.getLast? = some ⟨.slot i, n⟩ → u.slot i = some x →
    ∃ t, exec (.telegramReceived .t false frame) s = .next t
      ∧ AxleTaken .tail (u.sec (.pointLink p)).runs (.slot i) (t.sec (.pointLink p)).runs
      ∧ OtherSections u t (.pointLink p) (.pointLink p) ∧ (∀ j, j ≠ i → t.slot j = u.slot j) ∧ t.tables = u.tables
      ∧ (x.counted ≤ 1 → x.cleared = 0 → (∀ id, (t.sec id).holds i = false) →
          t.slot i = none ∧ (∀ k, t.stands i k = false) ∧ t.signal.demand = t.demandNow
            ∧ t.binder = (if u.binder.state = .tracked i then { u.binder with state := .closed, gap := none } else u.binder)
            ∧ t.cutList = (match x.record with
              | some r => if u.cutList.length < 32 then r :: u.cutList else u.cutList
              | none => u.cutList)
            ∧ (∀ k, u.stands i k = true → StandsEvaluated t k)
            ∧ Reported u t (match x.record with
              | some r => if u.cutList.length < 32 then [] else [.cutDropped none (some r.number) .listFull]
              | none => []))
      ∧ (2 ≤ x.counted ∨ 1 ≤ x.cleared ∨ (∃ id, (t.sec id).holds i = true) →
          (∃ y : Slot, y = { x with counted := x.counted - 1, flags := { x.flags with unanchored := true } }
            ∧ t.slot i = some y) ∧ t.binder = u.binder ∧ t.cutList = u.cutList ∧ Reported u t [])

/-- A head crossing at a guard-in counter, into a NORMAL guard with room, settles the slot. At a point thrown it becomes LOST.
Otherwise, by the end the point lies at (a queued THROW being withdrawn): the path's leg leaves the slot as it is; the other leg
makes it CORNERED and retargets it by that leg; no known end makes it UNRESOLVED there. A slot unresolved at the point or above it
goes on as it is, and one whose path does not name the point becomes LOST. The claims follow, and each case is reported in the order of its
rule: CUT_STALLED of a deadline already passed, CUT_CORNERED and CUT_RETARGETED, or CUT_LOST with cause OFF_PATH or
GUARD_VIOLATION (R18, R76, R81, R84, R87 to R90, R96, R176; the leg NONE of an unresolved slot's report, log entry 16;
the cause OFF_PATH where GUARD_VIOLATION is given as well, log entry 33). -/
def Obligations.SettlementAtTheGuardIn : Prop :=
  ∀ (frame : List Byte) (s u v : State) (d p i n : Nat) (time : Clock) (x z : Slot) (lying : Option Leg),
    AxleHanded s u frame d .down time →
    u.joint d = some ⟨.guardIn p, .sec (.pointLink p), .sec (.guard p)⟩ → 1 ≤ p → p ≤ 63 →
    (u.sec (.pointLink p)).runs.head? = some ⟨.slot i, n⟩ → AxleFits .tail (u.sec (.guard p)).runs (.slot i) →
    (u.sec (.guard p)).disturbance = none → u.slot i = some x → x.flags.lost = false →
    u.downstream x.head (.guardIn p) = true → HeadMoved u x (.guardIn p) time z → v = u.withdraw p →
    lying = (match (u.pt p).state with
      | .rest e => some e
      | .pending e => some e.other
      | .waitRetry _ | .failed => (u.pt p).detected
      | .unknown | .moving _ | .returning _ => none) →
    ∃ t, exec (.telegramReceived .t false frame) s = .next t ∧ t.tables = u.tables ∧ t.cutList = u.cutList
      ∧ t.binder = u.binder
      ∧ (((∃ e, (u.pt p).state = .moving e) ∨ ∃ e, (u.pt p).state = .returning e) → BecameLost t i z
        ∧ ∃ cause after, (legAt x.path p ≠ none ∨ Covers u x p → cause = .guardViolation p)
          ∧ (legAt x.path p = none → ¬Covers u x p → cause = .offPath p)
          ∧ Reported u t (stalledReport i z ++ .cutLost i x.number cause :: after))
      ∧ ((∀ e, (u.pt p).state ≠ .moving e) → (∀ e, (u.pt p).state ≠ .returning e) →
        (∀ j, j ≠ i → t.slot j = u.slot j)
        ∧ (∀ leg, legAt x.path p = some leg →
          (lying = some leg → t.slot i = some z ∧ Reported u t (stalledReport i z))
          ∧ (lying = some leg.other → ∃ y w, y = { z with flags := { z.flags with cornered := true } }
              ∧ Routed v y p leg.other w (v.retarget y p leg.other) ∧ t.slot i = some w ∧ ClaimsInLine u t i w p
              ∧ Reported u t (stalledReport i z ++ [.cutCornered i x.number p leg leg.other,
                  .cutRetargeted i x.number p (some leg.other) x.target (v.retarget y p leg.other)]))
          ∧ (lying = none → ∃ w, w = { z with
                target := none, path := u.pointPath p, unresolved := some p, reservation := 0,
                flags := { z.flags with overRoom := false, retargeted := z.flags.retargeted || z.target.isSome } }
              ∧ t.slot i = some w ∧ ClaimsInLine u t i w p
              ∧ Reported u t (stalledReport i z ++ [.cutRetargeted i x.number p none x.target (.unresolved p)])))
        ∧ (legAt x.path p = none → Covers u x p → t.slot i = some z ∧ Reported u t (stalledReport i z))
        ∧ (legAt x.path p = none → ¬Covers u x p → BecameLost t i z
          ∧ Reported u t (stalledReport i z ++ [.cutLost i x.number (.offPath p)])))

/-- A DOWN crossing of a slot at a guard-out counter, into a NORMAL link with room. At a head crossing a slot unresolved at the
point or above it takes what the lie walk by that leg reaches; else the path's leg leaves it as it is, the other leg
fails the point with WRONG_LEG and makes the slot MISROUTED and retargeted by that leg, and a path that does not name the point
makes it LOST with cause OFF_PATH. At any other crossing the other leg makes it LOST with cause DIVIDED, and a path without the point
with cause OFF_PATH. Each case is reported in the order of its rule (R18 to R20, R76, R81, R84, R89, R91 to R93, R96, R123, R176; that
the ENGINE_STATE of POINT_FAILED comes before the POINT_FAULT is the model's order, log entry 22). -/
def Obligations.LegAndDivisionChecks : Prop :=
  ∀ (frame : List Byte) (s u v : State) (d p i n : Nat) (leg : Leg) (branch : Branch) (time : Clock) (x z : Slot),
    AxleHanded s u frame d .down time →
    u.joint d = some ⟨.guardOut p leg, .sec (.guard p), .sec branch.sec⟩ → 1 ≤ p → p ≤ 63 → branch.sec.inRange = true →
    (u.sec (.guard p)).runs.head? = some ⟨.slot i, n⟩ → AxleFits .tail (u.sec branch.sec).runs (.slot i) →
    (u.sec branch.sec).disturbance = none → u.slot i = some x → x.flags.lost = false →
    HeadMoved u x (.guardOut p leg) time z → v = u.markFailed p .wrongLeg →
    ∃ t, exec (.telegramReceived .t false frame) s = .next t ∧ t.tables = u.tables ∧ t.cutList = u.cutList
      ∧ t.binder = u.binder ∧ (∀ j, j ≠ i → t.slot j = u.slot j)
      ∧ (u.downstream x.head (.guardOut p leg) = true →
        (∀ q, x.unresolved = some q → Covers u x p → ∃ w,
            Routed u z p leg w (match u.lieWalkFrom p leg with
              | .track k => .track k (!u.available k x.expected)
              | .stopped k _ => .unresolved k)
            ∧ t.slot i = some w ∧ ClaimsInLine u t i w q
            ∧ Reported u t (stalledReport i z ++ [.cutRetargeted i x.number p (some leg) x.target (match u.lieWalkFrom p leg with
              | .track k => .track k (!u.available k x.expected)
              | .stopped k _ => .unresolved k)]))
        ∧ (¬Covers u x p →
          (legAt x.path p = some leg → t.slot i = some z ∧ Reported u t (stalledReport i z))
          ∧ (legAt x.path p = some leg.other → (t.pt p).state = .failed ∧ (t.pt p).lastFault = some .wrongLeg
            ∧ ∃ y w, y = { z with flags := { z.flags with misrouted := true } } ∧ Routed v y p leg w (v.retarget y p leg)
              ∧ t.slot i = some w ∧ ClaimsInLine u t i w p
              ∧ Reported u t (stalledReport i z ++ causesReport u t (.causeSet .pointFailed)
                ++ [.pointFault p .wrongLeg (u.pt p).state .failed (u.pt p).detected (u.pt p).drive (u.pt p).retries
                    (u.pt p).throwStart,
                  .cutMisrouted i x.number p leg.other leg, .cutRetargeted i x.number p (some leg) x.target (v.retarget y p leg)]))
          ∧ (legAt x.path p = none → BecameLost t i z
            ∧ Reported u t (stalledReport i z ++ [.cutLost i x.number (.offPath p)]))))
      ∧ (u.downstream x.head (.guardOut p leg) = false →
        (Covers u x p ∨ legAt x.path p = some leg → t.slot i = some x ∧ Reported u t [])
        ∧ (¬Covers u x p → legAt x.path p = some leg.other → BecameLost t i x ∧ Reported u t [.cutLost i x.number (.divided p)])
        ∧ (¬Covers u x p → legAt x.path p = none → BecameLost t i x ∧ Reported u t [.cutLost i x.number (.offPath p)]))

/-- A DOWN crossing of a slot at a track's clearance counter raises its cleared axles; a head crossing there makes it CLEARING. A
slot whose target is another track, or which is not CLEARING into this one, becomes LOST. With the last run gone and the binder not
open on it the slot clears: it is FREE, stands in no claim list, the points it stood at re-evaluate, and its track is charged with its
counted axles. CUT_LOST names WRONG_TRACK, and CUT_CLEARED follows it (R13, R14, R76, R77, R81, R94 to R96, R106). That cleared axles saturate at 127 is the model's choice (log entry 14, unsafe). -/
def Obligations.ClearingChargesTheTrack : Prop :=
  ∀ (frame : List Byte) (s u : State) (d k i n : Nat) (time : Clock) (x base y : Slot) (head lost : Bool)
    (before : List ReportBody),
    AxleHanded s u frame d .down time →
    u.joint d = some ⟨.clearance k, .sec (.trackLink k), .track k⟩ → 1 ≤ k → k ≤ 64 →
    (u.sec (.trackLink k)).runs.head? = some ⟨.slot i, n⟩ → u.slot i = some x →
    head = u.downstream x.head (.clearance k) → (if head = true then HeadMoved u x (.clearance k) time base else base = x) →
    lost = (!x.flags.lost && (if head then decide (x.target ≠ some k) else decide (x.phase ≠ .clearing k))) →
    y = { base with
      phase := (if head then .clearing k else x.phase), cleared := min 127 (x.cleared + 1),
      unresolved := (if lost then none else x.unresolved), reservation := (if lost then 0 else x.reservation),
      flags := { base.flags with lost := x.flags.lost || lost } } →
    before = (if head then stalledReport i base else []) ++ (if lost then [.cutLost i x.number (.wrongTrack k)] else []) →
    ∃ t, exec (.telegramReceived .t false frame) s = .next t ∧ AxleTaken .head (u.sec (.trackLink k)).runs (.slot i) (t.sec (.trackLink k)).runs
      ∧ t.binder = u.binder ∧ t.cutList = u.cutList ∧ (∀ j, j ≠ i → t.slot j = u.slot j)
      ∧ (∀ c, y.phase = .clearing c → (∀ id, (t.sec id).holds i = false) → u.binder.state ≠ .tracked i →
          ClearedInto u t i c x.counted
            ∧ Reported u t (before ++ [.cutCleared i x.number x.ordinal x.target c x.counted y.cleared y.flags]))
      ∧ ((∀ c, y.phase ≠ .clearing c) ∨ (∃ id, (t.sec id).holds i = true) ∨ u.binder.state = .tracked i →
          t.slot i = some y ∧ t.tables = u.tables ∧ (lost = true → ∀ p, t.stands i p = false) ∧ Reported u t before)

/-! ### The sending side -/

/-- PASS_TELEGRAM_MOVE takes the oldest pass telegram of a port to the other port's pass queue, where it waits last or
begins at once, when that queue has room (R152, R153); otherwise nothing happens, which for a port with no pass telegram waiting
is the model's choice (log entry 3). Before a port takes the next frame, its pass telegrams with room have moved so, oldest first
(R152; that one which has waited for room may wait until then is the model's choice, log entry 32). -/
def Obligations.PassTelegramMoves : Prop :=
  ∀ (p : Port) (s : State),
    (∀ m, s.oldestWaiting p false = some m → (s.port (other p)).passQueue.length < 16 →
      ∃ t, exec (.passTelegramMove p) s = .next t ∧ OnlySends s t
        ∧ (t.port p).waiting = (s.port p).waiting.eraseP (fun w => w.own == false)
        ∧ PassPlaced s t (other p) m ∧ s.handleEarlier p = t.handleEarlier p)
    ∧ (s.oldestWaiting p false = none ∨ 16 ≤ (s.port (other p)).passQueue.length →
      exec (.passTelegramMove p) s = .next s ∧ s.handleEarlier p = s)
    ∧ ∀ full frame, exec (.telegramReceived p full frame) s = exec (.telegramReceived p full frame) (s.handleEarlier p)

/-- What a port's selection begins: nothing while it sends; without credit a FILL alone, while buffers are owed; with credit the first
own class that holds a telegram (on Port T the head THROW, the signal demand, the oldest response; on Port Y the oldest response, the
first report), the head of the pass queue when none does or when the fairness count stands at 4, and else a FILL while buffers are
owed. Each start sets the credits field and clears the owed count; one other than a FILL spends a credit, and counts for or against
the passed traffic that waits (R153, R154, R156, R158, R159). A THROW that the point controller does not take waits here: its
withdrawal comes where a waiting THROW is reached (the model's reading, log entry 10). -/
def Obligations.SelectionFollowsTheOrder : Prop :=
  (∀ (s : State) (port : Port), (s.port port).sending ≠ none → s.select port = s)
    ∧ (∀ (s : State) (port : Port), (s.port port).sending = none →
      (s.port port).credits = 0 ∨ ((s.port port).passQueue = [] ∧ NoOwn s port) →
      s.select port = if (s.port port).owed = 0 then s
        else s.setPort port { s.port port with sending := some ⟨255, s.source, (s.port port).owed, .fill⟩, owed := 0 })
    ∧ (∀ (s : State) (port : Port) (m : Telegram) (rest : List Telegram), (s.port port).sending = none →
      1 ≤ (s.port port).credits → (s.port port).passQueue = m :: rest → NoOwn s port ∨ 4 ≤ (s.port port).fairness →
      s.select port = s.setPort port { s.port port with
        sending := some ⟨m.dest.toNat, m.src.toNat, (s.port port).owed, .passed m⟩, owed := 0,
        credits := (s.port port).credits - 1, fairness := 0, passQueue := rest })
    ∧ (∀ (s : State) (port : Port) (r : Response) (a b : List Response), OwnMay s port →
      (port = .t → s.link.commands = [] ∧ s.link.signalSlot = none) → s.link.responses = a ++ r :: b → r.port = port →
      (∀ y ∈ a, y.port ≠ port) →
      s.select port = ({ s with link := { s.link with responses := a ++ b } }).setPort port
        ((s.port port).begun r.dest s.source (.response r)))
    ∧ (∀ s : State, OwnMay s .t →
      (∀ m, s.link.commands = [] → s.link.signalSlot = some m →
        s.select .t = ({ s with link := { s.link with signalSlot := none } }).setPort .t
          (s.link.t.begun m.dest s.source (.signal m.aspect)))
      ∧ ∀ c rest, s.link.commands = c :: rest →
        (s.throwMayStart c.point = false → s.select .t = s)
        ∧ (s.throwMayStart c.point = true → ∃ u, u = s.setPt c.point
            ((s.pt c.point).started s.clock ((s.pt c.point).throwTime c.point) s.tables.params.allowance)
          ∧ s.select .t = ({ u with link := { s.link with commands := rest } }).setPort .t
              (s.link.t.begun c.dest s.source (.throw c.point c.leg))))
    ∧ ∀ (s : State) (r : Report) (rest : List Report), OwnMay s .y → (∀ x ∈ s.link.responses, x.port ≠ .y) →
      s.reports.queue = r :: rest →
      s.select .y = ({ s with reports := ⟨rest, 0⟩ }).setPort .y
        (s.link.y.begun (s.mgmt.holder.getD 255) s.source (.report r s.reports.discards))

/-- At the end of a transmission a port selects anew. With credit, and no pass telegram due by fairness, a THROW at the head
of the command queue whose start the point controller takes goes first on Port T; the point is then MOVING, or goes on
RETURNING, with its supervision timer started. One whose guard is not clear is removed unsent: a PENDING point goes back to the end it
lay at, and the port selects again; for a RETURNING point it is a guard violation. While no THROW at the head is refused its start,
the end of a transmission only lets the port send. A port's selection changes a point alone by the start of its THROW, on Port T,
with the THROW queued and the guard clear (R75, R109, R110, R114, R155, R157, R158). An idle port has no such event (the model's
choice, log entry 3). -/
def Obligations.EndOfTransmissionSelects : Prop :=
  ((∀ (s : State) (c : Throw) (rest : List Throw), s.link.t.sending ≠ none → s.link.commands = c :: rest →
      s.station ≠ none → s.link.t.credits ≠ 0 → s.link.t.passQueue = [] ∨ s.link.t.fairness < 4 →
      s.throwMayStart c.point = true → 1 ≤ c.point → c.point ≤ 63 →
      ∃ t, exec (.endOfTransmission .t) s = .next t ∧ OnlySends s t ∧ t.link.commands = rest
        ∧ t.link.t.sending = some ⟨c.dest, s.source, s.link.t.owed, .throw c.point c.leg⟩
        ∧ t.link.t.credits = s.link.t.credits - 1 ∧ t.link.t.owed = 0 ∧ t.link.y = s.link.y
        ∧ (t.pt c.point).throwStart = s.clock
        ∧ (t.pt c.point).supervision
            = some (after s.clock ((s.pt c.point).throwTime c.point + s.tables.params.allowance))
        ∧ (∀ e, (s.pt c.point).state = .pending e → (t.pt c.point).state = .moving e)
        ∧ (∀ e, (s.pt c.point).state = .returning e → (t.pt c.point).state = .returning e)
        ∧ (∀ why, (s.pt c.point).command = .queued why → (t.pt c.point).command = .sent why))
    ∧ (∀ (s : State) (p : Port), ((s.port p).sending = none → exec (.endOfTransmission p) s = .next s)
      ∧ ((s.port p).sending ≠ none → (p = .t → ∀ c, s.link.commands.head? = some c → s.throwMayStart c.point = true) →
          ∃ t, exec (.endOfTransmission p) s = .next t ∧ OnlySends s t ∧ t.port (other p) = s.port (other p)
            ∧ t = (s.setPort p { s.port p with sending := none }).select p)))
    ∧ (∀ (s : State) (c : Throw) (rest : List Throw), s.link.t.sending ≠ none → s.link.commands = c :: rest →
      s.station ≠ none → s.link.t.credits ≠ 0 → s.link.t.passQueue = [] ∨ s.link.t.fairness < 4 →
      1 ≤ c.point → c.point ≤ 63 → (s.pt c.point).command.isQueued = true → s.guardClear c.point = false →
      ((∃ e, (s.pt c.point).state = .pending e) ∨ ∃ e, (s.pt c.point).state = .returning e) →
      ∃ t, exec (.endOfTransmission .t) s = .next t ∧ (∀ x ∈ t.link.commands, x.point ≠ c.point)
        ∧ (t.pt c.point).command = .none
        ∧ (∀ e, (s.pt c.point).state = .pending e → (t.pt c.point).state = .rest e.other
          ∧ (rest = [] → ∃ u : State, u = s.setPt c.point { s.pt c.point with state := .rest e.other, command := .none }
            ∧ t = ({ u with link := { u.link with commands := [], t := { s.link.t with sending := none } } }).select .t))
        ∧ (∀ e, (s.pt c.point).state = .returning e → GuardViolated s t c.point ∧ t.sections = s.sections))
    ∧ (∀ (s : State) (port : Port) (p : Nat), (s.select port).pt p ≠ s.pt p →
    port = .t ∧ s.guardClear p = true ∧ (s.pt p).command.isQueued = true
      ∧ ((∃ e, (s.pt p).state = .pending e) ∨ ∃ e, (s.pt p).state = .returning e)
      ∧ ∃ leg, ((s.select port).link.t.sending.map Sent.body) = some (.throw p leg))

/-- The command queue holds exactly one THROW of each point whose command is QUEUED, to the end its state names, and no THROW stands
queued for a point whose guard is not clear, whatever the command; a point's state and command stay in step, and its deglitch timer
runs only while it lies at an end other than the one detected (R101, R109, R110, R114, R117, R155). -/
def Obligations.ThrowsStaySound : Prop :=
  ∀ s t : State, s.throwsSound → step s = .next t → t.throwsSound

/-- Whatever the command, no claim list comes to hold a slot twice, nor a slot that is FREE or LOST; and while the slots in use
were bound within the last 32,767 bindings, so that R38 orders them, every claim list stays in the order of the crest
ordinals, oldest first (R38, R84, R96, R104). -/
def Obligations.ClaimListsStaySound : Prop :=
  ∀ s t : State, s.claimsSound → step s = .next t →
    t.claimsSound ∧ (s.recent → s.claimsOrdered → t.claimsOrdered)

/-! ### Timers -/

/-- A stall deadline's expiry stops the timer, the deadline keeping its instant, and sets STALLED at its slot, reports CUT_STALLED, and
changes nothing else (R77, R83). The
retry timer's expiry puts a WAIT_RETRY point at rest at the end it lies at, with retries used as they were; it re-evaluates and may
be thrown at once (R106, R107, R116). The refresh timer's expiry writes the current demand, changed or not, and restarts the timer (R141).
A timer that is stopped, or whose instant has not come, does not expire (the model's choice for a command sent too early, log
entry 3). -/
def Obligations.TimersExpireWhenDue : Prop :=
  (∀ (s : State) (i : Nat) (x : Slot), 1 ≤ i → i ≤ 16 → s.slot i = some x → x.stall.running = true →
    reached s.clock x.stall.instant = true →
    ∃ t, exec (.stallDeadlineExpiry i) s = .next t
      ∧ OnlySends (s.setSlot i (some { x with stall := ⟨x.stall.instant, false⟩, flags := { x.flags with stalled := true } })) t
      ∧ Reported s t [.cutStalled i x.number x.head x.headTime x.estimate { x.flags with stalled := true }])
    ∧ (∀ (s : State) (p : Nat) (origin : Leg), 1 ≤ p → p ≤ 63 → due s.clock (s.pt p).retryTimer = true →
    (s.pt p).state = .waitRetry origin →
    ∃ t, exec (.retryTimerExpiry p) s = .next t ∧ SameBlocks s t ∧ (t.pt p).retryTimer = none
      ∧ (t.pt p).retries = (s.pt p).retries ∧ Reported s t []
      ∧ ∃ w, w = s.setPt p { s.pt p with state := .rest origin, retryTimer := none } ∧ Reevaluated w t p origin)
    ∧ (∀ s : State, due s.clock s.signal.refresh = true → s.tables.params.signalStation ≠ 0 →
    ∃ t, exec .refreshTimerExpiry s = .next t
      ∧ OnlySends { s with signal := ⟨s.signal.demand, some (after s.clock s.tables.params.refresh)⟩ } t
      ∧ (t.link.signalSlot = some ⟨s.signal.demand, s.tables.params.signalStation⟩
        ∨ (t.link.signalSlot = none ∧ ∃ x, (t.port .t).sending = some x ∧ x.body = .signal s.signal.demand
            ∧ x.dest = s.tables.params.signalStation)))
    ∧ (∀ (s : State) (i p : Nat),
    (due s.clock s.binder.gap = false → exec .gapTimerExpiry s = .next s)
    ∧ ((∀ x, s.slot i = some x → x.stall.running = false ∨ reached s.clock x.stall.instant = false) → exec (.stallDeadlineExpiry i) s = .next s)
    ∧ (due s.clock (s.pt p).supervision = false → exec (.supervisionTimerExpiry p) s = .next s)
    ∧ (due s.clock (s.pt p).retryTimer = false → exec (.retryTimerExpiry p) s = .next s)
    ∧ (due s.clock (s.pt p).deglitchTimer = false → exec (.deglitchTimerExpiry p) s = .next s)
    ∧ (due s.clock s.signal.refresh = false → exec .refreshTimerExpiry s = .next s)
    ∧ ((∀ x, s.mgmt.supervision = some x → reached s.clock x.expiry = false) →
        exec .controllerSupervisionExpiry s = .next s))

/-- A point's supervision timer expires: a MOVING point goes RETURNING while its response is RETRY, retries are left and its
guard is clear, its return THROW being placed, and FAILED otherwise; a RETURNING point goes FAILED; the last fault is THROW_TIMEOUT, and
POINT_FAULT reports it with the outcome (R112, R113, R115, R122). -/
def Obligations.SupervisionExpiryIsAFault : Prop :=
  ∀ (s : State) (p : Nat), 1 ≤ p → p ≤ 63 → due s.clock (s.pt p).supervision = true →
    (∀ e rec, (s.pt p).state = .moving e → s.pointRecord p = some rec →
      ∃ t, exec (.supervisionTimerExpiry p) s = .next t ∧ FaultDecided s t p e rec .throwTimeout)
    ∧ ((∃ e, (s.pt p).state = .moving e ∧ s.pointRecord p = none) ∨ (∃ e, (s.pt p).state = .returning e) →
      ∃ t, exec (.supervisionTimerExpiry p) s = .next t ∧ WentFailed s t p .throwTimeout)

/-- The deglitch timer's expiry at a point that lies at an end: with that end detected again only the timer stops; with no
end detected the point fails with DETECTION_LOST; with the other end it adopts it while the guard is clear, reports
POINT_UNCOMMANDED_MOVE and re-evaluates, and a guard violation is declared otherwise. Either failure offers one ENGINE_STATE report at
most, however many causes it sets, and then POINT_FAULT or GUARD_VIOLATION (R106, R107, R118, R121, R122, R132; log entries 11,
13 and 22 name what is the model's in them). -/
def Obligations.DeglitchExpiryDecides : Prop :=
  ∀ (s : State) (p : Nat) (e : Leg), 1 ≤ p → p ≤ 63 → due s.clock (s.pt p).deglitchTimer = true →
    (s.pt p).state.lies = some e →
    ((s.pt p).detected = some e → exec (.deglitchTimerExpiry p) s = .next (s.setPt p { s.pt p with deglitchTimer := none }))
    ∧ ((s.pt p).detected = none → ∃ t, exec (.deglitchTimerExpiry p) s = .next t
        ∧ WentFailed s t p .detectionLost ∧ t.engineReports ≤ s.engineReports + 1)
    ∧ ((s.pt p).detected = some e.other → s.guardClear p = true → ∃ t, exec (.deglitchTimerExpiry p) s = .next t
        ∧ SameBlocks s t ∧ (t.pt p).deglitchTimer = none ∧ (t.pt p).retryTimer = none
        ∧ Reported s t [.pointUncommandedMove p e e.other]
        ∧ ∃ w, w = s.setPt p { s.pt p with state := .rest e.other, deglitchTimer := none, retryTimer := none }
          ∧ Reevaluated w t p e.other)
    ∧ ((s.pt p).detected = some e.other → s.guardClear p = false → ∃ t, exec (.deglitchTimerExpiry p) s = .next t
        ∧ GuardViolated s t p ∧ ViolationReported s t p s.clock none ∧ t.engineReports ≤ s.engineReports + 1
        ∧ t.sections = s.sections ∧ t.tables = s.tables)

/-- The expiry of controller supervision disarms it, clears the claim and the phase, and sets SUPERVISION when absent, which
makes a RUN engine HALTED; the fence set, tables, cut list, slots, sections and claims stay. SUPERVISION_LOST names the station that held
the claim, after the ENGINE_STATE of the cause where that was absent (R132, R146). -/
def Obligations.SupervisionLapseClearsTheClaim : Prop :=
  ∀ (s : State) (x : Supervision), s.mgmt.supervision = some x → reached s.clock x.expiry = true →
    ∃ t, exec .controllerSupervisionExpiry s = .next t ∧ t.mgmt = ⟨none, s.mgmt.fence, none, none⟩
      ∧ t.engine.causes = { s.engine.causes with supervision := true } ∧ t.engine.failed = s.engine.failed
      ∧ (s.engine.causes.supervision = false → s.engine.state ≠ .config → t.engine.state = .halted)
      ∧ (s.engine.causes.supervision = false → s.engine.state = .run → t.signal.demand = .stop)
      ∧ (s.engine.causes.supervision = true ∨ s.engine.state = .config → t.engine.state = s.engine.state)
      ∧ SameButManagement s t ∧ t.tables = s.tables ∧ ThrowsStart s t
      ∧ ∀ holder, s.mgmt.holder = some holder → Reported s t (causesReport s t (.causeSet .supervision)
          ++ [.supervisionLost holder s.mgmt.phase x.since x.expiry])

/-! ### Arithmetic, orders, telegrams -/

/-- A sample is d × 1000 / Δt rounded down and clamped to 20..1,200, and 1,200 when Δt is 0 or less (R63). The estimate of 1
to 4 samples within 20..1,200, the first weight at least 1, is their weighted mean rounded half up, and lies within
20..1,200 (R64). The learned throw time moves by an eighth of the difference to the measured time, rounded half away from zero,
clamped to T_min..T_max (R73). The stall interval is L × 1000 / v rounded up plus the allowance, at most 65,535; the relative arrival
time is the signed difference clamped to 0..65,535 (R70, R76). Of two different crest ordinals exactly one is older (R38). An event
time is the arrival time less the age, modulo 2^32, and 0 where the age is greater than the time since the device reset (R43; that
this is where a clock that has not wrapped reads less than the age, log entry 21). -/
def Obligations.ArithmeticFollowsTheRules : Prop :=
  ((∀ (d : Nat) (entered left : Clock),
      (elapsed entered left ≤ 0 → sampleOf d entered left = 1200)
      ∧ (1 ≤ elapsed entered left → ∀ v : Nat, v * (elapsed entered left).toNat ≤ d * 1000 →
          d * 1000 < (v + 1) * (elapsed entered left).toNat → sampleOf d entered left = max 20 (min 1200 v)))
    ∧ (∀ (w1 w2 w3 w4 : Nat) (samples : List Nat), 1 ≤ w1 → samples ≠ [] → samples.length ≤ 4 →
      (∀ v ∈ samples, 20 ≤ v ∧ v ≤ 1200) →
      let N := (List.zipWith (· * ·) [w1, w2, w3, w4] samples).sum
      let W := ([w1, w2, w3, w4].take samples.length).sum
      let est := estimateOf [w1, w2, w3, w4] samples
      2 * W * est ≤ 2 * N + W ∧ 2 * N + W < 2 * W * (est + 1) ∧ 20 ≤ est ∧ est ≤ 1200))
    ∧ (∀ (T tMin tMax : Nat) (m change : Int), tMin ≤ tMax →
    (2 * (8 * change - (m - T)).natAbs < 8 ∨ (2 * (8 * change - (m - T)).natAbs = 8 ∧ (m - T).natAbs < (8 * change).natAbs)) →
    ((learn T m tMin tMax : Nat) : Int) = max (tMin : Int) (min (tMax : Int) ((T : Int) + change)))
    ∧ ((∀ l v allowance c : Nat, 1 ≤ v → l * 1000 ≤ c * v → c * v < l * 1000 + v →
      stallInterval l v allowance = min 65535 (c + allowance))
    ∧ ∀ now a : Clock, ((relative now a : Nat) : Int) = max 0 (min 65535 (elapsed now a)))
    ∧ (∀ a b : Sys2Proof.Ordinal, (older a b = true ↔
      (1 ≤ (b.toNat + 65536 - a.toNat) % 65536 ∧ (b.toNat + 65536 - a.toNat) % 65536 ≤ 32767)
        ∨ ((b.toNat + 65536 - a.toNat) % 65536 = 32768 ∧ a.toNat < b.toNat))
    ∧ (a ≠ b → older a b = !older b a) ∧ older a a = false)
    ∧ ∀ (wrapped : Bool) (arrival : Clock) (age : Nat), age ≤ 255 →
      (wrapped = false → arrival.toNat < age → eventTime wrapped arrival age = 0)
      ∧ (wrapped = true ∨ age ≤ arrival.toNat →
        (eventTime wrapped arrival age).toNat = (arrival.toNat + 4294967296 - age) % 4294967296)

/-- A claimant's arrival at a point is its head time plus the distance D over its estimate, rounded up, when it is anchored, and the
present reading plus D' over its estimate when it is not; it has none where the point's guard-in is not downstream of its head (R67 to
R69). The throw window holds exactly when the head claimant's relative arrival time is at least T + M; the latest throw instant is
its arrival time less T and M, and within the horizon the window holds exactly up to that instant (R70 to R72, R105). -/
def Obligations.ArrivalsAndWindowsFollowTheRules : Prop :=
  (∀ (s : State) (x : Slot) (p head rest n : Nat), WayDown s p x.head head rest → 1 ≤ x.estimate →
      (x.flags.unanchored = false → (head + rest) * 1000 ≤ n * x.estimate → n * x.estimate < (head + rest) * 1000 + x.estimate →
        s.arrival x p = some (after x.headTime n))
      ∧ (x.flags.unanchored = true → rest * 1000 ≤ n * x.estimate → n * x.estimate < rest * 1000 + x.estimate →
        s.arrival x p = some (after s.clock n)))
    ∧ (∀ (s : State) (x : Slot) (p : Nat), NotBelow s p x.head → s.arrival x p = none)
    ∧ (∀ (s : State) (p : Nat),
      (s.window p = true ↔ ∃ a, HeadArrives s p a
        ∧ (((s.pt p).throwTime p + s.tables.params.margin : Nat) : Int) ≤ max 0 (min 65535 (elapsed s.clock a)))
      ∧ (∀ i, s.latestThrow p = some i ↔
          ∃ a, HeadArrives s p a ∧ i = a - BitVec.ofNat 32 ((s.pt p).throwTime p + s.tables.params.margin)))
    ∧ ∀ (s : State) (p : Nat) (a : Clock), HeadArrives s p a → 0 ≤ elapsed s.clock a → elapsed s.clock a ≤ 65535 →
      1 ≤ (s.pt p).throwTime p + s.tables.params.margin → (s.pt p).throwTime p + s.tables.params.margin ≤ 6000 →
      ∃ i, s.latestThrow p = some i ∧ (s.window p = true ↔ 0 ≤ elapsed s.clock i)

/-- A record offered to a queue that is not full stands after every record of its own or a higher level and before every
lower one; to a full queue, it displaces the newest record of the lowest level present when that is below its
own, and is itself lost otherwise, and the discard count rises (R178, R179, R180). -/
def Obligations.ReportsQueueByLevel : Prop :=
  ∀ (x : ReportQueue) (r : Report), x.bounded →
    (x.queue.length < 32 → x.offer r
        = ⟨x.queue.filter (fun y => decide (r.level.rank ≤ y.level.rank))
            ++ r :: x.queue.filter (fun y => decide (y.level.rank < r.level.rank)), x.discards⟩)
    ∧ (∀ l last, x.queue = l ++ [last] → x.queue.length = 32 →
        (last.level.rank < r.level.rank → x.offer r
          = ⟨l.filter (fun y => decide (r.level.rank ≤ y.level.rank))
              ++ r :: l.filter (fun y => decide (y.level.rank < r.level.rank)), min 65535 (x.discards + 1)⟩)
        ∧ (r.level.rank ≤ last.level.rank → x.offer r = ⟨x.queue, min 65535 (x.discards + 1)⟩))
    ∧ (x.offer r).bounded

/-- What the part sends is built as R148 says: a THROW carries its point and end (1 LEFT, 2 RIGHT), a SIGNAL_DEMAND the aspect byte,
a FILL nothing, a RESPONSE and a REPORT at most 32 bytes (which bytes is open, log entry 15), a passed telegram what it was received
with; and a telegram of the part's format, built or passed, reads back as it was with its credits: no bit of it is lost on the
line (R148, R149, R153). -/
def Obligations.TelegramsReadBackAsBuilt : Prop :=
  (∀ (dest src credits : Nat) (body : SentBody) (x : Sent), x = ⟨dest, src, credits, body⟩ →
      x.bytes = x.telegram.encode credits
      ∧ (∀ m, body = .passed m → x.telegram = m)
      ∧ ((∀ m, body ≠ .passed m) → x.telegram.dest = BitVec.ofNat 8 dest ∧ x.telegram.src = BitVec.ofNat 8 src
        ∧ (body = .fill → x.telegram.kind = 0x10#8 ∧ x.telegram.payload = [])
        ∧ (∀ p leg, body = .throw p leg → x.telegram.kind = 0x31#8
            ∧ x.telegram.payload = [BitVec.ofNat 8 p, if leg = .left then 1#8 else 2#8])
        ∧ (∀ a, body = .signal a → x.telegram.kind = 0x32#8
            ∧ x.telegram.payload = [if a = .stop then 0#8 else if a = .slow then 1#8 else 2#8])
        ∧ (∀ r, body = .response r → x.telegram.kind = 0x42#8 ∧ x.telegram.payload.length ≤ 32)
        ∧ ∀ r n, body = .report r n → x.telegram.kind = 0x43#8 ∧ x.telegram.payload.length ≤ 32))
    ∧ (∀ (m : Telegram) (credits : Nat), ∃ a b : Byte, m.encode credits
        = [m.dest, m.src, m.kind, BitVec.ofNat 8 (credits * 16), BitVec.ofNat 8 m.payload.length] ++ m.payload ++ [a, b]
      ∧ crc16 ([m.dest, m.src, m.kind, BitVec.ofNat 8 (credits * 16), BitVec.ofNat 8 m.payload.length] ++ m.payload) = a ++ b)
    ∧ ∀ (port : Port) (m : Telegram) (credits : Nat), credits ≤ 15 → m.payload.length ≤ 32 →
      formatOk port ⟨m, credits, 0⟩ = true → readFrame port (m.encode credits) = .ok ⟨m, credits, 0⟩

/-! ### Invariants -/

/-- Every queue, list and count of the part that the spec bounds stays within its bound, whatever the command: receive buffers,
credits, pass and command queues, responses, reports, cut records, section runs, slot counts, samples and estimates, claim lists,
retries, learned throw times within their record's limits, rooms and alternates, routes, patch entries and the fence set (R2, R3, R6,
R7, R23, R24, R41, R61, R63, R64, R73, R77, R101, R104, R149, R150, R153 to R156, R159, R170, R178, R180). The paths of the slots are
bounded by the ladder (`LadderStaysSound`). The command queue stays
within 64 because it holds one THROW per point, and a claim list within 16 because it holds no slot twice. -/
def Obligations.BoundsAreKept : Prop :=
  ∀ s t : State, s.bounded → s.throwsSound → s.claimsSound → step s = .next t → t.bounded

/-- Whatever the command, no slot is in use in CONFIG; and outside it no walk of the ladder passes more than 12 points, the paths and
the detector map that START derived are those of the records as they stand, and no slot's path has more than 12 pairs
(R8, R10, R11, R12, R31, R78). -/
def Obligations.LadderStaysSound : Prop :=
  ∀ s t : State, s.ladderSound → step s = .next t → t.ladderSound

/-- Outside CONFIG the engine stays HALTED exactly while a cause stands, POINT_FAILED stands exactly while a point is FAILED,
and engine control's count is the number of points FAILED, whatever the command (R131, R136). -/
def Obligations.EngineStaysSound : Prop :=
  ∀ s t : State, s.engineSound → step s = .next t → t.engineSound

/-- The signal demand stays what its inputs give (STOP whenever the engine is not RUN, the cut list is empty, or the slots in
use reach the stop threshold), the telegram waiting for the signal station carries it, and the refresh timer
runs while the station is set, whatever the command (R140, R141, R142). -/
def Obligations.SignalStaysSound : Prop :=
  ∀ s t : State, s.signalSound → step s = .next t → t.signalSound

/-- Supervision stays armed exactly while a station holds the claim, and no phase is kept without one, whatever the command
(R143, R146, R164, R165). -/
def Obligations.ClaimStaysSound : Prop :=
  ∀ s t : State, s.claimSound → step s = .next t → t.claimSound

/-- The invariants hold right after reset. -/
def Obligations.ResetMeetsTheInvariants : Prop :=
  State.reset.bounded ∧ State.reset.throwsSound ∧ State.reset.claimsSound ∧ State.reset.claimsOrdered ∧ State.reset.recent
    ∧ State.reset.ladderSound ∧ State.reset.engineSound ∧ State.reset.signalSound ∧ State.reset.claimSound

end
end

