-- ==== Sys2Proof/Laws/State.lean ====
section
/-! SUPPORT. The rewrite laws of the state's own updates: tables read after a write, and what each update of one entry leaves as it was. -/

namespace Sys2Proof.Machine

/-! ### Tables indexed from 1 -/

/-- An entry reads back as written. -/
@[simp] theorem readAt_writeAt_self {α : Type} {n : Nat} (v : Vector α n) (d a : α) (i : Nat) (h : 1 ≤ i ∧ i ≤ n) :
    readAt (writeAt v i a) d i = a := by
  simp [readAt, writeAt, h]

/-- A write leaves every other entry as it was. -/
theorem readAt_writeAt_ne {α : Type} {n : Nat} (v : Vector α n) (d a : α) {i j : Nat} (h : j ≠ i) :
    readAt (writeAt v i a) d j = readAt v d j := by
  unfold readAt writeAt
  split
  · split
    · rw [Vector.getElem_set_ne]
      omega
    · rfl
  · rfl

/-- Outside the range a write changes nothing. -/
theorem writeAt_outside {α : Type} {n : Nat} (v : Vector α n) (a : α) {i : Nat} (h : ¬(1 ≤ i ∧ i ≤ n)) :
    writeAt v i a = v := by
  simp [writeAt, h]

/-- Outside the range a read gives the value that stands for no entry. -/
theorem readAt_outside {α : Type} {n : Nat} (v : Vector α n) (d : α) {i : Nat} (h : ¬(1 ≤ i ∧ i ≤ n)) :
    readAt v d i = d := by
  simp [readAt, h]

/-- What holds of every entry, and of the value that stands for no entry, holds of every reading. -/
theorem readAt_all {α : Type} {n : Nat} {P : α → Prop} {v : Vector α n} {d : α} (h : ∀ x ∈ v.toList, P x) (g : P d) (i : Nat) :
    P (readAt v d i) := by
  unfold readAt
  split
  · exact h _ (by simp)
  · exact g

/-- An image table reads as the image. -/
theorem readAt_mapAll {α β : Type} {n : Nat} (f : α → β) (v : Vector α n) (d : α) (i : Nat) :
    readAt (mapAll f v) (f d) i = f (readAt v d i) := by
  unfold readAt mapAll
  split
  · simp
  · rfl

/-- The ids 1..n. -/
@[simp] theorem mem_ids {n i : Nat} : i ∈ ids n ↔ 1 ≤ i ∧ i ≤ n := by
  simp only [ids, List.mem_map, List.mem_range]
  constructor
  · rintro ⟨a, h, rfl⟩
    omega
  · intro h
    exact ⟨i - 1, by omega, by omega⟩

/-! ### One entry of the state -/

/-- What `setPt` leaves as it was. -/
@[simp] theorem State.setPt_frame (s : State) (p : Nat) (r : PointRuntime) :
    (s.setPt p r).clock = s.clock ∧ (s.setPt p r).straps = s.straps ∧ (s.setPt p r).wrapped = s.wrapped ∧
      (s.setPt p r).link = s.link ∧ (s.setPt p r).mgmt = s.mgmt ∧ (s.setPt p r).tables = s.tables ∧
      (s.setPt p r).cutList = s.cutList ∧ (s.setPt p r).binder = s.binder ∧ (s.setPt p r).sections = s.sections ∧
      (s.setPt p r).slots = s.slots ∧ (s.setPt p r).claims = s.claims ∧ (s.setPt p r).signal = s.signal ∧
      (s.setPt p r).engine = s.engine ∧ (s.setPt p r).reports = s.reports ∧ (s.setPt p r).moments = s.moments ∧
      (s.setPt p r).pending = s.pending := by simp [State.setPt]

/-- What `setClaims` leaves as it was. -/
@[simp] theorem State.setClaims_frame (s : State) (p : Nat) (l : List Claim) :
    (s.setClaims p l).clock = s.clock ∧ (s.setClaims p l).straps = s.straps ∧ (s.setClaims p l).wrapped = s.wrapped ∧
      (s.setClaims p l).link = s.link ∧ (s.setClaims p l).mgmt = s.mgmt ∧ (s.setClaims p l).tables = s.tables ∧
      (s.setClaims p l).cutList = s.cutList ∧ (s.setClaims p l).binder = s.binder ∧
      (s.setClaims p l).sections = s.sections ∧ (s.setClaims p l).slots = s.slots ∧
      (s.setClaims p l).points = s.points ∧ (s.setClaims p l).signal = s.signal ∧
      (s.setClaims p l).engine = s.engine ∧ (s.setClaims p l).reports = s.reports ∧
      (s.setClaims p l).moments = s.moments ∧ (s.setClaims p l).pending = s.pending := by simp [State.setClaims]

/-- What `setSlot` leaves as it was. -/
@[simp] theorem State.setSlot_frame (s : State) (i : Nat) (x : Option Slot) :
    (s.setSlot i x).clock = s.clock ∧ (s.setSlot i x).straps = s.straps ∧ (s.setSlot i x).wrapped = s.wrapped ∧
      (s.setSlot i x).link = s.link ∧ (s.setSlot i x).mgmt = s.mgmt ∧ (s.setSlot i x).tables = s.tables ∧
      (s.setSlot i x).cutList = s.cutList ∧ (s.setSlot i x).binder = s.binder ∧
      (s.setSlot i x).sections = s.sections ∧ (s.setSlot i x).points = s.points ∧ (s.setSlot i x).claims = s.claims ∧
      (s.setSlot i x).signal = s.signal ∧ (s.setSlot i x).engine = s.engine ∧ (s.setSlot i x).reports = s.reports ∧
      (s.setSlot i x).moments = s.moments ∧ (s.setSlot i x).pending = s.pending := by simp [State.setSlot]

/-- What `setPort` leaves as it was. -/
@[simp] theorem State.setPort_frame (s : State) (p : Port) (x : PortState) :
    (s.setPort p x).clock = s.clock ∧ (s.setPort p x).straps = s.straps ∧ (s.setPort p x).wrapped = s.wrapped ∧
      (s.setPort p x).mgmt = s.mgmt ∧ (s.setPort p x).tables = s.tables ∧ (s.setPort p x).cutList = s.cutList ∧
      (s.setPort p x).binder = s.binder ∧ (s.setPort p x).sections = s.sections ∧ (s.setPort p x).slots = s.slots ∧
      (s.setPort p x).points = s.points ∧ (s.setPort p x).claims = s.claims ∧ (s.setPort p x).signal = s.signal ∧
      (s.setPort p x).engine = s.engine ∧ (s.setPort p x).reports = s.reports ∧ (s.setPort p x).moments = s.moments ∧
      (s.setPort p x).pending = s.pending := by
  cases p <;> simp [State.setPort]

/-- What `setSec` leaves as it was. -/
@[simp] theorem State.setSec_frame (s : State) (id : SectionId) (x : Section) :
    (s.setSec id x).clock = s.clock ∧ (s.setSec id x).straps = s.straps ∧ (s.setSec id x).wrapped = s.wrapped ∧
      (s.setSec id x).link = s.link ∧ (s.setSec id x).mgmt = s.mgmt ∧ (s.setSec id x).tables = s.tables ∧
      (s.setSec id x).cutList = s.cutList ∧ (s.setSec id x).binder = s.binder ∧ (s.setSec id x).slots = s.slots ∧
      (s.setSec id x).points = s.points ∧ (s.setSec id x).claims = s.claims ∧ (s.setSec id x).signal = s.signal ∧
      (s.setSec id x).engine = s.engine ∧ (s.setSec id x).reports = s.reports ∧ (s.setSec id x).moments = s.moments ∧
      (s.setSec id x).pending = s.pending := by
  cases id <;> simp [State.setSec]

/-- What `updSlot` leaves as it was. -/
@[simp] theorem State.updSlot_frame (s : State) (i : Nat) (f : Slot → Slot) :
    (s.updSlot i f).clock = s.clock ∧ (s.updSlot i f).straps = s.straps ∧ (s.updSlot i f).wrapped = s.wrapped ∧
      (s.updSlot i f).link = s.link ∧ (s.updSlot i f).mgmt = s.mgmt ∧ (s.updSlot i f).tables = s.tables ∧
      (s.updSlot i f).cutList = s.cutList ∧ (s.updSlot i f).binder = s.binder ∧
      (s.updSlot i f).sections = s.sections ∧ (s.updSlot i f).points = s.points ∧ (s.updSlot i f).claims = s.claims ∧
      (s.updSlot i f).signal = s.signal ∧ (s.updSlot i f).engine = s.engine ∧ (s.updSlot i f).reports = s.reports ∧
      (s.updSlot i f).moments = s.moments ∧ (s.updSlot i f).pending = s.pending := by
  unfold State.updSlot
  split <;> simp

/-- A point's runtime record reads back as written. -/
@[simp] theorem State.pt_setPt_self (s : State) (p : Nat) (r : PointRuntime) (h : 1 ≤ p ∧ p ≤ 63) :
    (s.setPt p r).pt p = r := by
  simp [State.pt, State.setPt, h]

/-- Another point's runtime record stays. -/
theorem State.pt_setPt_ne (s : State) (r : PointRuntime) {p k : Nat} (h : k ≠ p) : (s.setPt p r).pt k = s.pt k :=
  readAt_writeAt_ne _ _ _ h

/-- A slot reads back as written. -/
@[simp] theorem State.slot_setSlot_self (s : State) (i : Nat) (x : Option Slot) (h : 1 ≤ i ∧ i ≤ 16) :
    (s.setSlot i x).slot i = x := by
  simp [State.slot, State.setSlot, h]

/-- Another slot stays. -/
theorem State.slot_setSlot_ne (s : State) (x : Option Slot) {i k : Nat} (h : k ≠ i) : (s.setSlot i x).slot k = s.slot k :=
  readAt_writeAt_ne _ _ _ h

/-- A claim list reads back as written. -/
@[simp] theorem State.claimList_setClaims_self (s : State) (p : Nat) (l : List Claim) (h : 1 ≤ p ∧ p ≤ 63) :
    (s.setClaims p l).claimList p = l := by
  simp [State.claimList, State.setClaims, h]

/-- Another claim list stays. -/
theorem State.claimList_setClaims_ne (s : State) (l : List Claim) {p k : Nat} (h : k ≠ p) :
    (s.setClaims p l).claimList k = s.claimList k :=
  readAt_writeAt_ne _ _ _ h

/-- A port reads back as written. -/
@[simp] theorem State.port_setPort_self (s : State) (p : Port) (x : PortState) : (s.setPort p x).port p = x := by
  cases p <;> rfl

/-- The other port stays. -/
theorem State.port_setPort_ne (s : State) (x : PortState) {p k : Port} (h : k ≠ p) : (s.setPort p x).port k = s.port k := by
  cases p <;> cases k <;> first | rfl | exact absurd rfl h

/-- What a write of a port leaves of the link interface. -/
@[simp] theorem State.link_setPort (s : State) (p : Port) (x : PortState) :
    (s.setPort p x).link.commands = s.link.commands ∧ (s.setPort p x).link.signalSlot = s.link.signalSlot
      ∧ (s.setPort p x).link.responses = s.link.responses ∧ (s.setPort p x).link.unmapped = s.link.unmapped
      ∧ (s.setPort p x).link.unknownPoint = s.link.unknownPoint
      ∧ (s.setPort p x).link.forwardingLoss = s.link.forwardingLoss := by
  cases p <;> simp [State.setPort]

/-- A section in range reads back as written. -/
theorem State.sec_setSec_self (s : State) (id : SectionId) (x : Section) (h : id.inRange = true) :
    (s.setSec id x).sec id = x := by
  cases id <;> simp only [SectionId.inRange, decide_eq_true_eq] at h <;> simp [State.sec, State.setSec, h]

/-- Another section stays. -/
theorem State.sec_setSec_ne (s : State) (x : Section) {id k : SectionId} (h : k ≠ id) :
    (s.setSec id x).sec k = s.sec k := by
  cases id <;> cases k <;> simp_all [State.sec, State.setSec, readAt_writeAt_ne]

/-! ### The stall deadline (R77) -/

@[simp] theorem StallDeadline.expiry_running (e : Clock) : (StallDeadline.mk e true).expiry = some e := rfl

@[simp] theorem StallDeadline.expiry_stopped (e : Clock) : (StallDeadline.mk e false).expiry = none := rfl

/-- A stall deadline is due exactly while its timer runs and its instant has come. -/
theorem due_expiry (now : Clock) (x : StallDeadline) : due now x.expiry = true ↔ x.running = true ∧ reached now x.instant = true := by
  rcases x with ⟨e, _ | _⟩ <;> simp [due]

/-! ### The clock and event times -/

/-- A tick moves the clock alone, and marks its wrapping. -/
@[simp] theorem State.tick_frame (s : State) :
    s.tick.clock = s.clock + 1 ∧ s.tick.wrapped = (s.wrapped || decide (s.clock + 1 = 0))
      ∧ s.tick = { s with clock := s.tick.clock, wrapped := s.tick.wrapped } :=
  ⟨rfl, rfl, rfl⟩

/-- The event time of R43: 0 where a clock that has not wrapped reads less than the age, the arrival time less the age
otherwise. -/
theorem eventTime_cases (wrapped : Bool) (arrival : Clock) (age : Nat) :
    (wrapped = false ∧ arrival.toNat < age ∧ eventTime wrapped arrival age = 0)
      ∨ ((wrapped = true ∨ age ≤ arrival.toNat) ∧ eventTime wrapped arrival age = arrival - BitVec.ofNat 32 age) := by
  unfold eventTime
  split <;> rename_i h <;> simp at h
  · exact .inl ⟨h.1, h.2, rfl⟩
  · refine .inr ⟨?_, rfl⟩
    cases wrapped
    · exact .inr (h rfl)
    · exact .inl rfl

/-! ### Engine control told of a violation -/

/-- Inside a STOP_ENGINE a violation sets its causes and the count, and nothing else: the request's own report comes after. -/
theorem State.tellViolation_inStop (s : State) :
    s.tellViolation true = { s with engine := ⟨s.engine.state, s.causesViolated, s.countFailed⟩ } := rfl

/-- A violation leaves GUARD_VIOLATION set, and every cause that stood but POINT_FAILED, which follows the count. -/
theorem State.causesViolated_has (s : State) :
    s.causesViolated.guardViolation = true ∧ s.causesViolated.command = s.engine.causes.command
      ∧ s.causesViolated.supervision = s.engine.causes.supervision := by
  unfold State.causesViolated EngineControl.causesTold
  split
  · simp [Causes.put]
  · split <;> simp [Causes.put]

end Sys2Proof.Machine
end

