-- ==== Sys2Proof/Laws/Frames.lean ====
section
/-! SUPPORT. What every operation on the state leaves as it was: one lemma per operation, each a conjunction that simp takes apart. The blocks a lemma does not name may change. -/

namespace Sys2Proof.Machine

/-! ### Folds -/

/-- A fold of an operation that keeps `clock` keeps it. -/
@[simp] theorem foldl_clock {α : Type} (f : State → α → State) (h : ∀ a x, (f a x).clock = a.clock) (l : List α) (s : State) :
    (l.foldl f s).clock = s.clock := by
  induction l generalizing s with
  | nil => rfl
  | cons y l ih => simp [ih, h]

/-- A fold of an operation that keeps `straps` keeps it. -/
@[simp] theorem foldl_straps {α : Type} (f : State → α → State) (h : ∀ a x, (f a x).straps = a.straps) (l : List α) (s : State) :
    (l.foldl f s).straps = s.straps := by
  induction l generalizing s with
  | nil => rfl
  | cons y l ih => simp [ih, h]

/-- A fold of an operation that keeps `wrapped` keeps it. -/
@[simp] theorem foldl_wrapped {α : Type} (f : State → α → State) (h : ∀ a x, (f a x).wrapped = a.wrapped) (l : List α) (s : State) :
    (l.foldl f s).wrapped = s.wrapped := by
  induction l generalizing s with
  | nil => rfl
  | cons y l ih => simp [ih, h]

/-- A fold of an operation that keeps `mgmt` keeps it. -/
@[simp] theorem foldl_mgmt {α : Type} (f : State → α → State) (h : ∀ a x, (f a x).mgmt = a.mgmt) (l : List α) (s : State) :
    (l.foldl f s).mgmt = s.mgmt := by
  induction l generalizing s with
  | nil => rfl
  | cons y l ih => simp [ih, h]

/-- A fold of an operation that keeps `tables` keeps it. -/
@[simp] theorem foldl_tables {α : Type} (f : State → α → State) (h : ∀ a x, (f a x).tables = a.tables) (l : List α) (s : State) :
    (l.foldl f s).tables = s.tables := by
  induction l generalizing s with
  | nil => rfl
  | cons y l ih => simp [ih, h]

/-- A fold of an operation that keeps `cutList` keeps it. -/
@[simp] theorem foldl_cutList {α : Type} (f : State → α → State) (h : ∀ a x, (f a x).cutList = a.cutList) (l : List α) (s : State) :
    (l.foldl f s).cutList = s.cutList := by
  induction l generalizing s with
  | nil => rfl
  | cons y l ih => simp [ih, h]

/-- A fold of an operation that keeps `binder` keeps it. -/
@[simp] theorem foldl_binder {α : Type} (f : State → α → State) (h : ∀ a x, (f a x).binder = a.binder) (l : List α) (s : State) :
    (l.foldl f s).binder = s.binder := by
  induction l generalizing s with
  | nil => rfl
  | cons y l ih => simp [ih, h]

/-- A fold of an operation that keeps `sections` keeps it. -/
@[simp] theorem foldl_sections {α : Type} (f : State → α → State) (h : ∀ a x, (f a x).sections = a.sections) (l : List α) (s : State) :
    (l.foldl f s).sections = s.sections := by
  induction l generalizing s with
  | nil => rfl
  | cons y l ih => simp [ih, h]

/-- A fold of an operation that keeps `slots` keeps it. -/
@[simp] theorem foldl_slots {α : Type} (f : State → α → State) (h : ∀ a x, (f a x).slots = a.slots) (l : List α) (s : State) :
    (l.foldl f s).slots = s.slots := by
  induction l generalizing s with
  | nil => rfl
  | cons y l ih => simp [ih, h]

/-- A fold of an operation that keeps `claims` keeps it. -/
@[simp] theorem foldl_claims {α : Type} (f : State → α → State) (h : ∀ a x, (f a x).claims = a.claims) (l : List α) (s : State) :
    (l.foldl f s).claims = s.claims := by
  induction l generalizing s with
  | nil => rfl
  | cons y l ih => simp [ih, h]

/-- A fold of an operation that keeps `signal` keeps it. -/
@[simp] theorem foldl_signal {α : Type} (f : State → α → State) (h : ∀ a x, (f a x).signal = a.signal) (l : List α) (s : State) :
    (l.foldl f s).signal = s.signal := by
  induction l generalizing s with
  | nil => rfl
  | cons y l ih => simp [ih, h]

/-- A fold of an operation that keeps `engine` keeps it. -/
@[simp] theorem foldl_engine {α : Type} (f : State → α → State) (h : ∀ a x, (f a x).engine = a.engine) (l : List α) (s : State) :
    (l.foldl f s).engine = s.engine := by
  induction l generalizing s with
  | nil => rfl
  | cons y l ih => simp [ih, h]

/-- A fold of an operation that keeps `moments` keeps it. -/
@[simp] theorem foldl_moments {α : Type} (f : State → α → State) (h : ∀ a x, (f a x).moments = a.moments) (l : List α) (s : State) :
    (l.foldl f s).moments = s.moments := by
  induction l generalizing s with
  | nil => rfl
  | cons y l ih => simp [ih, h]

/-- A fold of an operation that keeps `pending` keeps it. -/
@[simp] theorem foldl_pending {α : Type} (f : State → α → State) (h : ∀ a x, (f a x).pending = a.pending) (l : List α) (s : State) :
    (l.foldl f s).pending = s.pending := by
  induction l generalizing s with
  | nil => rfl
  | cons y l ih => simp [ih, h]

/-- What `startThrow` leaves as it was. -/
@[simp] theorem State.startThrow_frame (s : State) (c : Throw) :
    (s.startThrow c).clock = s.clock ∧ (s.startThrow c).straps = s.straps ∧ (s.startThrow c).wrapped = s.wrapped ∧
      (s.startThrow c).mgmt = s.mgmt ∧ (s.startThrow c).tables = s.tables ∧ (s.startThrow c).cutList = s.cutList ∧
      (s.startThrow c).binder = s.binder ∧ (s.startThrow c).sections = s.sections ∧
      (s.startThrow c).slots = s.slots ∧ (s.startThrow c).claims = s.claims ∧ (s.startThrow c).signal = s.signal ∧
      (s.startThrow c).engine = s.engine ∧ (s.startThrow c).moments = s.moments ∧
      (s.startThrow c).pending = s.pending := by
  simp only [State.startThrow]
  simp

/-- What `begin` leaves as it was. -/
@[simp] theorem State.begin_frame (s : State) (p : Port) (z0 : Choice) :
    (s.begin p z0).clock = s.clock ∧ (s.begin p z0).straps = s.straps ∧ (s.begin p z0).wrapped = s.wrapped ∧
      (s.begin p z0).mgmt = s.mgmt ∧ (s.begin p z0).tables = s.tables ∧ (s.begin p z0).cutList = s.cutList ∧
      (s.begin p z0).binder = s.binder ∧ (s.begin p z0).sections = s.sections ∧ (s.begin p z0).slots = s.slots ∧
      (s.begin p z0).claims = s.claims ∧ (s.begin p z0).signal = s.signal ∧ (s.begin p z0).engine = s.engine ∧
      (s.begin p z0).moments = s.moments ∧ (s.begin p z0).pending = s.pending := by
  cases z0 <;> simp only [State.begin]
  repeat' split
  all_goals simp

/-- What `select` leaves as it was. -/
@[simp] theorem State.select_frame (s : State) (p : Port) :
    (s.select p).clock = s.clock ∧ (s.select p).straps = s.straps ∧ (s.select p).wrapped = s.wrapped ∧
      (s.select p).mgmt = s.mgmt ∧ (s.select p).tables = s.tables ∧ (s.select p).cutList = s.cutList ∧
      (s.select p).binder = s.binder ∧ (s.select p).sections = s.sections ∧ (s.select p).slots = s.slots ∧
      (s.select p).claims = s.claims ∧ (s.select p).signal = s.signal ∧ (s.select p).engine = s.engine ∧
      (s.select p).moments = s.moments ∧ (s.select p).pending = s.pending := by
  simp only [State.select]
  simp

/-- What `freeBuffer` leaves as it was. -/
@[simp] theorem State.freeBuffer_frame (s : State) (p : Port) :
    (s.freeBuffer p).clock = s.clock ∧ (s.freeBuffer p).straps = s.straps ∧ (s.freeBuffer p).wrapped = s.wrapped ∧
      (s.freeBuffer p).mgmt = s.mgmt ∧ (s.freeBuffer p).tables = s.tables ∧ (s.freeBuffer p).cutList = s.cutList ∧
      (s.freeBuffer p).binder = s.binder ∧ (s.freeBuffer p).sections = s.sections ∧
      (s.freeBuffer p).slots = s.slots ∧ (s.freeBuffer p).claims = s.claims ∧ (s.freeBuffer p).signal = s.signal ∧
      (s.freeBuffer p).engine = s.engine ∧ (s.freeBuffer p).moments = s.moments ∧
      (s.freeBuffer p).pending = s.pending := by
  simp only [State.freeBuffer]
  simp

/-- What `addCredits` leaves as it was. -/
@[simp] theorem State.addCredits_frame (s : State) (p : Port) (n : Nat) :
    (s.addCredits p n).clock = s.clock ∧ (s.addCredits p n).straps = s.straps ∧
      (s.addCredits p n).wrapped = s.wrapped ∧ (s.addCredits p n).mgmt = s.mgmt ∧
      (s.addCredits p n).tables = s.tables ∧ (s.addCredits p n).cutList = s.cutList ∧
      (s.addCredits p n).binder = s.binder ∧ (s.addCredits p n).sections = s.sections ∧
      (s.addCredits p n).slots = s.slots ∧ (s.addCredits p n).claims = s.claims ∧
      (s.addCredits p n).signal = s.signal ∧ (s.addCredits p n).engine = s.engine ∧
      (s.addCredits p n).moments = s.moments ∧ (s.addCredits p n).pending = s.pending := by
  simp only [State.addCredits]
  simp

/-- What `respond` leaves as it was. -/
@[simp] theorem State.respond_frame (s : State) (r : Response) :
    (s.respond r).clock = s.clock ∧ (s.respond r).straps = s.straps ∧ (s.respond r).wrapped = s.wrapped ∧
      (s.respond r).mgmt = s.mgmt ∧ (s.respond r).tables = s.tables ∧ (s.respond r).cutList = s.cutList ∧
      (s.respond r).binder = s.binder ∧ (s.respond r).sections = s.sections ∧ (s.respond r).slots = s.slots ∧
      (s.respond r).claims = s.claims ∧ (s.respond r).signal = s.signal ∧ (s.respond r).engine = s.engine ∧
      (s.respond r).moments = s.moments ∧ (s.respond r).pending = s.pending := by
  simp only [State.respond]
  simp

/-- What `offer` leaves as it was. -/
@[simp] theorem State.offer_frame (s : State) (body : ReportBody) :
    (s.offer body).clock = s.clock ∧ (s.offer body).straps = s.straps ∧ (s.offer body).wrapped = s.wrapped ∧
      (s.offer body).mgmt = s.mgmt ∧ (s.offer body).tables = s.tables ∧ (s.offer body).cutList = s.cutList ∧
      (s.offer body).binder = s.binder ∧ (s.offer body).sections = s.sections ∧ (s.offer body).slots = s.slots ∧
      (s.offer body).claims = s.claims ∧ (s.offer body).signal = s.signal ∧ (s.offer body).engine = s.engine ∧
      (s.offer body).moments = s.moments ∧ (s.offer body).pending = s.pending := by
  simp only [State.offer]
  repeat' split
  all_goals simp

/-- What `writeDemand` leaves as it was. -/
@[simp] theorem State.writeDemand_frame (s : State) :
    (s.writeDemand).clock = s.clock ∧ (s.writeDemand).straps = s.straps ∧ (s.writeDemand).wrapped = s.wrapped ∧
      (s.writeDemand).mgmt = s.mgmt ∧ (s.writeDemand).tables = s.tables ∧ (s.writeDemand).cutList = s.cutList ∧
      (s.writeDemand).binder = s.binder ∧ (s.writeDemand).sections = s.sections ∧ (s.writeDemand).slots = s.slots ∧
      (s.writeDemand).claims = s.claims ∧ (s.writeDemand).engine = s.engine ∧ (s.writeDemand).moments = s.moments ∧
      (s.writeDemand).pending = s.pending := by
  simp only [State.writeDemand]
  repeat' split
  all_goals simp

/-- What `recompute` leaves as it was. -/
@[simp] theorem State.recompute_frame (s : State) :
    (s.recompute).clock = s.clock ∧ (s.recompute).straps = s.straps ∧ (s.recompute).wrapped = s.wrapped ∧
      (s.recompute).mgmt = s.mgmt ∧ (s.recompute).tables = s.tables ∧ (s.recompute).cutList = s.cutList ∧
      (s.recompute).binder = s.binder ∧ (s.recompute).sections = s.sections ∧ (s.recompute).slots = s.slots ∧
      (s.recompute).claims = s.claims ∧ (s.recompute).engine = s.engine ∧ (s.recompute).moments = s.moments ∧
      (s.recompute).pending = s.pending := by
  simp only [State.recompute]
  repeat' split
  all_goals simp

/-- What `reportEngine` leaves as it was. -/
@[simp] theorem State.reportEngine_frame (s : State) (ev : EngineEvent) :
    (s.reportEngine ev).clock = s.clock ∧ (s.reportEngine ev).straps = s.straps ∧
      (s.reportEngine ev).wrapped = s.wrapped ∧ (s.reportEngine ev).mgmt = s.mgmt ∧
      (s.reportEngine ev).tables = s.tables ∧ (s.reportEngine ev).cutList = s.cutList ∧
      (s.reportEngine ev).binder = s.binder ∧ (s.reportEngine ev).sections = s.sections ∧
      (s.reportEngine ev).slots = s.slots ∧ (s.reportEngine ev).claims = s.claims ∧
      (s.reportEngine ev).signal = s.signal ∧ (s.reportEngine ev).engine = s.engine ∧
      (s.reportEngine ev).moments = s.moments ∧ (s.reportEngine ev).pending = s.pending := by
  simp only [State.reportEngine]
  simp

/-- What `changeCauses` leaves as it was. -/
@[simp] theorem State.changeCauses_frame (s : State) (x : Causes) (ev : EngineEvent) :
    (s.changeCauses x ev).clock = s.clock ∧ (s.changeCauses x ev).straps = s.straps ∧
      (s.changeCauses x ev).wrapped = s.wrapped ∧ (s.changeCauses x ev).mgmt = s.mgmt ∧
      (s.changeCauses x ev).tables = s.tables ∧ (s.changeCauses x ev).cutList = s.cutList ∧
      (s.changeCauses x ev).binder = s.binder ∧ (s.changeCauses x ev).sections = s.sections ∧
      (s.changeCauses x ev).slots = s.slots ∧ (s.changeCauses x ev).claims = s.claims ∧
      (s.changeCauses x ev).moments = s.moments ∧ (s.changeCauses x ev).pending = s.pending := by
  simp only [State.changeCauses]
  repeat' split
  all_goals simp

/-- What `setCause` leaves as it was. -/
@[simp] theorem State.setCause_frame (s : State) (c : Cause) :
    (s.setCause c).clock = s.clock ∧ (s.setCause c).straps = s.straps ∧ (s.setCause c).wrapped = s.wrapped ∧
      (s.setCause c).mgmt = s.mgmt ∧ (s.setCause c).tables = s.tables ∧ (s.setCause c).cutList = s.cutList ∧
      (s.setCause c).binder = s.binder ∧ (s.setCause c).sections = s.sections ∧ (s.setCause c).slots = s.slots ∧
      (s.setCause c).claims = s.claims ∧ (s.setCause c).moments = s.moments ∧ (s.setCause c).pending = s.pending := by
  simp only [State.setCause]
  simp

/-- What `clearCause` leaves as it was. -/
@[simp] theorem State.clearCause_frame (s : State) (c : Cause) :
    (s.clearCause c).clock = s.clock ∧ (s.clearCause c).straps = s.straps ∧ (s.clearCause c).wrapped = s.wrapped ∧
      (s.clearCause c).mgmt = s.mgmt ∧ (s.clearCause c).tables = s.tables ∧ (s.clearCause c).cutList = s.cutList ∧
      (s.clearCause c).binder = s.binder ∧ (s.clearCause c).sections = s.sections ∧
      (s.clearCause c).slots = s.slots ∧ (s.clearCause c).claims = s.claims ∧ (s.clearCause c).moments = s.moments ∧
      (s.clearCause c).pending = s.pending := by
  simp only [State.clearCause]
  simp

/-- What `countTold` leaves as it was. -/
@[simp] theorem State.countTold_frame (s : State) :
    (s.countTold).clock = s.clock ∧ (s.countTold).straps = s.straps ∧ (s.countTold).wrapped = s.wrapped ∧
      (s.countTold).mgmt = s.mgmt ∧ (s.countTold).tables = s.tables ∧ (s.countTold).cutList = s.cutList ∧
      (s.countTold).binder = s.binder ∧ (s.countTold).sections = s.sections ∧ (s.countTold).slots = s.slots ∧
      (s.countTold).points = s.points ∧ (s.countTold).claims = s.claims ∧ (s.countTold).signal = s.signal ∧
      (s.countTold).link = s.link ∧ (s.countTold).reports = s.reports ∧ (s.countTold).moments = s.moments ∧
      (s.countTold).pending = s.pending := by
  simp [State.countTold]

/-- What `tellFailed` leaves as it was. -/
@[simp] theorem State.tellFailed_frame (s : State) :
    (s.tellFailed).clock = s.clock ∧ (s.tellFailed).straps = s.straps ∧ (s.tellFailed).wrapped = s.wrapped ∧
      (s.tellFailed).mgmt = s.mgmt ∧ (s.tellFailed).tables = s.tables ∧ (s.tellFailed).cutList = s.cutList ∧
      (s.tellFailed).binder = s.binder ∧ (s.tellFailed).sections = s.sections ∧ (s.tellFailed).slots = s.slots ∧
      (s.tellFailed).claims = s.claims ∧ (s.tellFailed).moments = s.moments ∧ (s.tellFailed).pending = s.pending := by
  simp only [State.tellFailed]
  simp

/-- What `tellViolation` leaves as it was. -/
@[simp] theorem State.tellViolation_frame (s : State) (inStop : Bool) :
    (s.tellViolation inStop).clock = s.clock ∧ (s.tellViolation inStop).straps = s.straps ∧
      (s.tellViolation inStop).wrapped = s.wrapped ∧ (s.tellViolation inStop).mgmt = s.mgmt ∧
      (s.tellViolation inStop).tables = s.tables ∧ (s.tellViolation inStop).cutList = s.cutList ∧
      (s.tellViolation inStop).binder = s.binder ∧ (s.tellViolation inStop).sections = s.sections ∧
      (s.tellViolation inStop).slots = s.slots ∧ (s.tellViolation inStop).claims = s.claims ∧
      (s.tellViolation inStop).moments = s.moments ∧ (s.tellViolation inStop).pending = s.pending := by
  simp only [State.tellViolation]
  split <;> simp

/-- What `enterEngine` leaves as it was. -/
@[simp] theorem State.enterEngine_frame (s : State) (ev : EngineEvent) :
    (s.enterEngine ev).clock = s.clock ∧ (s.enterEngine ev).straps = s.straps ∧
      (s.enterEngine ev).wrapped = s.wrapped ∧ (s.enterEngine ev).mgmt = s.mgmt ∧
      (s.enterEngine ev).tables = s.tables ∧ (s.enterEngine ev).cutList = s.cutList ∧
      (s.enterEngine ev).binder = s.binder ∧ (s.enterEngine ev).sections = s.sections ∧
      (s.enterEngine ev).slots = s.slots ∧ (s.enterEngine ev).claims = s.claims ∧
      (s.enterEngine ev).engine = s.engine ∧ (s.enterEngine ev).moments = s.moments ∧
      (s.enterEngine ev).pending = s.pending := by
  simp only [State.enterEngine]
  simp

/-- What `derive` leaves as it was. -/
@[simp] theorem State.derive_frame (s : State) :
    (s.derive).clock = s.clock ∧ (s.derive).straps = s.straps ∧ (s.derive).wrapped = s.wrapped ∧
      (s.derive).mgmt = s.mgmt ∧ (s.derive).cutList = s.cutList ∧ (s.derive).binder = s.binder ∧
      (s.derive).sections = s.sections ∧ (s.derive).slots = s.slots ∧ (s.derive).claims = s.claims ∧
      (s.derive).signal = s.signal ∧ (s.derive).engine = s.engine ∧ (s.derive).moments = s.moments ∧
      (s.derive).pending = s.pending := by
  simp only [State.derive]
  simp

/-- What `release` leaves as it was. -/
@[simp] theorem State.release_frame (s : State) (i : Nat) :
    (s.release i).clock = s.clock ∧ (s.release i).straps = s.straps ∧ (s.release i).wrapped = s.wrapped ∧
      (s.release i).mgmt = s.mgmt ∧ (s.release i).tables = s.tables ∧ (s.release i).cutList = s.cutList ∧
      (s.release i).binder = s.binder ∧ (s.release i).sections = s.sections ∧ (s.release i).claims = s.claims ∧
      (s.release i).signal = s.signal ∧ (s.release i).engine = s.engine ∧ (s.release i).moments = s.moments ∧
      (s.release i).pending = s.pending := by
  simp only [State.release]
  simp

/-- What `charge` leaves as it was. -/
@[simp] theorem State.charge_frame (s : State) (t n : Nat) :
    (s.charge t n).clock = s.clock ∧ (s.charge t n).straps = s.straps ∧ (s.charge t n).wrapped = s.wrapped ∧
      (s.charge t n).mgmt = s.mgmt ∧ (s.charge t n).cutList = s.cutList ∧ (s.charge t n).binder = s.binder ∧
      (s.charge t n).sections = s.sections ∧ (s.charge t n).slots = s.slots ∧ (s.charge t n).claims = s.claims ∧
      (s.charge t n).signal = s.signal ∧ (s.charge t n).engine = s.engine ∧ (s.charge t n).moments = s.moments ∧
      (s.charge t n).pending = s.pending := by
  simp only [State.charge]
  repeat' split
  all_goals simp

/-- What `candidate` leaves as it was. -/
@[simp] theorem State.candidate_frame (s : State) (r : CutRecord) :
    (s.candidate r).2.clock = s.clock ∧ (s.candidate r).2.straps = s.straps ∧ (s.candidate r).2.wrapped = s.wrapped ∧
      (s.candidate r).2.mgmt = s.mgmt ∧ (s.candidate r).2.cutList = s.cutList ∧ (s.candidate r).2.binder = s.binder ∧
      (s.candidate r).2.sections = s.sections ∧ (s.candidate r).2.slots = s.slots ∧
      (s.candidate r).2.claims = s.claims ∧ (s.candidate r).2.signal = s.signal ∧
      (s.candidate r).2.engine = s.engine ∧ (s.candidate r).2.moments = s.moments ∧
      (s.candidate r).2.pending = s.pending ∧ (s.candidate r).2.points = s.points ∧ (s.candidate r).2.link = s.link ∧
      (s.candidate r).2.reports = s.reports := by
  simp only [State.candidate]
  repeat' split
  all_goals simp

/-- What `joinClaim` leaves as it was. -/
@[simp] theorem State.joinClaim_frame (s : State) (p i : Nat) (want : Option Leg) :
    (s.joinClaim p i want).clock = s.clock ∧ (s.joinClaim p i want).straps = s.straps ∧
      (s.joinClaim p i want).wrapped = s.wrapped ∧ (s.joinClaim p i want).mgmt = s.mgmt ∧
      (s.joinClaim p i want).tables = s.tables ∧ (s.joinClaim p i want).cutList = s.cutList ∧
      (s.joinClaim p i want).binder = s.binder ∧ (s.joinClaim p i want).sections = s.sections ∧
      (s.joinClaim p i want).slots = s.slots ∧ (s.joinClaim p i want).signal = s.signal ∧
      (s.joinClaim p i want).engine = s.engine ∧ (s.joinClaim p i want).moments = s.moments ∧
      (s.joinClaim p i want).pending = s.pending := by
  simp only [State.joinClaim]
  repeat' split
  all_goals simp

/-- What `changeClaim` leaves as it was. -/
@[simp] theorem State.changeClaim_frame (s : State) (p i : Nat) (want : Option Leg) :
    (s.changeClaim p i want).clock = s.clock ∧ (s.changeClaim p i want).straps = s.straps ∧
      (s.changeClaim p i want).wrapped = s.wrapped ∧ (s.changeClaim p i want).mgmt = s.mgmt ∧
      (s.changeClaim p i want).tables = s.tables ∧ (s.changeClaim p i want).cutList = s.cutList ∧
      (s.changeClaim p i want).binder = s.binder ∧ (s.changeClaim p i want).sections = s.sections ∧
      (s.changeClaim p i want).slots = s.slots ∧ (s.changeClaim p i want).signal = s.signal ∧
      (s.changeClaim p i want).engine = s.engine ∧ (s.changeClaim p i want).moments = s.moments ∧
      (s.changeClaim p i want).pending = s.pending := by
  simp only [State.changeClaim]
  simp

/-- What `leaveClaim` leaves as it was. -/
@[simp] theorem State.leaveClaim_frame (s : State) (p i : Nat) :
    (s.leaveClaim p i).clock = s.clock ∧ (s.leaveClaim p i).straps = s.straps ∧
      (s.leaveClaim p i).wrapped = s.wrapped ∧ (s.leaveClaim p i).mgmt = s.mgmt ∧
      (s.leaveClaim p i).tables = s.tables ∧ (s.leaveClaim p i).cutList = s.cutList ∧
      (s.leaveClaim p i).binder = s.binder ∧ (s.leaveClaim p i).sections = s.sections ∧
      (s.leaveClaim p i).slots = s.slots ∧ (s.leaveClaim p i).signal = s.signal ∧
      (s.leaveClaim p i).engine = s.engine ∧ (s.leaveClaim p i).moments = s.moments ∧
      (s.leaveClaim p i).pending = s.pending := by
  simp only [State.leaveClaim]
  simp

/-- What `leaveAll` leaves as it was. -/
@[simp] theorem State.leaveAll_frame (s : State) (i : Nat) :
    (s.leaveAll i).clock = s.clock ∧ (s.leaveAll i).straps = s.straps ∧ (s.leaveAll i).wrapped = s.wrapped ∧
      (s.leaveAll i).mgmt = s.mgmt ∧ (s.leaveAll i).tables = s.tables ∧ (s.leaveAll i).cutList = s.cutList ∧
      (s.leaveAll i).binder = s.binder ∧ (s.leaveAll i).sections = s.sections ∧ (s.leaveAll i).slots = s.slots ∧
      (s.leaveAll i).signal = s.signal ∧ (s.leaveAll i).engine = s.engine ∧ (s.leaveAll i).moments = s.moments ∧
      (s.leaveAll i).pending = s.pending := by
  simp only [State.leaveAll]
  simp

/-- What `dropThrow` leaves as it was. -/
@[simp] theorem State.dropThrow_frame (s : State) (p : Nat) :
    (s.dropThrow p).clock = s.clock ∧ (s.dropThrow p).straps = s.straps ∧ (s.dropThrow p).wrapped = s.wrapped ∧
      (s.dropThrow p).mgmt = s.mgmt ∧ (s.dropThrow p).tables = s.tables ∧ (s.dropThrow p).cutList = s.cutList ∧
      (s.dropThrow p).binder = s.binder ∧ (s.dropThrow p).sections = s.sections ∧ (s.dropThrow p).slots = s.slots ∧
      (s.dropThrow p).claims = s.claims ∧ (s.dropThrow p).signal = s.signal ∧ (s.dropThrow p).engine = s.engine ∧
      (s.dropThrow p).moments = s.moments ∧ (s.dropThrow p).pending = s.pending := by
  simp only [State.dropThrow]
  simp

/-- What `placeThrow` leaves as it was. -/
@[simp] theorem State.placeThrow_frame (s : State) (p : Nat) (leg : Leg) (reason : ThrowReason) :
    (s.placeThrow p leg reason).clock = s.clock ∧ (s.placeThrow p leg reason).straps = s.straps ∧
      (s.placeThrow p leg reason).wrapped = s.wrapped ∧ (s.placeThrow p leg reason).mgmt = s.mgmt ∧
      (s.placeThrow p leg reason).tables = s.tables ∧ (s.placeThrow p leg reason).cutList = s.cutList ∧
      (s.placeThrow p leg reason).binder = s.binder ∧ (s.placeThrow p leg reason).sections = s.sections ∧
      (s.placeThrow p leg reason).slots = s.slots ∧ (s.placeThrow p leg reason).claims = s.claims ∧
      (s.placeThrow p leg reason).signal = s.signal ∧ (s.placeThrow p leg reason).engine = s.engine ∧
      (s.placeThrow p leg reason).moments = s.moments ∧ (s.placeThrow p leg reason).pending = s.pending := by
  simp only [State.placeThrow]
  repeat' split
  all_goals simp

/-- What `evaluateAtRest` leaves as it was. -/
@[simp] theorem State.evaluateAtRest_frame (s : State) (p : Nat) :
    (s.evaluateAtRest p).clock = s.clock ∧ (s.evaluateAtRest p).straps = s.straps ∧
      (s.evaluateAtRest p).wrapped = s.wrapped ∧ (s.evaluateAtRest p).mgmt = s.mgmt ∧
      (s.evaluateAtRest p).tables = s.tables ∧ (s.evaluateAtRest p).cutList = s.cutList ∧
      (s.evaluateAtRest p).binder = s.binder ∧ (s.evaluateAtRest p).sections = s.sections ∧
      (s.evaluateAtRest p).slots = s.slots ∧ (s.evaluateAtRest p).claims = s.claims ∧
      (s.evaluateAtRest p).signal = s.signal ∧ (s.evaluateAtRest p).engine = s.engine ∧
      (s.evaluateAtRest p).moments = s.moments ∧ (s.evaluateAtRest p).pending = s.pending := by
  simp only [State.evaluateAtRest]
  repeat' split
  all_goals simp

/-- What `withdraw` leaves as it was. -/
@[simp] theorem State.withdraw_frame (s : State) (p : Nat) :
    (s.withdraw p).clock = s.clock ∧ (s.withdraw p).straps = s.straps ∧ (s.withdraw p).wrapped = s.wrapped ∧
      (s.withdraw p).mgmt = s.mgmt ∧ (s.withdraw p).tables = s.tables ∧ (s.withdraw p).cutList = s.cutList ∧
      (s.withdraw p).binder = s.binder ∧ (s.withdraw p).sections = s.sections ∧ (s.withdraw p).slots = s.slots ∧
      (s.withdraw p).claims = s.claims ∧ (s.withdraw p).signal = s.signal ∧ (s.withdraw p).engine = s.engine ∧
      (s.withdraw p).moments = s.moments ∧ (s.withdraw p).pending = s.pending := by
  simp only [State.withdraw]
  repeat' split
  all_goals simp

/-- What `reevaluate` leaves as it was. -/
@[simp] theorem State.reevaluate_frame (s : State) (p : Nat) :
    (s.reevaluate p).clock = s.clock ∧ (s.reevaluate p).straps = s.straps ∧ (s.reevaluate p).wrapped = s.wrapped ∧
      (s.reevaluate p).mgmt = s.mgmt ∧ (s.reevaluate p).tables = s.tables ∧ (s.reevaluate p).cutList = s.cutList ∧
      (s.reevaluate p).binder = s.binder ∧ (s.reevaluate p).sections = s.sections ∧
      (s.reevaluate p).slots = s.slots ∧ (s.reevaluate p).claims = s.claims ∧ (s.reevaluate p).signal = s.signal ∧
      (s.reevaluate p).engine = s.engine ∧ (s.reevaluate p).moments = s.moments ∧
      (s.reevaluate p).pending = s.pending := by
  simp only [State.reevaluate]
  repeat' split
  all_goals simp

/-- What `reevaluateAll` leaves as it was. -/
@[simp] theorem State.reevaluateAll_frame (s : State) (points : List Nat) :
    (s.reevaluateAll points).clock = s.clock ∧ (s.reevaluateAll points).straps = s.straps ∧
      (s.reevaluateAll points).wrapped = s.wrapped ∧ (s.reevaluateAll points).mgmt = s.mgmt ∧
      (s.reevaluateAll points).tables = s.tables ∧ (s.reevaluateAll points).cutList = s.cutList ∧
      (s.reevaluateAll points).binder = s.binder ∧ (s.reevaluateAll points).sections = s.sections ∧
      (s.reevaluateAll points).slots = s.slots ∧ (s.reevaluateAll points).claims = s.claims ∧
      (s.reevaluateAll points).signal = s.signal ∧ (s.reevaluateAll points).engine = s.engine ∧
      (s.reevaluateAll points).moments = s.moments ∧ (s.reevaluateAll points).pending = s.pending := by
  simp only [State.reevaluateAll]
  simp

/-- What `withdrawn` leaves as it was. -/
@[simp] theorem State.withdrawn_frame (s : State) (p : Nat) :
    (s.withdrawn p).clock = s.clock ∧ (s.withdrawn p).straps = s.straps ∧ (s.withdrawn p).wrapped = s.wrapped ∧
      (s.withdrawn p).mgmt = s.mgmt ∧ (s.withdrawn p).tables = s.tables ∧ (s.withdrawn p).cutList = s.cutList ∧
      (s.withdrawn p).binder = s.binder ∧ (s.withdrawn p).sections = s.sections ∧ (s.withdrawn p).slots = s.slots ∧
      (s.withdrawn p).claims = s.claims ∧ (s.withdrawn p).signal = s.signal ∧ (s.withdrawn p).engine = s.engine ∧
      (s.withdrawn p).moments = s.moments ∧ (s.withdrawn p).pending = s.pending := by
  simp only [State.withdrawn]
  simp

/-- What `markFailed` leaves as it was. -/
@[simp] theorem State.markFailed_frame (s : State) (p : Nat) (kind : PointFaultKind) :
    (s.markFailed p kind).clock = s.clock ∧ (s.markFailed p kind).straps = s.straps ∧
      (s.markFailed p kind).wrapped = s.wrapped ∧ (s.markFailed p kind).mgmt = s.mgmt ∧
      (s.markFailed p kind).tables = s.tables ∧ (s.markFailed p kind).cutList = s.cutList ∧
      (s.markFailed p kind).binder = s.binder ∧ (s.markFailed p kind).sections = s.sections ∧
      (s.markFailed p kind).slots = s.slots ∧ (s.markFailed p kind).claims = s.claims ∧
      (s.markFailed p kind).moments = s.moments ∧ (s.markFailed p kind).pending = s.pending ∧
      (s.markFailed p kind).signal = s.signal ∧ (s.markFailed p kind).engine = s.engine := by
  simp only [State.markFailed]
  simp

/-- What `failPoint` leaves as it was. -/
@[simp] theorem State.failPoint_frame (s : State) (p : Nat) (kind : PointFaultKind) :
    (s.failPoint p kind).clock = s.clock ∧ (s.failPoint p kind).straps = s.straps ∧
      (s.failPoint p kind).wrapped = s.wrapped ∧ (s.failPoint p kind).mgmt = s.mgmt ∧
      (s.failPoint p kind).tables = s.tables ∧ (s.failPoint p kind).cutList = s.cutList ∧
      (s.failPoint p kind).binder = s.binder ∧ (s.failPoint p kind).sections = s.sections ∧
      (s.failPoint p kind).slots = s.slots ∧ (s.failPoint p kind).claims = s.claims ∧
      (s.failPoint p kind).moments = s.moments ∧ (s.failPoint p kind).pending = s.pending := by
  simp only [State.failPoint]
  simp

/-- What `failReported` leaves as it was. -/
@[simp] theorem State.failReported_frame (s : State) (p : Nat) (kind : PointFaultKind) :
    (s.failReported p kind).clock = s.clock ∧ (s.failReported p kind).straps = s.straps ∧
      (s.failReported p kind).wrapped = s.wrapped ∧ (s.failReported p kind).mgmt = s.mgmt ∧
      (s.failReported p kind).tables = s.tables ∧ (s.failReported p kind).cutList = s.cutList ∧
      (s.failReported p kind).binder = s.binder ∧ (s.failReported p kind).sections = s.sections ∧
      (s.failReported p kind).slots = s.slots ∧ (s.failReported p kind).claims = s.claims ∧
      (s.failReported p kind).moments = s.moments ∧ (s.failReported p kind).pending = s.pending := by
  simp only [State.failReported]
  simp

/-- What `becomeLost` leaves as it was. -/
@[simp] theorem State.becomeLost_frame (s : State) (i : Nat) (cause : LostCause) (reported : Bool) :
    (s.becomeLost i cause reported).clock = s.clock ∧ (s.becomeLost i cause reported).straps = s.straps ∧
      (s.becomeLost i cause reported).wrapped = s.wrapped ∧ (s.becomeLost i cause reported).mgmt = s.mgmt ∧
      (s.becomeLost i cause reported).tables = s.tables ∧ (s.becomeLost i cause reported).cutList = s.cutList ∧
      (s.becomeLost i cause reported).binder = s.binder ∧ (s.becomeLost i cause reported).sections = s.sections ∧
      (s.becomeLost i cause reported).signal = s.signal ∧ (s.becomeLost i cause reported).engine = s.engine ∧
      (s.becomeLost i cause reported).moments = s.moments ∧ (s.becomeLost i cause reported).pending = s.pending := by
  simp only [State.becomeLost]
  repeat' split
  all_goals simp

/-- What `violation` leaves as it was. -/
@[simp] theorem State.violation_frame (s : State) (p : Nat) (entry : Option (Clock × Owner)) (inStop : Bool) :
    (s.violation p entry inStop).clock = s.clock ∧ (s.violation p entry inStop).straps = s.straps ∧
      (s.violation p entry inStop).wrapped = s.wrapped ∧ (s.violation p entry inStop).mgmt = s.mgmt ∧
      (s.violation p entry inStop).tables = s.tables ∧ (s.violation p entry inStop).cutList = s.cutList ∧
      (s.violation p entry inStop).binder = s.binder ∧ (s.violation p entry inStop).sections = s.sections ∧
      (s.violation p entry inStop).moments = s.moments ∧ (s.violation p entry inStop).pending = s.pending := by
  simp only [State.violation]
  simp

/-- What `guardEntry` leaves as it was. -/
@[simp] theorem State.guardEntry_frame (s : State) (p : Nat) (t : Clock) (owner : Owner) :
    (s.guardEntry p t owner).clock = s.clock ∧ (s.guardEntry p t owner).straps = s.straps ∧
      (s.guardEntry p t owner).wrapped = s.wrapped ∧ (s.guardEntry p t owner).mgmt = s.mgmt ∧
      (s.guardEntry p t owner).tables = s.tables ∧ (s.guardEntry p t owner).cutList = s.cutList ∧
      (s.guardEntry p t owner).binder = s.binder ∧ (s.guardEntry p t owner).sections = s.sections ∧
      (s.guardEntry p t owner).moments = s.moments ∧ (s.guardEntry p t owner).pending = s.pending := by
  simp only [State.guardEntry]
  repeat' split
  all_goals simp

/-- What `guardOccupied` leaves as it was. -/
@[simp] theorem State.guardOccupied_frame (s : State) (p : Nat) (inStop : Bool) :
    (s.guardOccupied p inStop).clock = s.clock ∧ (s.guardOccupied p inStop).straps = s.straps ∧
      (s.guardOccupied p inStop).wrapped = s.wrapped ∧ (s.guardOccupied p inStop).mgmt = s.mgmt ∧
      (s.guardOccupied p inStop).tables = s.tables ∧ (s.guardOccupied p inStop).cutList = s.cutList ∧
      (s.guardOccupied p inStop).binder = s.binder ∧ (s.guardOccupied p inStop).sections = s.sections ∧
      (s.guardOccupied p inStop).moments = s.moments ∧ (s.guardOccupied p inStop).pending = s.pending := by
  simp only [State.guardOccupied]
  repeat' split
  all_goals simp

/-- What `guardChange` leaves as it was. -/
@[simp] theorem State.guardChange_frame (s : State) (p : Nat) (before : Bool) :
    (s.guardChange p before).clock = s.clock ∧ (s.guardChange p before).straps = s.straps ∧
      (s.guardChange p before).wrapped = s.wrapped ∧ (s.guardChange p before).mgmt = s.mgmt ∧
      (s.guardChange p before).tables = s.tables ∧ (s.guardChange p before).cutList = s.cutList ∧
      (s.guardChange p before).binder = s.binder ∧ (s.guardChange p before).sections = s.sections ∧
      (s.guardChange p before).moments = s.moments ∧ (s.guardChange p before).pending = s.pending := by
  simp only [State.guardChange]
  repeat' split
  all_goals simp

/-- What `refuseStart` leaves as it was. -/
@[simp] theorem State.refuseStart_frame (s : State) (p : Nat) :
    (s.refuseStart p).clock = s.clock ∧ (s.refuseStart p).straps = s.straps ∧ (s.refuseStart p).wrapped = s.wrapped ∧
      (s.refuseStart p).mgmt = s.mgmt ∧ (s.refuseStart p).tables = s.tables ∧ (s.refuseStart p).cutList = s.cutList ∧
      (s.refuseStart p).binder = s.binder ∧ (s.refuseStart p).sections = s.sections ∧
      (s.refuseStart p).moments = s.moments ∧ (s.refuseStart p).pending = s.pending := by
  simp only [State.refuseStart]
  repeat' split
  all_goals simp

/-- What `selectThrow` leaves as it was. -/
@[simp] theorem State.selectThrow_frame (z0 : Nat) (z1 : State) :
    (z1.selectThrow z0).clock = z1.clock ∧ (z1.selectThrow z0).straps = z1.straps ∧
      (z1.selectThrow z0).wrapped = z1.wrapped ∧ (z1.selectThrow z0).mgmt = z1.mgmt ∧
      (z1.selectThrow z0).tables = z1.tables ∧ (z1.selectThrow z0).cutList = z1.cutList ∧
      (z1.selectThrow z0).binder = z1.binder ∧ (z1.selectThrow z0).sections = z1.sections ∧
      (z1.selectThrow z0).moments = z1.moments ∧ (z1.selectThrow z0).pending = z1.pending := by
  induction z0 generalizing z1 with
  | zero => simp [State.selectThrow]
  | succ n ih =>
    simp only [State.selectThrow]
    split
    · split
      · simp
      · simp [ih]
    · simp

/-- What `selectWaiting` leaves as it was. -/
@[simp] theorem State.selectWaiting_frame (s : State) (p : Port) :
    (s.selectWaiting p).clock = s.clock ∧ (s.selectWaiting p).straps = s.straps ∧
      (s.selectWaiting p).wrapped = s.wrapped ∧ (s.selectWaiting p).mgmt = s.mgmt ∧
      (s.selectWaiting p).tables = s.tables ∧ (s.selectWaiting p).cutList = s.cutList ∧
      (s.selectWaiting p).binder = s.binder ∧ (s.selectWaiting p).sections = s.sections ∧
      (s.selectWaiting p).moments = s.moments ∧ (s.selectWaiting p).pending = s.pending := by
  simp only [State.selectWaiting]
  repeat' split
  all_goals simp

/-- What `faultDecision` leaves as it was. -/
@[simp] theorem State.faultDecision_frame (s : State) (p : Nat) (e : Leg) (kind : PointFaultKind) :
    (s.faultDecision p e kind).clock = s.clock ∧ (s.faultDecision p e kind).straps = s.straps ∧
      (s.faultDecision p e kind).wrapped = s.wrapped ∧ (s.faultDecision p e kind).mgmt = s.mgmt ∧
      (s.faultDecision p e kind).tables = s.tables ∧ (s.faultDecision p e kind).cutList = s.cutList ∧
      (s.faultDecision p e kind).binder = s.binder ∧ (s.faultDecision p e kind).sections = s.sections ∧
      (s.faultDecision p e kind).slots = s.slots ∧ (s.faultDecision p e kind).claims = s.claims ∧
      (s.faultDecision p e kind).moments = s.moments ∧ (s.faultDecision p e kind).pending = s.pending := by
  simp only [State.faultDecision]
  repeat' split
  all_goals simp

/-- What `throwSuccess` leaves as it was. -/
@[simp] theorem State.throwSuccess_frame (s : State) (p : Nat) (e : Leg) (rec : PointRecord) :
    (s.throwSuccess p e rec).clock = s.clock ∧ (s.throwSuccess p e rec).straps = s.straps ∧
      (s.throwSuccess p e rec).wrapped = s.wrapped ∧ (s.throwSuccess p e rec).mgmt = s.mgmt ∧
      (s.throwSuccess p e rec).tables = s.tables ∧ (s.throwSuccess p e rec).cutList = s.cutList ∧
      (s.throwSuccess p e rec).binder = s.binder ∧ (s.throwSuccess p e rec).sections = s.sections ∧
      (s.throwSuccess p e rec).slots = s.slots ∧ (s.throwSuccess p e rec).claims = s.claims ∧
      (s.throwSuccess p e rec).signal = s.signal ∧ (s.throwSuccess p e rec).engine = s.engine ∧
      (s.throwSuccess p e rec).moments = s.moments ∧ (s.throwSuccess p e rec).pending = s.pending := by
  simp only [State.throwSuccess]
  simp

/-- What `statusMoving` leaves as it was. -/
@[simp] theorem State.statusMoving_frame (s : State) (p : Nat) (e : Leg) (rec : PointRecord) (detected : Option Leg)
      (drive : Drive) :
    (s.statusMoving p e rec detected drive).clock = s.clock ∧
      (s.statusMoving p e rec detected drive).straps = s.straps ∧
      (s.statusMoving p e rec detected drive).wrapped = s.wrapped ∧
      (s.statusMoving p e rec detected drive).mgmt = s.mgmt ∧
      (s.statusMoving p e rec detected drive).tables = s.tables ∧
      (s.statusMoving p e rec detected drive).cutList = s.cutList ∧
      (s.statusMoving p e rec detected drive).binder = s.binder ∧
      (s.statusMoving p e rec detected drive).sections = s.sections ∧
      (s.statusMoving p e rec detected drive).slots = s.slots ∧
      (s.statusMoving p e rec detected drive).claims = s.claims ∧
      (s.statusMoving p e rec detected drive).moments = s.moments ∧
      (s.statusMoving p e rec detected drive).pending = s.pending := by
  simp only [State.statusMoving]
  repeat' split
  all_goals simp

/-- What `returnComplete` leaves as it was. -/
@[simp] theorem State.returnComplete_frame (s : State) (p : Nat) (origin : Leg) (rec : PointRecord) :
    (s.returnComplete p origin rec).clock = s.clock ∧ (s.returnComplete p origin rec).straps = s.straps ∧
      (s.returnComplete p origin rec).wrapped = s.wrapped ∧ (s.returnComplete p origin rec).mgmt = s.mgmt ∧
      (s.returnComplete p origin rec).tables = s.tables ∧ (s.returnComplete p origin rec).cutList = s.cutList ∧
      (s.returnComplete p origin rec).binder = s.binder ∧ (s.returnComplete p origin rec).sections = s.sections ∧
      (s.returnComplete p origin rec).slots = s.slots ∧ (s.returnComplete p origin rec).claims = s.claims ∧
      (s.returnComplete p origin rec).signal = s.signal ∧ (s.returnComplete p origin rec).engine = s.engine ∧
      (s.returnComplete p origin rec).moments = s.moments ∧ (s.returnComplete p origin rec).pending = s.pending := by
  simp only [State.returnComplete]
  simp

/-- What `statusReturning` leaves as it was. -/
@[simp] theorem State.statusReturning_frame (s : State) (p : Nat) (origin : Leg) (rec : PointRecord) (detected :
      Option Leg) (drive : Drive) :
    (s.statusReturning p origin rec detected drive).clock = s.clock ∧
      (s.statusReturning p origin rec detected drive).straps = s.straps ∧
      (s.statusReturning p origin rec detected drive).wrapped = s.wrapped ∧
      (s.statusReturning p origin rec detected drive).mgmt = s.mgmt ∧
      (s.statusReturning p origin rec detected drive).tables = s.tables ∧
      (s.statusReturning p origin rec detected drive).cutList = s.cutList ∧
      (s.statusReturning p origin rec detected drive).binder = s.binder ∧
      (s.statusReturning p origin rec detected drive).sections = s.sections ∧
      (s.statusReturning p origin rec detected drive).slots = s.slots ∧
      (s.statusReturning p origin rec detected drive).claims = s.claims ∧
      (s.statusReturning p origin rec detected drive).moments = s.moments ∧
      (s.statusReturning p origin rec detected drive).pending = s.pending := by
  simp only [State.statusReturning]
  repeat' split
  all_goals simp

/-- What `adoptEnd` leaves as it was. -/
@[simp] theorem State.adoptEnd_frame (s : State) (p : Nat) (before adopted : Leg) :
    (s.adoptEnd p before adopted).clock = s.clock ∧ (s.adoptEnd p before adopted).straps = s.straps ∧
      (s.adoptEnd p before adopted).wrapped = s.wrapped ∧ (s.adoptEnd p before adopted).mgmt = s.mgmt ∧
      (s.adoptEnd p before adopted).tables = s.tables ∧ (s.adoptEnd p before adopted).cutList = s.cutList ∧
      (s.adoptEnd p before adopted).binder = s.binder ∧ (s.adoptEnd p before adopted).sections = s.sections ∧
      (s.adoptEnd p before adopted).slots = s.slots ∧ (s.adoptEnd p before adopted).claims = s.claims ∧
      (s.adoptEnd p before adopted).signal = s.signal ∧ (s.adoptEnd p before adopted).engine = s.engine ∧
      (s.adoptEnd p before adopted).moments = s.moments ∧ (s.adoptEnd p before adopted).pending = s.pending := by
  simp only [State.adoptEnd]
  simp

/-- What `deglitchExpired` leaves as it was. -/
@[simp] theorem State.deglitchExpired_frame (s : State) (p : Nat) :
    (s.deglitchExpired p).clock = s.clock ∧ (s.deglitchExpired p).straps = s.straps ∧
      (s.deglitchExpired p).wrapped = s.wrapped ∧ (s.deglitchExpired p).mgmt = s.mgmt ∧
      (s.deglitchExpired p).tables = s.tables ∧ (s.deglitchExpired p).cutList = s.cutList ∧
      (s.deglitchExpired p).binder = s.binder ∧ (s.deglitchExpired p).sections = s.sections ∧
      (s.deglitchExpired p).moments = s.moments ∧ (s.deglitchExpired p).pending = s.pending := by
  simp only [State.deglitchExpired]
  repeat' split
  all_goals simp

/-- What `deglitchStart` leaves as it was. -/
@[simp] theorem State.deglitchStart_frame (s : State) (p deglitch : Nat) :
    (s.deglitchStart p deglitch).clock = s.clock ∧ (s.deglitchStart p deglitch).straps = s.straps ∧
      (s.deglitchStart p deglitch).wrapped = s.wrapped ∧ (s.deglitchStart p deglitch).mgmt = s.mgmt ∧
      (s.deglitchStart p deglitch).tables = s.tables ∧ (s.deglitchStart p deglitch).cutList = s.cutList ∧
      (s.deglitchStart p deglitch).binder = s.binder ∧ (s.deglitchStart p deglitch).sections = s.sections ∧
      (s.deglitchStart p deglitch).moments = s.moments ∧ (s.deglitchStart p deglitch).pending = s.pending := by
  simp only [State.deglitchStart]
  repeat' split
  all_goals simp

/-- What `statusAtRest` leaves as it was. -/
@[simp] theorem State.statusAtRest_frame (s : State) (p : Nat) (e : Leg) (rec : PointRecord) (detected : Option Leg) :
    (s.statusAtRest p e rec detected).clock = s.clock ∧ (s.statusAtRest p e rec detected).straps = s.straps ∧
      (s.statusAtRest p e rec detected).wrapped = s.wrapped ∧ (s.statusAtRest p e rec detected).mgmt = s.mgmt ∧
      (s.statusAtRest p e rec detected).tables = s.tables ∧ (s.statusAtRest p e rec detected).cutList = s.cutList ∧
      (s.statusAtRest p e rec detected).binder = s.binder ∧ (s.statusAtRest p e rec detected).sections = s.sections ∧
      (s.statusAtRest p e rec detected).moments = s.moments ∧ (s.statusAtRest p e rec detected).pending = s.pending := by
  simp only [State.statusAtRest]
  repeat' split
  all_goals simp

/-- What `statusUnknown` leaves as it was. -/
@[simp] theorem State.statusUnknown_frame (s : State) (p : Nat) (z0 : Option Leg) :
    (s.statusUnknown p z0).clock = s.clock ∧ (s.statusUnknown p z0).straps = s.straps ∧
      (s.statusUnknown p z0).wrapped = s.wrapped ∧ (s.statusUnknown p z0).mgmt = s.mgmt ∧
      (s.statusUnknown p z0).tables = s.tables ∧ (s.statusUnknown p z0).cutList = s.cutList ∧
      (s.statusUnknown p z0).binder = s.binder ∧ (s.statusUnknown p z0).sections = s.sections ∧
      (s.statusUnknown p z0).slots = s.slots ∧ (s.statusUnknown p z0).claims = s.claims ∧
      (s.statusUnknown p z0).signal = s.signal ∧ (s.statusUnknown p z0).engine = s.engine ∧
      (s.statusUnknown p z0).moments = s.moments ∧ (s.statusUnknown p z0).pending = s.pending := by
  cases z0 <;> simp only [State.statusUnknown]
  all_goals simp

/-- What `statusTaken` leaves as it was. -/
@[simp] theorem State.statusTaken_frame (s : State) (p : Nat) (rec : PointRecord) (detected : Option Leg) (drive :
      Drive) :
    (s.statusTaken p rec detected drive).clock = s.clock ∧ (s.statusTaken p rec detected drive).straps = s.straps ∧
      (s.statusTaken p rec detected drive).wrapped = s.wrapped ∧ (s.statusTaken p rec detected drive).mgmt = s.mgmt ∧
      (s.statusTaken p rec detected drive).tables = s.tables ∧
      (s.statusTaken p rec detected drive).cutList = s.cutList ∧
      (s.statusTaken p rec detected drive).binder = s.binder ∧
      (s.statusTaken p rec detected drive).sections = s.sections ∧
      (s.statusTaken p rec detected drive).moments = s.moments ∧
      (s.statusTaken p rec detected drive).pending = s.pending := by
  simp only [State.statusTaken]
  repeat' split
  all_goals simp

/-- What `pointStatus` leaves as it was. -/
@[simp] theorem State.pointStatus_frame (s : State) (src p : Nat) (detected : Option Leg) (drive : Drive) :
    (s.pointStatus src p detected drive).clock = s.clock ∧ (s.pointStatus src p detected drive).straps = s.straps ∧
      (s.pointStatus src p detected drive).wrapped = s.wrapped ∧ (s.pointStatus src p detected drive).mgmt = s.mgmt ∧
      (s.pointStatus src p detected drive).tables = s.tables ∧
      (s.pointStatus src p detected drive).cutList = s.cutList ∧
      (s.pointStatus src p detected drive).binder = s.binder ∧
      (s.pointStatus src p detected drive).sections = s.sections ∧
      (s.pointStatus src p detected drive).moments = s.moments ∧
      (s.pointStatus src p detected drive).pending = s.pending := by
  simp only [State.pointStatus]
  repeat' split
  all_goals simp

/-- What `wrongLeg` leaves as it was. -/
@[simp] theorem State.wrongLeg_frame (s : State) (p : Nat) :
    (s.wrongLeg p).clock = s.clock ∧ (s.wrongLeg p).straps = s.straps ∧ (s.wrongLeg p).wrapped = s.wrapped ∧
      (s.wrongLeg p).mgmt = s.mgmt ∧ (s.wrongLeg p).tables = s.tables ∧ (s.wrongLeg p).cutList = s.cutList ∧
      (s.wrongLeg p).binder = s.binder ∧ (s.wrongLeg p).sections = s.sections ∧ (s.wrongLeg p).slots = s.slots ∧
      (s.wrongLeg p).claims = s.claims ∧ (s.wrongLeg p).moments = s.moments ∧ (s.wrongLeg p).pending = s.pending := by
  simp only [State.wrongLeg]
  repeat' split
  all_goals simp

/-- What `alignAt` leaves as it was. -/
@[simp] theorem State.alignAt_frame (s : State) (i : Nat) (x : Slot) (base p : Nat) :
    (s.alignAt i x base p).clock = s.clock ∧ (s.alignAt i x base p).straps = s.straps ∧
      (s.alignAt i x base p).wrapped = s.wrapped ∧ (s.alignAt i x base p).mgmt = s.mgmt ∧
      (s.alignAt i x base p).tables = s.tables ∧ (s.alignAt i x base p).cutList = s.cutList ∧
      (s.alignAt i x base p).binder = s.binder ∧ (s.alignAt i x base p).sections = s.sections ∧
      (s.alignAt i x base p).slots = s.slots ∧ (s.alignAt i x base p).signal = s.signal ∧
      (s.alignAt i x base p).engine = s.engine ∧ (s.alignAt i x base p).moments = s.moments ∧
      (s.alignAt i x base p).pending = s.pending := by
  simp only [State.alignAt]
  repeat' split
  all_goals simp

/-- What `alignClaims` leaves as it was. -/
@[simp] theorem State.alignClaims_frame (s : State) (i base : Nat) :
    (s.alignClaims i base).clock = s.clock ∧ (s.alignClaims i base).straps = s.straps ∧
      (s.alignClaims i base).wrapped = s.wrapped ∧ (s.alignClaims i base).mgmt = s.mgmt ∧
      (s.alignClaims i base).tables = s.tables ∧ (s.alignClaims i base).cutList = s.cutList ∧
      (s.alignClaims i base).binder = s.binder ∧ (s.alignClaims i base).sections = s.sections ∧
      (s.alignClaims i base).slots = s.slots ∧ (s.alignClaims i base).signal = s.signal ∧
      (s.alignClaims i base).engine = s.engine ∧ (s.alignClaims i base).moments = s.moments ∧
      (s.alignClaims i base).pending = s.pending := by
  simp only [State.alignClaims]
  repeat' split
  all_goals simp

/-- What `joinPath` leaves as it was. -/
@[simp] theorem State.joinPath_frame (s : State) (i : Nat) (path : Path) :
    (s.joinPath i path).clock = s.clock ∧ (s.joinPath i path).straps = s.straps ∧
      (s.joinPath i path).wrapped = s.wrapped ∧ (s.joinPath i path).mgmt = s.mgmt ∧
      (s.joinPath i path).tables = s.tables ∧ (s.joinPath i path).cutList = s.cutList ∧
      (s.joinPath i path).binder = s.binder ∧ (s.joinPath i path).sections = s.sections ∧
      (s.joinPath i path).slots = s.slots ∧ (s.joinPath i path).signal = s.signal ∧
      (s.joinPath i path).engine = s.engine ∧ (s.joinPath i path).moments = s.moments ∧
      (s.joinPath i path).pending = s.pending := by
  simp only [State.joinPath]
  simp

/-- What `takeRetarget` leaves as it was. -/
@[simp] theorem State.takeRetarget_frame (s : State) (i p : Nat) (leg : Leg) (result : Retarget) (base : Nat) :
    (s.takeRetarget i p leg result base).clock = s.clock ∧ (s.takeRetarget i p leg result base).straps = s.straps ∧
      (s.takeRetarget i p leg result base).wrapped = s.wrapped ∧ (s.takeRetarget i p leg result base).mgmt = s.mgmt ∧
      (s.takeRetarget i p leg result base).tables = s.tables ∧
      (s.takeRetarget i p leg result base).cutList = s.cutList ∧
      (s.takeRetarget i p leg result base).binder = s.binder ∧
      (s.takeRetarget i p leg result base).sections = s.sections ∧
      (s.takeRetarget i p leg result base).signal = s.signal ∧
      (s.takeRetarget i p leg result base).engine = s.engine ∧
      (s.takeRetarget i p leg result base).moments = s.moments ∧
      (s.takeRetarget i p leg result base).pending = s.pending := by
  simp only [State.takeRetarget]
  repeat' split
  all_goals simp

/-- What `becomeUnresolved` leaves as it was. -/
@[simp] theorem State.becomeUnresolved_frame (s : State) (i p : Nat) :
    (s.becomeUnresolved i p).clock = s.clock ∧ (s.becomeUnresolved i p).straps = s.straps ∧
      (s.becomeUnresolved i p).wrapped = s.wrapped ∧ (s.becomeUnresolved i p).mgmt = s.mgmt ∧
      (s.becomeUnresolved i p).tables = s.tables ∧ (s.becomeUnresolved i p).cutList = s.cutList ∧
      (s.becomeUnresolved i p).binder = s.binder ∧ (s.becomeUnresolved i p).sections = s.sections ∧
      (s.becomeUnresolved i p).signal = s.signal ∧ (s.becomeUnresolved i p).engine = s.engine ∧
      (s.becomeUnresolved i p).moments = s.moments ∧ (s.becomeUnresolved i p).pending = s.pending := by
  simp only [State.becomeUnresolved]
  repeat' split
  all_goals simp

/-- What `cornered` leaves as it was. -/
@[simp] theorem State.cornered_frame (s : State) (i p : Nat) (pathLeg lying : Leg) :
    (s.cornered i p pathLeg lying).clock = s.clock ∧ (s.cornered i p pathLeg lying).straps = s.straps ∧
      (s.cornered i p pathLeg lying).wrapped = s.wrapped ∧ (s.cornered i p pathLeg lying).mgmt = s.mgmt ∧
      (s.cornered i p pathLeg lying).tables = s.tables ∧ (s.cornered i p pathLeg lying).cutList = s.cutList ∧
      (s.cornered i p pathLeg lying).binder = s.binder ∧ (s.cornered i p pathLeg lying).sections = s.sections ∧
      (s.cornered i p pathLeg lying).signal = s.signal ∧ (s.cornered i p pathLeg lying).engine = s.engine ∧
      (s.cornered i p pathLeg lying).moments = s.moments ∧ (s.cornered i p pathLeg lying).pending = s.pending := by
  simp only [State.cornered]
  repeat' split
  all_goals simp

/-- What `settleBy` leaves as it was. -/
@[simp] theorem State.settleBy_frame (s : State) (i p : Nat) (pathLeg : Leg) (z0 : Option Leg) :
    (s.settleBy i p pathLeg z0).clock = s.clock ∧ (s.settleBy i p pathLeg z0).straps = s.straps ∧
      (s.settleBy i p pathLeg z0).wrapped = s.wrapped ∧ (s.settleBy i p pathLeg z0).mgmt = s.mgmt ∧
      (s.settleBy i p pathLeg z0).tables = s.tables ∧ (s.settleBy i p pathLeg z0).cutList = s.cutList ∧
      (s.settleBy i p pathLeg z0).binder = s.binder ∧ (s.settleBy i p pathLeg z0).sections = s.sections ∧
      (s.settleBy i p pathLeg z0).signal = s.signal ∧ (s.settleBy i p pathLeg z0).engine = s.engine ∧
      (s.settleBy i p pathLeg z0).moments = s.moments ∧ (s.settleBy i p pathLeg z0).pending = s.pending := by
  cases z0 <;> simp only [State.settleBy]
  repeat' split
  all_goals simp

/-- What `settleOnPath` leaves as it was. -/
@[simp] theorem State.settleOnPath_frame (s : State) (i p : Nat) (pathLeg : Leg) :
    (s.settleOnPath i p pathLeg).clock = s.clock ∧ (s.settleOnPath i p pathLeg).straps = s.straps ∧
      (s.settleOnPath i p pathLeg).wrapped = s.wrapped ∧ (s.settleOnPath i p pathLeg).mgmt = s.mgmt ∧
      (s.settleOnPath i p pathLeg).tables = s.tables ∧ (s.settleOnPath i p pathLeg).cutList = s.cutList ∧
      (s.settleOnPath i p pathLeg).binder = s.binder ∧ (s.settleOnPath i p pathLeg).sections = s.sections ∧
      (s.settleOnPath i p pathLeg).signal = s.signal ∧ (s.settleOnPath i p pathLeg).engine = s.engine ∧
      (s.settleOnPath i p pathLeg).moments = s.moments ∧ (s.settleOnPath i p pathLeg).pending = s.pending := by
  simp only [State.settleOnPath]
  repeat' split
  all_goals simp

/-- What `settle` leaves as it was. -/
@[simp] theorem State.settle_frame (s : State) (i p : Nat) :
    (s.settle i p).clock = s.clock ∧ (s.settle i p).straps = s.straps ∧ (s.settle i p).wrapped = s.wrapped ∧
      (s.settle i p).mgmt = s.mgmt ∧ (s.settle i p).tables = s.tables ∧ (s.settle i p).cutList = s.cutList ∧
      (s.settle i p).binder = s.binder ∧ (s.settle i p).sections = s.sections ∧ (s.settle i p).signal = s.signal ∧
      (s.settle i p).engine = s.engine ∧ (s.settle i p).moments = s.moments ∧ (s.settle i p).pending = s.pending := by
  simp only [State.settle]
  repeat' split
  all_goals simp

/-- What `misrouted` leaves as it was. -/
@[simp] theorem State.misrouted_frame (s : State) (i p : Nat) (pathLeg observed : Leg) :
    (s.misrouted i p pathLeg observed).clock = s.clock ∧ (s.misrouted i p pathLeg observed).straps = s.straps ∧
      (s.misrouted i p pathLeg observed).wrapped = s.wrapped ∧ (s.misrouted i p pathLeg observed).mgmt = s.mgmt ∧
      (s.misrouted i p pathLeg observed).tables = s.tables ∧ (s.misrouted i p pathLeg observed).cutList = s.cutList ∧
      (s.misrouted i p pathLeg observed).binder = s.binder ∧
      (s.misrouted i p pathLeg observed).sections = s.sections ∧
      (s.misrouted i p pathLeg observed).moments = s.moments ∧ (s.misrouted i p pathLeg observed).pending = s.pending := by
  simp only [State.misrouted]
  repeat' split
  all_goals simp

/-- What `legCheck` leaves as it was. -/
@[simp] theorem State.legCheck_frame (s : State) (i p : Nat) (observed : Leg) :
    (s.legCheck i p observed).clock = s.clock ∧ (s.legCheck i p observed).straps = s.straps ∧
      (s.legCheck i p observed).wrapped = s.wrapped ∧ (s.legCheck i p observed).mgmt = s.mgmt ∧
      (s.legCheck i p observed).tables = s.tables ∧ (s.legCheck i p observed).cutList = s.cutList ∧
      (s.legCheck i p observed).binder = s.binder ∧ (s.legCheck i p observed).sections = s.sections ∧
      (s.legCheck i p observed).moments = s.moments ∧ (s.legCheck i p observed).pending = s.pending := by
  simp only [State.legCheck]
  repeat' split
  all_goals simp

/-- What `divisionCheck` leaves as it was. -/
@[simp] theorem State.divisionCheck_frame (s : State) (i p : Nat) (observed : Leg) :
    (s.divisionCheck i p observed).clock = s.clock ∧ (s.divisionCheck i p observed).straps = s.straps ∧
      (s.divisionCheck i p observed).wrapped = s.wrapped ∧ (s.divisionCheck i p observed).mgmt = s.mgmt ∧
      (s.divisionCheck i p observed).tables = s.tables ∧ (s.divisionCheck i p observed).cutList = s.cutList ∧
      (s.divisionCheck i p observed).binder = s.binder ∧ (s.divisionCheck i p observed).sections = s.sections ∧
      (s.divisionCheck i p observed).signal = s.signal ∧ (s.divisionCheck i p observed).engine = s.engine ∧
      (s.divisionCheck i p observed).moments = s.moments ∧ (s.divisionCheck i p observed).pending = s.pending := by
  simp only [State.divisionCheck]
  repeat' split
  all_goals simp

/-- What `reenter` leaves as it was. -/
@[simp] theorem State.reenter_frame (s : State) (i p : Nat) :
    (s.reenter i p).clock = s.clock ∧ (s.reenter i p).straps = s.straps ∧ (s.reenter i p).wrapped = s.wrapped ∧
      (s.reenter i p).mgmt = s.mgmt ∧ (s.reenter i p).tables = s.tables ∧ (s.reenter i p).cutList = s.cutList ∧
      (s.reenter i p).binder = s.binder ∧ (s.reenter i p).sections = s.sections ∧ (s.reenter i p).signal = s.signal ∧
      (s.reenter i p).engine = s.engine ∧ (s.reenter i p).moments = s.moments ∧ (s.reenter i p).pending = s.pending := by
  simp only [State.reenter]
  repeat' split
  all_goals simp

/-- What `tailTest` leaves as it was. -/
@[simp] theorem State.tailTest_frame (s : State) (i : Nat) :
    (s.tailTest i).clock = s.clock ∧ (s.tailTest i).straps = s.straps ∧ (s.tailTest i).wrapped = s.wrapped ∧
      (s.tailTest i).mgmt = s.mgmt ∧ (s.tailTest i).tables = s.tables ∧ (s.tailTest i).cutList = s.cutList ∧
      (s.tailTest i).binder = s.binder ∧ (s.tailTest i).sections = s.sections ∧ (s.tailTest i).slots = s.slots ∧
      (s.tailTest i).signal = s.signal ∧ (s.tailTest i).engine = s.engine ∧ (s.tailTest i).moments = s.moments ∧
      (s.tailTest i).pending = s.pending := by
  simp only [State.tailTest]
  repeat' split
  all_goals simp

/-- What `freeUp` leaves as it was. -/
@[simp] theorem State.freeUp_frame (s : State) (i : Nat) :
    (s.freeUp i).clock = s.clock ∧ (s.freeUp i).straps = s.straps ∧ (s.freeUp i).wrapped = s.wrapped ∧
      (s.freeUp i).mgmt = s.mgmt ∧ (s.freeUp i).tables = s.tables ∧ (s.freeUp i).cutList = s.cutList ∧
      (s.freeUp i).binder = s.binder ∧ (s.freeUp i).sections = s.sections ∧ (s.freeUp i).claims = s.claims ∧
      (s.freeUp i).engine = s.engine ∧ (s.freeUp i).moments = s.moments ∧ (s.freeUp i).pending = s.pending := by
  simp only [State.freeUp]
  simp

/-- What `clearInto` leaves as it was. -/
@[simp] theorem State.clearInto_frame (s : State) (i t : Nat) (x : Slot) :
    (s.clearInto i t x).clock = s.clock ∧ (s.clearInto i t x).straps = s.straps ∧
      (s.clearInto i t x).wrapped = s.wrapped ∧ (s.clearInto i t x).mgmt = s.mgmt ∧
      (s.clearInto i t x).cutList = s.cutList ∧ (s.clearInto i t x).binder = s.binder ∧
      (s.clearInto i t x).sections = s.sections ∧ (s.clearInto i t x).engine = s.engine ∧
      (s.clearInto i t x).moments = s.moments ∧ (s.clearInto i t x).pending = s.pending := by
  simp only [State.clearInto]
  simp

/-- What `tryClear` leaves as it was. -/
@[simp] theorem State.tryClear_frame (s : State) (i : Nat) :
    (s.tryClear i).clock = s.clock ∧ (s.tryClear i).straps = s.straps ∧ (s.tryClear i).wrapped = s.wrapped ∧
      (s.tryClear i).mgmt = s.mgmt ∧ (s.tryClear i).cutList = s.cutList ∧ (s.tryClear i).binder = s.binder ∧
      (s.tryClear i).sections = s.sections ∧ (s.tryClear i).engine = s.engine ∧ (s.tryClear i).moments = s.moments ∧
      (s.tryClear i).pending = s.pending := by
  simp only [State.tryClear]
  repeat' split
  all_goals simp

/-- What `startClearing` leaves as it was. -/
@[simp] theorem State.startClearing_frame (s : State) (i t : Nat) :
    (s.startClearing i t).clock = s.clock ∧ (s.startClearing i t).straps = s.straps ∧
      (s.startClearing i t).wrapped = s.wrapped ∧ (s.startClearing i t).mgmt = s.mgmt ∧
      (s.startClearing i t).cutList = s.cutList ∧ (s.startClearing i t).binder = s.binder ∧
      (s.startClearing i t).sections = s.sections ∧ (s.startClearing i t).engine = s.engine ∧
      (s.startClearing i t).moments = s.moments ∧ (s.startClearing i t).pending = s.pending := by
  simp only [State.startClearing]
  repeat' split
  all_goals simp

/-- What `clearedAxle` leaves as it was. -/
@[simp] theorem State.clearedAxle_frame (s : State) (i t : Nat) :
    (s.clearedAxle i t).clock = s.clock ∧ (s.clearedAxle i t).straps = s.straps ∧
      (s.clearedAxle i t).wrapped = s.wrapped ∧ (s.clearedAxle i t).mgmt = s.mgmt ∧
      (s.clearedAxle i t).cutList = s.cutList ∧ (s.clearedAxle i t).binder = s.binder ∧
      (s.clearedAxle i t).sections = s.sections ∧ (s.clearedAxle i t).engine = s.engine ∧
      (s.clearedAxle i t).moments = s.moments ∧ (s.clearedAxle i t).pending = s.pending := by
  simp only [State.clearedAxle]
  repeat' split
  all_goals simp

/-- What `roleStep` leaves as it was. -/
@[simp] theorem State.roleStep_frame (s : State) (i : Nat) (lost : Bool) (z0 : Counter) :
    (s.roleStep i lost z0).clock = s.clock ∧ (s.roleStep i lost z0).straps = s.straps ∧
      (s.roleStep i lost z0).wrapped = s.wrapped ∧ (s.roleStep i lost z0).mgmt = s.mgmt ∧
      (s.roleStep i lost z0).cutList = s.cutList ∧ (s.roleStep i lost z0).binder = s.binder ∧
      (s.roleStep i lost z0).sections = s.sections ∧ (s.roleStep i lost z0).moments = s.moments ∧
      (s.roleStep i lost z0).pending = s.pending := by
  cases z0 <;> simp only [State.roleStep]
  repeat' split
  all_goals simp

/-- What `stallExpired` leaves as it was. -/
@[simp] theorem State.stallExpired_frame (s : State) (i : Nat) :
    (s.stallExpired i).clock = s.clock ∧ (s.stallExpired i).straps = s.straps ∧
      (s.stallExpired i).wrapped = s.wrapped ∧ (s.stallExpired i).mgmt = s.mgmt ∧
      (s.stallExpired i).tables = s.tables ∧ (s.stallExpired i).cutList = s.cutList ∧
      (s.stallExpired i).binder = s.binder ∧ (s.stallExpired i).sections = s.sections ∧
      (s.stallExpired i).claims = s.claims ∧ (s.stallExpired i).signal = s.signal ∧
      (s.stallExpired i).engine = s.engine ∧ (s.stallExpired i).moments = s.moments ∧
      (s.stallExpired i).pending = s.pending := by
  simp only [State.stallExpired]
  repeat' split
  all_goals simp

/-- What `stallAtOnce` leaves as it was. -/
@[simp] theorem State.stallAtOnce_frame (s : State) (i : Nat) :
    (s.stallAtOnce i).clock = s.clock ∧ (s.stallAtOnce i).straps = s.straps ∧ (s.stallAtOnce i).wrapped = s.wrapped ∧
      (s.stallAtOnce i).mgmt = s.mgmt ∧ (s.stallAtOnce i).tables = s.tables ∧ (s.stallAtOnce i).cutList = s.cutList ∧
      (s.stallAtOnce i).binder = s.binder ∧ (s.stallAtOnce i).sections = s.sections ∧
      (s.stallAtOnce i).claims = s.claims ∧ (s.stallAtOnce i).signal = s.signal ∧
      (s.stallAtOnce i).engine = s.engine ∧ (s.stallAtOnce i).moments = s.moments ∧
      (s.stallAtOnce i).pending = s.pending := by
  simp only [State.stallAtOnce]
  repeat' split
  all_goals simp

/-- What `headCrossing` leaves as it was. -/
@[simp] theorem State.headCrossing_frame (s : State) (i : Nat) (x : Slot) (c : Counter) (t : Clock) :
    (s.headCrossing i x c t).clock = s.clock ∧ (s.headCrossing i x c t).straps = s.straps ∧
      (s.headCrossing i x c t).wrapped = s.wrapped ∧ (s.headCrossing i x c t).mgmt = s.mgmt ∧
      (s.headCrossing i x c t).cutList = s.cutList ∧ (s.headCrossing i x c t).binder = s.binder ∧
      (s.headCrossing i x c t).sections = s.sections ∧ (s.headCrossing i x c t).moments = s.moments ∧
      (s.headCrossing i x c t).pending = s.pending := by
  simp only [State.headCrossing]
  simp

/-- What `lateral` leaves as it was. -/
@[simp] theorem State.lateral_frame (s : State) (i : Nat) (z0 : Counter) :
    (s.lateral i z0).clock = s.clock ∧ (s.lateral i z0).straps = s.straps ∧ (s.lateral i z0).wrapped = s.wrapped ∧
      (s.lateral i z0).mgmt = s.mgmt ∧ (s.lateral i z0).cutList = s.cutList ∧ (s.lateral i z0).binder = s.binder ∧
      (s.lateral i z0).sections = s.sections ∧ (s.lateral i z0).engine = s.engine ∧
      (s.lateral i z0).moments = s.moments ∧ (s.lateral i z0).pending = s.pending := by
  cases z0 <;> simp only [State.lateral]
  all_goals simp

/-- What `unanchor` leaves as it was. -/
@[simp] theorem State.unanchor_frame (s : State) (i : Nat) :
    (s.unanchor i).clock = s.clock ∧ (s.unanchor i).straps = s.straps ∧ (s.unanchor i).wrapped = s.wrapped ∧
      (s.unanchor i).mgmt = s.mgmt ∧ (s.unanchor i).tables = s.tables ∧ (s.unanchor i).cutList = s.cutList ∧
      (s.unanchor i).binder = s.binder ∧ (s.unanchor i).sections = s.sections ∧ (s.unanchor i).claims = s.claims ∧
      (s.unanchor i).signal = s.signal ∧ (s.unanchor i).engine = s.engine ∧ (s.unanchor i).moments = s.moments ∧
      (s.unanchor i).pending = s.pending := by
  simp only [State.unanchor]
  simp

/-- What `restartGap` leaves as it was. -/
@[simp] theorem State.restartGap_frame (s : State) (t : Clock) :
    (s.restartGap t).clock = s.clock ∧ (s.restartGap t).straps = s.straps ∧ (s.restartGap t).wrapped = s.wrapped ∧
      (s.restartGap t).mgmt = s.mgmt ∧ (s.restartGap t).tables = s.tables ∧ (s.restartGap t).cutList = s.cutList ∧
      (s.restartGap t).sections = s.sections ∧ (s.restartGap t).slots = s.slots ∧
      (s.restartGap t).claims = s.claims ∧ (s.restartGap t).signal = s.signal ∧ (s.restartGap t).engine = s.engine ∧
      (s.restartGap t).moments = s.moments ∧ (s.restartGap t).pending = s.pending := by
  simp only [State.restartGap]
  simp

/-- What `giveSlot` leaves as it was. -/
@[simp] theorem State.giveSlot_frame (s : State) (t : Clock) (i : Nat) (record : Option CutRecord) (expected target :
      Nat) (mark : Bool) :
    (s.giveSlot t i record expected target mark).clock = s.clock ∧
      (s.giveSlot t i record expected target mark).straps = s.straps ∧
      (s.giveSlot t i record expected target mark).wrapped = s.wrapped ∧
      (s.giveSlot t i record expected target mark).mgmt = s.mgmt ∧
      (s.giveSlot t i record expected target mark).tables = s.tables ∧
      (s.giveSlot t i record expected target mark).cutList = s.cutList ∧
      (s.giveSlot t i record expected target mark).sections = s.sections ∧
      (s.giveSlot t i record expected target mark).engine = s.engine ∧
      (s.giveSlot t i record expected target mark).moments = s.moments ∧
      (s.giveSlot t i record expected target mark).pending = s.pending := by
  simp only [State.giveSlot]
  repeat' split
  all_goals simp

/-- What `bindListed` leaves as it was. -/
@[simp] theorem State.bindListed_frame (s : State) (t : Clock) (i : Nat) (r : CutRecord) (rest : List CutRecord) :
    (s.bindListed t i r rest).clock = s.clock ∧ (s.bindListed t i r rest).straps = s.straps ∧
      (s.bindListed t i r rest).wrapped = s.wrapped ∧ (s.bindListed t i r rest).mgmt = s.mgmt ∧
      (s.bindListed t i r rest).sections = s.sections ∧ (s.bindListed t i r rest).engine = s.engine ∧
      (s.bindListed t i r rest).moments = s.moments ∧ (s.bindListed t i r rest).pending = s.pending := by
  simp only [State.bindListed]
  simp

/-- What `bindUnlisted` leaves as it was. -/
@[simp] theorem State.bindUnlisted_frame (s : State) (t : Clock) (i : Nat) :
    (s.bindUnlisted t i).clock = s.clock ∧ (s.bindUnlisted t i).straps = s.straps ∧
      (s.bindUnlisted t i).wrapped = s.wrapped ∧ (s.bindUnlisted t i).mgmt = s.mgmt ∧
      (s.bindUnlisted t i).tables = s.tables ∧ (s.bindUnlisted t i).cutList = s.cutList ∧
      (s.bindUnlisted t i).sections = s.sections ∧ (s.bindUnlisted t i).engine = s.engine ∧
      (s.bindUnlisted t i).moments = s.moments ∧ (s.bindUnlisted t i).pending = s.pending := by
  simp only [State.bindUnlisted]
  simp

/-- What `startUntracked` leaves as it was. -/
@[simp] theorem State.startUntracked_frame (s : State) (t : Clock) :
    (s.startUntracked t).clock = s.clock ∧ (s.startUntracked t).straps = s.straps ∧
      (s.startUntracked t).wrapped = s.wrapped ∧ (s.startUntracked t).mgmt = s.mgmt ∧
      (s.startUntracked t).tables = s.tables ∧ (s.startUntracked t).cutList = s.cutList ∧
      (s.startUntracked t).sections = s.sections ∧ (s.startUntracked t).slots = s.slots ∧
      (s.startUntracked t).claims = s.claims ∧ (s.startUntracked t).signal = s.signal ∧
      (s.startUntracked t).engine = s.engine ∧ (s.startUntracked t).moments = s.moments ∧
      (s.startUntracked t).pending = s.pending := by
  simp only [State.startUntracked]
  simp

/-- What `binderDown` leaves as it was. -/
@[simp] theorem State.binderDown_frame (s : State) (t : Clock) :
    (s.binderDown t).1.clock = s.clock ∧ (s.binderDown t).1.straps = s.straps ∧
      (s.binderDown t).1.wrapped = s.wrapped ∧ (s.binderDown t).1.mgmt = s.mgmt ∧
      (s.binderDown t).1.sections = s.sections ∧ (s.binderDown t).1.engine = s.engine ∧
      (s.binderDown t).1.moments = s.moments ∧ (s.binderDown t).1.pending = s.pending := by
  simp only [State.binderDown]
  repeat' split
  all_goals simp

/-- What `closeSlot` leaves as it was. -/
@[simp] theorem State.closeSlot_frame (s : State) (i : Nat) :
    (s.closeSlot i).clock = s.clock ∧ (s.closeSlot i).straps = s.straps ∧ (s.closeSlot i).wrapped = s.wrapped ∧
      (s.closeSlot i).mgmt = s.mgmt ∧ (s.closeSlot i).tables = s.tables ∧ (s.closeSlot i).cutList = s.cutList ∧
      (s.closeSlot i).binder = s.binder ∧ (s.closeSlot i).sections = s.sections ∧ (s.closeSlot i).claims = s.claims ∧
      (s.closeSlot i).signal = s.signal ∧ (s.closeSlot i).engine = s.engine ∧ (s.closeSlot i).moments = s.moments ∧
      (s.closeSlot i).pending = s.pending := by
  simp only [State.closeSlot]
  repeat' split
  all_goals simp

/-- What `shutBinder` leaves as it was. -/
@[simp] theorem State.shutBinder_frame (s : State) :
    (s.shutBinder).clock = s.clock ∧ (s.shutBinder).straps = s.straps ∧ (s.shutBinder).wrapped = s.wrapped ∧
      (s.shutBinder).mgmt = s.mgmt ∧ (s.shutBinder).tables = s.tables ∧ (s.shutBinder).cutList = s.cutList ∧
      (s.shutBinder).sections = s.sections ∧ (s.shutBinder).slots = s.slots ∧ (s.shutBinder).claims = s.claims ∧
      (s.shutBinder).signal = s.signal ∧ (s.shutBinder).engine = s.engine ∧ (s.shutBinder).moments = s.moments ∧
      (s.shutBinder).pending = s.pending := by
  simp only [State.shutBinder]
  simp

/-- What `closeCut` leaves as it was. -/
@[simp] theorem State.closeCut_frame (s : State) :
    (s.closeCut).clock = s.clock ∧ (s.closeCut).straps = s.straps ∧ (s.closeCut).wrapped = s.wrapped ∧
      (s.closeCut).mgmt = s.mgmt ∧ (s.closeCut).cutList = s.cutList ∧ (s.closeCut).sections = s.sections ∧
      (s.closeCut).engine = s.engine ∧ (s.closeCut).moments = s.moments ∧ (s.closeCut).pending = s.pending := by
  simp only [State.closeCut]
  repeat' split
  all_goals simp

/-- What `capClosure` leaves as it was. -/
@[simp] theorem State.capClosure_frame (s : State) :
    (s.capClosure).clock = s.clock ∧ (s.capClosure).straps = s.straps ∧ (s.capClosure).wrapped = s.wrapped ∧
      (s.capClosure).mgmt = s.mgmt ∧ (s.capClosure).cutList = s.cutList ∧ (s.capClosure).sections = s.sections ∧
      (s.capClosure).engine = s.engine ∧ (s.capClosure).moments = s.moments ∧ (s.capClosure).pending = s.pending := by
  simp only [State.capClosure]
  repeat' split
  all_goals simp

/-- What `gapAtOnce` leaves as it was. -/
@[simp] theorem State.gapAtOnce_frame (s : State) :
    (s.gapAtOnce).clock = s.clock ∧ (s.gapAtOnce).straps = s.straps ∧ (s.gapAtOnce).wrapped = s.wrapped ∧
      (s.gapAtOnce).mgmt = s.mgmt ∧ (s.gapAtOnce).cutList = s.cutList ∧ (s.gapAtOnce).sections = s.sections ∧
      (s.gapAtOnce).engine = s.engine ∧ (s.gapAtOnce).moments = s.moments ∧ (s.gapAtOnce).pending = s.pending := by
  simp only [State.gapAtOnce]
  repeat' split
  all_goals simp

/-- What `returnRecord` leaves as it was. -/
@[simp] theorem State.returnRecord_frame (s : State) (z0 : Option CutRecord) :
    (s.returnRecord z0).clock = s.clock ∧ (s.returnRecord z0).straps = s.straps ∧
      (s.returnRecord z0).wrapped = s.wrapped ∧ (s.returnRecord z0).mgmt = s.mgmt ∧
      (s.returnRecord z0).tables = s.tables ∧ (s.returnRecord z0).binder = s.binder ∧
      (s.returnRecord z0).sections = s.sections ∧ (s.returnRecord z0).slots = s.slots ∧
      (s.returnRecord z0).claims = s.claims ∧ (s.returnRecord z0).engine = s.engine ∧
      (s.returnRecord z0).moments = s.moments ∧ (s.returnRecord z0).pending = s.pending := by
  cases z0 <;> simp only [State.returnRecord]
  repeat' split
  all_goals simp

/-- What `rollBack` leaves as it was. -/
@[simp] theorem State.rollBack_frame (s : State) (i : Nat) (x : Slot) :
    (s.rollBack i x).clock = s.clock ∧ (s.rollBack i x).straps = s.straps ∧ (s.rollBack i x).wrapped = s.wrapped ∧
      (s.rollBack i x).mgmt = s.mgmt ∧ (s.rollBack i x).tables = s.tables ∧ (s.rollBack i x).sections = s.sections ∧
      (s.rollBack i x).engine = s.engine ∧ (s.rollBack i x).moments = s.moments ∧
      (s.rollBack i x).pending = s.pending := by
  simp only [State.rollBack]
  repeat' split
  all_goals simp

/-- What `rollbackTest` leaves as it was. -/
@[simp] theorem State.rollbackTest_frame (s : State) (i : Nat) :
    (s.rollbackTest i).clock = s.clock ∧ (s.rollbackTest i).straps = s.straps ∧
      (s.rollbackTest i).wrapped = s.wrapped ∧ (s.rollbackTest i).mgmt = s.mgmt ∧
      (s.rollbackTest i).tables = s.tables ∧ (s.rollbackTest i).sections = s.sections ∧
      (s.rollbackTest i).engine = s.engine ∧ (s.rollbackTest i).moments = s.moments ∧
      (s.rollbackTest i).pending = s.pending := by
  simp only [State.rollbackTest]
  repeat' split
  all_goals simp

/-- What `countDown` leaves as it was. -/
@[simp] theorem State.countDown_frame (s : State) (i : Nat) :
    (s.countDown i).clock = s.clock ∧ (s.countDown i).straps = s.straps ∧ (s.countDown i).wrapped = s.wrapped ∧
      (s.countDown i).mgmt = s.mgmt ∧ (s.countDown i).tables = s.tables ∧ (s.countDown i).cutList = s.cutList ∧
      (s.countDown i).binder = s.binder ∧ (s.countDown i).sections = s.sections ∧ (s.countDown i).claims = s.claims ∧
      (s.countDown i).signal = s.signal ∧ (s.countDown i).engine = s.engine ∧ (s.countDown i).moments = s.moments ∧
      (s.countDown i).pending = s.pending := by
  simp only [State.countDown]
  simp

/-- What `binderLoses` leaves as it was. -/
@[simp] theorem State.binderLoses_frame (s : State) (i : Nat) :
    (s.binderLoses i).clock = s.clock ∧ (s.binderLoses i).straps = s.straps ∧ (s.binderLoses i).wrapped = s.wrapped ∧
      (s.binderLoses i).mgmt = s.mgmt ∧ (s.binderLoses i).tables = s.tables ∧ (s.binderLoses i).cutList = s.cutList ∧
      (s.binderLoses i).sections = s.sections ∧ (s.binderLoses i).slots = s.slots ∧
      (s.binderLoses i).claims = s.claims ∧ (s.binderLoses i).signal = s.signal ∧
      (s.binderLoses i).engine = s.engine ∧ (s.binderLoses i).moments = s.moments ∧
      (s.binderLoses i).pending = s.pending := by
  simp only [State.binderLoses]
  repeat' split
  all_goals simp

/-- What `disturb` leaves as it was. -/
@[simp] theorem State.disturb_frame (s : State) (id : SectionId) (cause : DisturbCause) (d : Option Nat) (t : Option
      Clock) (owner : Owner) :
    (s.disturb id cause d t owner).clock = s.clock ∧ (s.disturb id cause d t owner).straps = s.straps ∧
      (s.disturb id cause d t owner).wrapped = s.wrapped ∧ (s.disturb id cause d t owner).mgmt = s.mgmt ∧
      (s.disturb id cause d t owner).tables = s.tables ∧ (s.disturb id cause d t owner).cutList = s.cutList ∧
      (s.disturb id cause d t owner).binder = s.binder ∧ (s.disturb id cause d t owner).signal = s.signal ∧
      (s.disturb id cause d t owner).engine = s.engine ∧ (s.disturb id cause d t owner).moments = s.moments ∧
      (s.disturb id cause d t owner).pending = s.pending := by
  simp only [State.disturb]
  repeat' split
  all_goals simp

/-- What `takeAxle` leaves as it was. -/
@[simp] theorem State.takeAxle_frame (s : State) (id : SectionId) (side : Side) (d : Nat) (t : Clock) :
    (s.takeAxle id side d t).1.clock = s.clock ∧ (s.takeAxle id side d t).1.straps = s.straps ∧
      (s.takeAxle id side d t).1.wrapped = s.wrapped ∧ (s.takeAxle id side d t).1.mgmt = s.mgmt ∧
      (s.takeAxle id side d t).1.tables = s.tables ∧ (s.takeAxle id side d t).1.cutList = s.cutList ∧
      (s.takeAxle id side d t).1.binder = s.binder ∧ (s.takeAxle id side d t).1.signal = s.signal ∧
      (s.takeAxle id side d t).1.engine = s.engine ∧ (s.takeAxle id side d t).1.moments = s.moments ∧
      (s.takeAxle id side d t).1.pending = s.pending := by
  simp only [State.takeAxle]
  repeat' split
  all_goals simp

/-- What `enterAxle` leaves as it was. -/
@[simp] theorem State.enterAxle_frame (s : State) (id : SectionId) (side : Side) (owner : Owner) (d : Nat) (t :
      Clock) :
    (s.enterAxle id side owner d t).1.clock = s.clock ∧ (s.enterAxle id side owner d t).1.straps = s.straps ∧
      (s.enterAxle id side owner d t).1.wrapped = s.wrapped ∧ (s.enterAxle id side owner d t).1.mgmt = s.mgmt ∧
      (s.enterAxle id side owner d t).1.tables = s.tables ∧ (s.enterAxle id side owner d t).1.cutList = s.cutList ∧
      (s.enterAxle id side owner d t).1.binder = s.binder ∧ (s.enterAxle id side owner d t).1.signal = s.signal ∧
      (s.enterAxle id side owner d t).1.engine = s.engine ∧ (s.enterAxle id side owner d t).1.moments = s.moments ∧
      (s.enterAxle id side owner d t).1.pending = s.pending := by
  simp only [State.enterAxle]
  repeat' split
  all_goals simp

/-- What `upStep` leaves as it was. -/
@[simp] theorem State.upStep_frame (s : State) (i : Nat) (z0 : Counter) :
    (s.upStep i z0).clock = s.clock ∧ (s.upStep i z0).straps = s.straps ∧ (s.upStep i z0).wrapped = s.wrapped ∧
      (s.upStep i z0).mgmt = s.mgmt ∧ (s.upStep i z0).tables = s.tables ∧ (s.upStep i z0).sections = s.sections ∧
      (s.upStep i z0).engine = s.engine ∧ (s.upStep i z0).moments = s.moments ∧ (s.upStep i z0).pending = s.pending := by
  cases z0 <;> simp only [State.upStep]
  all_goals simp

/-- What `sortCrossing` leaves as it was. -/
@[simp] theorem State.sortCrossing_frame (s : State) (i : Nat) (x : Slot) (c : Counter) (dir : Direction) (t : Clock)
      :
    (s.sortCrossing i x c dir t).clock = s.clock ∧ (s.sortCrossing i x c dir t).straps = s.straps ∧
      (s.sortCrossing i x c dir t).wrapped = s.wrapped ∧ (s.sortCrossing i x c dir t).mgmt = s.mgmt ∧
      (s.sortCrossing i x c dir t).sections = s.sections ∧ (s.sortCrossing i x c dir t).moments = s.moments ∧
      (s.sortCrossing i x c dir t).pending = s.pending := by
  simp only [State.sortCrossing]
  repeat' split
  all_goals simp

/-- What `takeCrossing` leaves as it was. -/
@[simp] theorem State.takeCrossing_frame (s : State) (i : Nat) (c : Counter) (dir : Direction) (t : Clock) (discarded
      : Bool) :
    (s.takeCrossing i c dir t discarded).clock = s.clock ∧ (s.takeCrossing i c dir t discarded).straps = s.straps ∧
      (s.takeCrossing i c dir t discarded).wrapped = s.wrapped ∧ (s.takeCrossing i c dir t discarded).mgmt = s.mgmt ∧
      (s.takeCrossing i c dir t discarded).sections = s.sections ∧
      (s.takeCrossing i c dir t discarded).moments = s.moments ∧
      (s.takeCrossing i c dir t discarded).pending = s.pending := by
  simp only [State.takeCrossing]
  repeat' split
  all_goals simp

/-- What `handOver` leaves as it was. -/
@[simp] theorem State.handOver_frame (s : State) (owner : Owner) (c : Counter) (dir : Direction) (t : Clock)
      (discarded : Bool) :
    (s.handOver owner c dir t discarded).clock = s.clock ∧ (s.handOver owner c dir t discarded).straps = s.straps ∧
      (s.handOver owner c dir t discarded).wrapped = s.wrapped ∧ (s.handOver owner c dir t discarded).mgmt = s.mgmt ∧
      (s.handOver owner c dir t discarded).sections = s.sections ∧
      (s.handOver owner c dir t discarded).moments = s.moments ∧
      (s.handOver owner c dir t discarded).pending = s.pending := by
  simp only [State.handOver]
  repeat' split
  all_goals simp

/-- What `crossBetween` leaves as it was. -/
@[simp] theorem State.crossBetween_frame (s : State) (c : Counter) (u v : SectionId) (dir : Direction) (d : Nat) (t :
      Clock) :
    (s.crossBetween c u v dir d t).1.clock = s.clock ∧ (s.crossBetween c u v dir d t).1.straps = s.straps ∧
      (s.crossBetween c u v dir d t).1.wrapped = s.wrapped ∧ (s.crossBetween c u v dir d t).1.mgmt = s.mgmt ∧
      (s.crossBetween c u v dir d t).1.moments = s.moments ∧ (s.crossBetween c u v dir d t).1.pending = s.pending := by
  simp only [State.crossBetween]
  repeat' split
  all_goals simp

/-- What `guardNotices` leaves as it was. -/
@[simp] theorem State.guardNotices_frame (s : State) (p : Nat) (entry before : Bool) (t : Clock) (owner : Owner) :
    (s.guardNotices p entry before t owner).clock = s.clock ∧
      (s.guardNotices p entry before t owner).straps = s.straps ∧
      (s.guardNotices p entry before t owner).wrapped = s.wrapped ∧
      (s.guardNotices p entry before t owner).mgmt = s.mgmt ∧
      (s.guardNotices p entry before t owner).tables = s.tables ∧
      (s.guardNotices p entry before t owner).cutList = s.cutList ∧
      (s.guardNotices p entry before t owner).binder = s.binder ∧
      (s.guardNotices p entry before t owner).sections = s.sections ∧
      (s.guardNotices p entry before t owner).moments = s.moments ∧
      (s.guardNotices p entry before t owner).pending = s.pending := by
  simp only [State.guardNotices]
  repeat' split
  all_goals simp

/-- What `crossGuard` leaves as it was. -/
@[simp] theorem State.crossGuard_frame (s : State) (p : Nat) (c : Counter) (u v : SectionId) (entry : Bool) (dir :
      Direction) (d : Nat) (t : Clock) :
    (s.crossGuard p c u v entry dir d t).clock = s.clock ∧ (s.crossGuard p c u v entry dir d t).straps = s.straps ∧
      (s.crossGuard p c u v entry dir d t).wrapped = s.wrapped ∧ (s.crossGuard p c u v entry dir d t).mgmt = s.mgmt ∧
      (s.crossGuard p c u v entry dir d t).moments = s.moments ∧
      (s.crossGuard p c u v entry dir d t).pending = s.pending := by
  simp only [State.crossGuard]
  simp

/-- What `crossLeadDown` leaves as it was. -/
@[simp] theorem State.crossLeadDown_frame (s : State) (lead : SectionId) (d : Nat) (t : Clock) :
    (s.crossLeadDown lead d t).clock = s.clock ∧ (s.crossLeadDown lead d t).straps = s.straps ∧
      (s.crossLeadDown lead d t).wrapped = s.wrapped ∧ (s.crossLeadDown lead d t).mgmt = s.mgmt ∧
      (s.crossLeadDown lead d t).moments = s.moments ∧ (s.crossLeadDown lead d t).pending = s.pending := by
  simp only [State.crossLeadDown]
  simp

/-- What `crossLeadUp` leaves as it was. -/
@[simp] theorem State.crossLeadUp_frame (s : State) (lead : SectionId) (d : Nat) (t : Clock) :
    (s.crossLeadUp lead d t).clock = s.clock ∧ (s.crossLeadUp lead d t).straps = s.straps ∧
      (s.crossLeadUp lead d t).wrapped = s.wrapped ∧ (s.crossLeadUp lead d t).mgmt = s.mgmt ∧
      (s.crossLeadUp lead d t).moments = s.moments ∧ (s.crossLeadUp lead d t).pending = s.pending := by
  simp only [State.crossLeadUp]
  repeat' split
  all_goals simp

/-- What `crossClearDown` leaves as it was. -/
@[simp] theorem State.crossClearDown_frame (s : State) (k d : Nat) (t : Clock) :
    (s.crossClearDown k d t).clock = s.clock ∧ (s.crossClearDown k d t).straps = s.straps ∧
      (s.crossClearDown k d t).wrapped = s.wrapped ∧ (s.crossClearDown k d t).mgmt = s.mgmt ∧
      (s.crossClearDown k d t).moments = s.moments ∧ (s.crossClearDown k d t).pending = s.pending := by
  simp only [State.crossClearDown]
  simp

/-- What `crossClearUp` leaves as it was. -/
@[simp] theorem State.crossClearUp_frame (s : State) (k d : Nat) (t : Clock) :
    (s.crossClearUp k d t).clock = s.clock ∧ (s.crossClearUp k d t).straps = s.straps ∧
      (s.crossClearUp k d t).wrapped = s.wrapped ∧ (s.crossClearUp k d t).mgmt = s.mgmt ∧
      (s.crossClearUp k d t).moments = s.moments ∧ (s.crossClearUp k d t).pending = s.pending := by
  simp only [State.crossClearUp]
  repeat' split
  all_goals simp

/-- What `cross` leaves as it was. -/
@[simp] theorem State.cross_frame (s : State) (j : Joint) (dir : Direction) (d : Nat) (t : Clock) :
    (s.cross j dir d t).clock = s.clock ∧ (s.cross j dir d t).straps = s.straps ∧
      (s.cross j dir d t).wrapped = s.wrapped ∧ (s.cross j dir d t).mgmt = s.mgmt ∧
      (s.cross j dir d t).moments = s.moments ∧ (s.cross j dir d t).pending = s.pending := by
  simp only [State.cross]
  repeat' split
  all_goals simp

/-- What `axle` leaves as it was. -/
@[simp] theorem State.axle_frame (s : State) (d : Nat) (dir : Direction) (age : Nat) :
    (s.axle d dir age).clock = s.clock ∧ (s.axle d dir age).straps = s.straps ∧
      (s.axle d dir age).wrapped = s.wrapped ∧ (s.axle d dir age).mgmt = s.mgmt ∧
      (s.axle d dir age).moments = s.moments ∧ (s.axle d dir age).pending = s.pending := by
  simp only [State.axle]
  repeat' split
  all_goals simp

/-- What `tellGuard` leaves as it was. -/
@[simp] theorem State.tellGuard_frame (s : State) (id : SectionId) (before : Bool) :
    (s.tellGuard id before).clock = s.clock ∧ (s.tellGuard id before).straps = s.straps ∧
      (s.tellGuard id before).wrapped = s.wrapped ∧ (s.tellGuard id before).mgmt = s.mgmt ∧
      (s.tellGuard id before).tables = s.tables ∧ (s.tellGuard id before).cutList = s.cutList ∧
      (s.tellGuard id before).binder = s.binder ∧ (s.tellGuard id before).sections = s.sections ∧
      (s.tellGuard id before).moments = s.moments ∧ (s.tellGuard id before).pending = s.pending := by
  simp only [State.tellGuard]
  repeat' split
  all_goals simp

/-- What `restore` leaves as it was. -/
@[simp] theorem State.restore_frame (s : State) (id : SectionId) :
    (s.restore id).clock = s.clock ∧ (s.restore id).straps = s.straps ∧ (s.restore id).wrapped = s.wrapped ∧
      (s.restore id).mgmt = s.mgmt ∧ (s.restore id).tables = s.tables ∧ (s.restore id).cutList = s.cutList ∧
      (s.restore id).binder = s.binder ∧ (s.restore id).moments = s.moments ∧ (s.restore id).pending = s.pending := by
  simp only [State.restore]
  simp

/-- What `cutRuns` leaves as it was. -/
@[simp] theorem State.cutRuns_frame (s : State) (i : Nat) :
    (s.cutRuns i).clock = s.clock ∧ (s.cutRuns i).straps = s.straps ∧ (s.cutRuns i).wrapped = s.wrapped ∧
      (s.cutRuns i).mgmt = s.mgmt ∧ (s.cutRuns i).tables = s.tables ∧ (s.cutRuns i).cutList = s.cutList ∧
      (s.cutRuns i).binder = s.binder ∧ (s.cutRuns i).slots = s.slots ∧ (s.cutRuns i).claims = s.claims ∧
      (s.cutRuns i).signal = s.signal ∧ (s.cutRuns i).engine = s.engine ∧ (s.cutRuns i).moments = s.moments ∧
      (s.cutRuns i).pending = s.pending := by
  simp [State.cutRuns, apply_ite State.clock, apply_ite State.straps, apply_ite State.wrapped, apply_ite State.mgmt, apply_ite State.tables,
      apply_ite State.cutList, apply_ite State.binder, apply_ite State.slots, apply_ite State.claims, apply_ite
      State.signal, apply_ite State.engine, apply_ite State.moments, apply_ite State.pending]

/-- What `removeRuns` leaves as it was. -/
@[simp] theorem State.removeRuns_frame (s : State) (i : Nat) :
    (s.removeRuns i).clock = s.clock ∧ (s.removeRuns i).straps = s.straps ∧ (s.removeRuns i).wrapped = s.wrapped ∧
      (s.removeRuns i).mgmt = s.mgmt ∧ (s.removeRuns i).tables = s.tables ∧ (s.removeRuns i).cutList = s.cutList ∧
      (s.removeRuns i).binder = s.binder ∧ (s.removeRuns i).moments = s.moments ∧
      (s.removeRuns i).pending = s.pending := by
  simp only [State.removeRuns]
  simp

/-- What `lineError` leaves as it was. -/
@[simp] theorem State.lineError_frame (s : State) (p : Port) (cls : ErrorClass) :
    (s.lineError p cls).clock = s.clock ∧ (s.lineError p cls).straps = s.straps ∧
      (s.lineError p cls).wrapped = s.wrapped ∧ (s.lineError p cls).mgmt = s.mgmt ∧
      (s.lineError p cls).tables = s.tables ∧ (s.lineError p cls).cutList = s.cutList ∧
      (s.lineError p cls).binder = s.binder ∧ (s.lineError p cls).sections = s.sections ∧
      (s.lineError p cls).slots = s.slots ∧ (s.lineError p cls).claims = s.claims ∧
      (s.lineError p cls).signal = s.signal ∧ (s.lineError p cls).engine = s.engine ∧
      (s.lineError p cls).moments = s.moments ∧ (s.lineError p cls).pending = s.pending := by
  simp only [State.lineError]
  repeat' split
  all_goals simp

/-- What `keep` leaves as it was. -/
@[simp] theorem State.keep_frame (s : State) (p : Port) (own : Bool) (m : Telegram) :
    (s.keep p own m).clock = s.clock ∧ (s.keep p own m).straps = s.straps ∧ (s.keep p own m).wrapped = s.wrapped ∧
      (s.keep p own m).mgmt = s.mgmt ∧ (s.keep p own m).tables = s.tables ∧ (s.keep p own m).cutList = s.cutList ∧
      (s.keep p own m).binder = s.binder ∧ (s.keep p own m).sections = s.sections ∧
      (s.keep p own m).slots = s.slots ∧ (s.keep p own m).claims = s.claims ∧ (s.keep p own m).signal = s.signal ∧
      (s.keep p own m).engine = s.engine ∧ (s.keep p own m).moments = s.moments ∧
      (s.keep p own m).pending = s.pending := by
  simp only [State.keep]
  simp

/-- What `forward` leaves as it was. -/
@[simp] theorem State.forward_frame (s : State) (m : Telegram) :
    (s.forward m).clock = s.clock ∧ (s.forward m).straps = s.straps ∧ (s.forward m).wrapped = s.wrapped ∧
      (s.forward m).mgmt = s.mgmt ∧ (s.forward m).tables = s.tables ∧ (s.forward m).cutList = s.cutList ∧
      (s.forward m).binder = s.binder ∧ (s.forward m).sections = s.sections ∧ (s.forward m).slots = s.slots ∧
      (s.forward m).claims = s.claims ∧ (s.forward m).signal = s.signal ∧ (s.forward m).engine = s.engine ∧
      (s.forward m).moments = s.moments ∧ (s.forward m).pending = s.pending := by
  simp only [State.forward]
  repeat' split
  all_goals simp

/-- What `consume` leaves as it was. -/
@[simp] theorem State.consume_frame (s : State) (m : Telegram) :
    (s.consume m).clock = s.clock ∧ (s.consume m).straps = s.straps ∧ (s.consume m).wrapped = s.wrapped ∧
      (s.consume m).mgmt = s.mgmt ∧ (s.consume m).moments = s.moments ∧ (s.consume m).pending = s.pending := by
  simp only [State.consume]
  repeat' split
  all_goals simp

/-- What `dropWaiting` leaves as it was. -/
@[simp] theorem State.dropWaiting_frame (s : State) (p : Port) (own : Bool) :
    (s.dropWaiting p own).clock = s.clock ∧ (s.dropWaiting p own).straps = s.straps ∧
      (s.dropWaiting p own).wrapped = s.wrapped ∧ (s.dropWaiting p own).mgmt = s.mgmt ∧
      (s.dropWaiting p own).tables = s.tables ∧ (s.dropWaiting p own).cutList = s.cutList ∧
      (s.dropWaiting p own).binder = s.binder ∧ (s.dropWaiting p own).sections = s.sections ∧
      (s.dropWaiting p own).slots = s.slots ∧ (s.dropWaiting p own).claims = s.claims ∧
      (s.dropWaiting p own).signal = s.signal ∧ (s.dropWaiting p own).engine = s.engine ∧
      (s.dropWaiting p own).moments = s.moments ∧ (s.dropWaiting p own).pending = s.pending := by
  simp only [State.dropWaiting]
  simp

/-- What `movePass` leaves as it was. -/
@[simp] theorem State.movePass_frame (s : State) (p : Port) :
    (s.movePass p).clock = s.clock ∧ (s.movePass p).straps = s.straps ∧ (s.movePass p).wrapped = s.wrapped ∧
      (s.movePass p).mgmt = s.mgmt ∧ (s.movePass p).tables = s.tables ∧ (s.movePass p).cutList = s.cutList ∧
      (s.movePass p).binder = s.binder ∧ (s.movePass p).sections = s.sections ∧ (s.movePass p).slots = s.slots ∧
      (s.movePass p).claims = s.claims ∧ (s.movePass p).signal = s.signal ∧ (s.movePass p).engine = s.engine ∧
      (s.movePass p).moments = s.moments ∧ (s.movePass p).pending = s.pending := by
  simp only [State.movePass]
  repeat' split
  all_goals simp

/-- What `movePasses` leaves as it was. -/
@[simp] theorem State.movePasses_frame (s : State) (p : Port) (n : Nat) :
    (s.movePasses p n).clock = s.clock ∧ (s.movePasses p n).straps = s.straps ∧ (s.movePasses p n).wrapped = s.wrapped ∧
      (s.movePasses p n).mgmt = s.mgmt ∧ (s.movePasses p n).tables = s.tables ∧ (s.movePasses p n).cutList = s.cutList ∧
      (s.movePasses p n).binder = s.binder ∧ (s.movePasses p n).sections = s.sections ∧ (s.movePasses p n).slots = s.slots ∧
      (s.movePasses p n).claims = s.claims ∧ (s.movePasses p n).signal = s.signal ∧ (s.movePasses p n).engine = s.engine ∧
      (s.movePasses p n).moments = s.moments ∧ (s.movePasses p n).pending = s.pending := by
  induction n generalizing s with
  | zero => exact ⟨rfl, rfl, rfl, rfl, rfl, rfl, rfl, rfl, rfl, rfl, rfl, rfl, rfl, rfl⟩
  | succ n ih => simpa [State.movePasses] using ih (s.movePass p)

/-- What `handleEarlier` leaves as it was. -/
@[simp] theorem State.handleEarlier_frame (s : State) (p : Port) :
    (s.handleEarlier p).clock = s.clock ∧ (s.handleEarlier p).straps = s.straps ∧ (s.handleEarlier p).wrapped = s.wrapped ∧
      (s.handleEarlier p).mgmt = s.mgmt ∧ (s.handleEarlier p).tables = s.tables ∧ (s.handleEarlier p).cutList = s.cutList ∧
      (s.handleEarlier p).binder = s.binder ∧ (s.handleEarlier p).sections = s.sections ∧ (s.handleEarlier p).slots = s.slots ∧
      (s.handleEarlier p).claims = s.claims ∧ (s.handleEarlier p).signal = s.signal ∧ (s.handleEarlier p).engine = s.engine ∧
      (s.handleEarlier p).moments = s.moments ∧ (s.handleEarlier p).pending = s.pending :=
  State.movePasses_frame ..

/-- What `classify` leaves as it was. -/
@[simp] theorem State.classify_frame (s : State) (p : Port) (m : Telegram) :
    (s.classify p m).clock = s.clock ∧ (s.classify p m).straps = s.straps ∧ (s.classify p m).wrapped = s.wrapped ∧
      (s.classify p m).mgmt = s.mgmt ∧ (s.classify p m).moments = s.moments ∧ (s.classify p m).pending = s.pending := by
  simp only [State.classify]
  repeat' split
  all_goals simp

/-- What `takeCredits` leaves as it was. -/
@[simp] theorem State.takeCredits_frame (s : State) (p : Port) (n : Nat) :
    (s.takeCredits p n).clock = s.clock ∧ (s.takeCredits p n).straps = s.straps ∧
      (s.takeCredits p n).wrapped = s.wrapped ∧ (s.takeCredits p n).mgmt = s.mgmt ∧
      (s.takeCredits p n).tables = s.tables ∧ (s.takeCredits p n).cutList = s.cutList ∧
      (s.takeCredits p n).binder = s.binder ∧ (s.takeCredits p n).sections = s.sections ∧
      (s.takeCredits p n).moments = s.moments ∧ (s.takeCredits p n).pending = s.pending := by
  simp only [State.takeCredits]
  repeat' split
  all_goals simp

/-- What `receiveFrame` leaves as it was. -/
@[simp] theorem State.receiveFrame_frame (s : State) (p : Port) (beganFull : Bool) (frame : List Byte) :
    (s.receiveFrame p beganFull frame).clock = s.clock ∧ (s.receiveFrame p beganFull frame).straps = s.straps ∧
      (s.receiveFrame p beganFull frame).wrapped = s.wrapped ∧ (s.receiveFrame p beganFull frame).mgmt = s.mgmt ∧
      (s.receiveFrame p beganFull frame).moments = s.moments ∧ (s.receiveFrame p beganFull frame).pending = s.pending := by
  simp only [State.receiveFrame]
  repeat' split
  all_goals simp

/-- What `receive` leaves as it was. -/
@[simp] theorem State.receive_frame (s : State) (p : Port) (beganFull : Bool) (frame : List Byte) :
    (s.receive p beganFull frame).clock = s.clock ∧ (s.receive p beganFull frame).straps = s.straps ∧
      (s.receive p beganFull frame).wrapped = s.wrapped ∧ (s.receive p beganFull frame).mgmt = s.mgmt ∧
      (s.receive p beganFull frame).moments = s.moments ∧ (s.receive p beganFull frame).pending = s.pending := by
  simp [State.receive]

/-- What `endSending` leaves as it was. -/
@[simp] theorem State.endSending_frame (s : State) (p : Port) :
    (s.endSending p).clock = s.clock ∧ (s.endSending p).straps = s.straps ∧ (s.endSending p).wrapped = s.wrapped ∧
      (s.endSending p).mgmt = s.mgmt ∧ (s.endSending p).tables = s.tables ∧ (s.endSending p).cutList = s.cutList ∧
      (s.endSending p).binder = s.binder ∧ (s.endSending p).sections = s.sections ∧
      (s.endSending p).moments = s.moments ∧ (s.endSending p).pending = s.pending := by
  simp only [State.endSending]
  repeat' split
  all_goals simp

/-- What `putPoint` leaves as it was. -/
@[simp] theorem State.putPoint_frame (s : State) (p : Nat) (rec : Option PointRecord) :
    (s.putPoint p rec).clock = s.clock ∧ (s.putPoint p rec).straps = s.straps ∧
      (s.putPoint p rec).wrapped = s.wrapped ∧ (s.putPoint p rec).mgmt = s.mgmt ∧
      (s.putPoint p rec).cutList = s.cutList ∧ (s.putPoint p rec).binder = s.binder ∧
      (s.putPoint p rec).sections = s.sections ∧ (s.putPoint p rec).slots = s.slots ∧
      (s.putPoint p rec).claims = s.claims ∧ (s.putPoint p rec).pending = s.pending := by
  simp only [State.putPoint]
  simp

/-- What `putTrack` leaves as it was. -/
@[simp] theorem State.putTrack_frame (s : State) (t : Nat) (rec : Option TrackRecord) :
    (s.putTrack t rec).clock = s.clock ∧ (s.putTrack t rec).straps = s.straps ∧
      (s.putTrack t rec).wrapped = s.wrapped ∧ (s.putTrack t rec).mgmt = s.mgmt ∧
      (s.putTrack t rec).cutList = s.cutList ∧ (s.putTrack t rec).binder = s.binder ∧
      (s.putTrack t rec).sections = s.sections ∧ (s.putTrack t rec).slots = s.slots ∧
      (s.putTrack t rec).claims = s.claims ∧ (s.putTrack t rec).signal = s.signal ∧
      (s.putTrack t rec).engine = s.engine ∧ (s.putTrack t rec).moments = s.moments ∧
      (s.putTrack t rec).pending = s.pending := by
  simp only [State.putTrack]
  simp

/-- What `afterParameter` leaves as it was. -/
@[simp] theorem State.afterParameter_frame (s : State) (item : Nat) :
    (s.afterParameter item).clock = s.clock ∧ (s.afterParameter item).straps = s.straps ∧
      (s.afterParameter item).wrapped = s.wrapped ∧ (s.afterParameter item).mgmt = s.mgmt ∧
      (s.afterParameter item).tables = s.tables ∧ (s.afterParameter item).cutList = s.cutList ∧
      (s.afterParameter item).binder = s.binder ∧ (s.afterParameter item).sections = s.sections ∧
      (s.afterParameter item).slots = s.slots ∧ (s.afterParameter item).claims = s.claims ∧
      (s.afterParameter item).engine = s.engine ∧ (s.afterParameter item).moments = s.moments ∧
      (s.afterParameter item).pending = s.pending := by
  simp only [State.afterParameter]
  repeat' split
  all_goals simp

/-- What `setCutList` leaves as it was. -/
@[simp] theorem State.setCutList_frame (s : State) (l : List CutRecord) :
    (s.setCutList l).clock = s.clock ∧ (s.setCutList l).straps = s.straps ∧ (s.setCutList l).wrapped = s.wrapped ∧
      (s.setCutList l).mgmt = s.mgmt ∧ (s.setCutList l).tables = s.tables ∧ (s.setCutList l).binder = s.binder ∧
      (s.setCutList l).sections = s.sections ∧ (s.setCutList l).slots = s.slots ∧
      (s.setCutList l).claims = s.claims ∧ (s.setCutList l).engine = s.engine ∧
      (s.setCutList l).moments = s.moments ∧ (s.setCutList l).pending = s.pending := by
  simp only [State.setCutList]
  simp

/-- What `dropSlot` leaves as it was. -/
@[simp] theorem State.dropSlot_frame (s : State) (i : Nat) (x : Slot) :
    (s.dropSlot i x).clock = s.clock ∧ (s.dropSlot i x).straps = s.straps ∧ (s.dropSlot i x).wrapped = s.wrapped ∧
      (s.dropSlot i x).mgmt = s.mgmt ∧ (s.dropSlot i x).tables = s.tables ∧ (s.dropSlot i x).cutList = s.cutList ∧
      (s.dropSlot i x).moments = s.moments ∧ (s.dropSlot i x).pending = s.pending := by
  simp only [State.dropSlot]
  simp

/-- What `setMode` leaves as it was. -/
@[simp] theorem State.setMode_frame (s : State) (p : Nat) (held : Bool) :
    (s.setMode p held).clock = s.clock ∧ (s.setMode p held).straps = s.straps ∧
      (s.setMode p held).wrapped = s.wrapped ∧ (s.setMode p held).mgmt = s.mgmt ∧
      (s.setMode p held).tables = s.tables ∧ (s.setMode p held).cutList = s.cutList ∧
      (s.setMode p held).binder = s.binder ∧ (s.setMode p held).sections = s.sections ∧
      (s.setMode p held).slots = s.slots ∧ (s.setMode p held).claims = s.claims ∧
      (s.setMode p held).signal = s.signal ∧ (s.setMode p held).engine = s.engine ∧
      (s.setMode p held).moments = s.moments ∧ (s.setMode p held).pending = s.pending := by
  simp only [State.setMode]
  simp

/-- What `clearFault` leaves as it was. -/
@[simp] theorem State.clearFault_frame (s : State) (p : Nat) :
    (s.clearFault p).clock = s.clock ∧ (s.clearFault p).straps = s.straps ∧ (s.clearFault p).wrapped = s.wrapped ∧
      (s.clearFault p).mgmt = s.mgmt ∧ (s.clearFault p).tables = s.tables ∧ (s.clearFault p).cutList = s.cutList ∧
      (s.clearFault p).binder = s.binder ∧ (s.clearFault p).sections = s.sections ∧
      (s.clearFault p).slots = s.slots ∧ (s.clearFault p).claims = s.claims ∧ (s.clearFault p).moments = s.moments ∧
      (s.clearFault p).pending = s.pending := by
  simp only [State.clearFault]
  simp

/-- What `startEngine` leaves as it was. -/
@[simp] theorem State.startEngine_frame (s : State) :
    (s.startEngine).clock = s.clock ∧ (s.startEngine).straps = s.straps ∧ (s.startEngine).wrapped = s.wrapped ∧
      (s.startEngine).mgmt = s.mgmt ∧ (s.startEngine).cutList = s.cutList ∧ (s.startEngine).binder = s.binder ∧
      (s.startEngine).sections = s.sections ∧ (s.startEngine).slots = s.slots ∧ (s.startEngine).claims = s.claims ∧
      (s.startEngine).moments = s.moments ∧ (s.startEngine).pending = s.pending := by
  simp only [State.startEngine]
  repeat' split
  all_goals simp

/-- What `haltEngine` leaves as it was. -/
@[simp] theorem State.haltEngine_frame (s : State) :
    (s.haltEngine).clock = s.clock ∧ (s.haltEngine).straps = s.straps ∧ (s.haltEngine).wrapped = s.wrapped ∧
      (s.haltEngine).mgmt = s.mgmt ∧ (s.haltEngine).tables = s.tables ∧ (s.haltEngine).cutList = s.cutList ∧
      (s.haltEngine).moments = s.moments ∧ (s.haltEngine).pending = s.pending := by
  simp only [State.haltEngine]
  simp

/-- What `warmState` leaves as it was. -/
@[simp] theorem State.warmState_frame (s : State) :
    (s.warmState).clock = s.clock ∧ (s.warmState).straps = s.straps ∧ (s.warmState).wrapped = s.wrapped ∧
      (s.warmState).tables = s.tables ∧ (s.warmState).pending = s.pending := by
  simp only [State.warmState]
  simp

/-- What `warmReset` leaves as it was. -/
@[simp] theorem State.warmReset_frame (s : State) :
    (s.warmReset).clock = s.clock ∧ (s.warmReset).straps = s.straps ∧ (s.warmReset).wrapped = s.wrapped ∧
      (s.warmReset).tables = s.tables ∧ (s.warmReset).pending = s.pending := by
  simp only [State.warmReset]
  simp

/-- What `deviceReset` leaves as it was. -/
@[simp] theorem State.deviceReset_frame (s : State) (straps : Byte) :
    (s.deviceReset straps).moments = s.moments ∧ (s.deviceReset straps).pending = s.pending := by
  simp only [State.deviceReset]
  simp

/-- What `gapExpiry` leaves as it was. -/
@[simp] theorem State.gapExpiry_frame (s : State) :
    (s.gapExpiry).clock = s.clock ∧ (s.gapExpiry).straps = s.straps ∧ (s.gapExpiry).wrapped = s.wrapped ∧
      (s.gapExpiry).mgmt = s.mgmt ∧ (s.gapExpiry).cutList = s.cutList ∧ (s.gapExpiry).sections = s.sections ∧
      (s.gapExpiry).engine = s.engine ∧ (s.gapExpiry).moments = s.moments ∧ (s.gapExpiry).pending = s.pending := by
  simp only [State.gapExpiry]
  repeat' split
  all_goals simp

/-- What `stallExpiry` leaves as it was. -/
@[simp] theorem State.stallExpiry_frame (s : State) (i : Nat) :
    (s.stallExpiry i).clock = s.clock ∧ (s.stallExpiry i).straps = s.straps ∧ (s.stallExpiry i).wrapped = s.wrapped ∧
      (s.stallExpiry i).mgmt = s.mgmt ∧ (s.stallExpiry i).tables = s.tables ∧ (s.stallExpiry i).cutList = s.cutList ∧
      (s.stallExpiry i).binder = s.binder ∧ (s.stallExpiry i).sections = s.sections ∧
      (s.stallExpiry i).claims = s.claims ∧ (s.stallExpiry i).signal = s.signal ∧
      (s.stallExpiry i).engine = s.engine ∧ (s.stallExpiry i).moments = s.moments ∧
      (s.stallExpiry i).pending = s.pending := by
  simp only [State.stallExpiry]
  repeat' split
  all_goals simp

/-- What `supervisionFault` leaves as it was. -/
@[simp] theorem State.supervisionFault_frame (s : State) (p : Nat) :
    (s.supervisionFault p).clock = s.clock ∧ (s.supervisionFault p).straps = s.straps ∧
      (s.supervisionFault p).wrapped = s.wrapped ∧ (s.supervisionFault p).mgmt = s.mgmt ∧
      (s.supervisionFault p).tables = s.tables ∧ (s.supervisionFault p).cutList = s.cutList ∧
      (s.supervisionFault p).binder = s.binder ∧ (s.supervisionFault p).sections = s.sections ∧
      (s.supervisionFault p).slots = s.slots ∧ (s.supervisionFault p).claims = s.claims ∧
      (s.supervisionFault p).moments = s.moments ∧ (s.supervisionFault p).pending = s.pending := by
  simp only [State.supervisionFault]
  repeat' split
  all_goals simp

/-- What `supervisionExpiry` leaves as it was. -/
@[simp] theorem State.supervisionExpiry_frame (s : State) (p : Nat) :
    (s.supervisionExpiry p).clock = s.clock ∧ (s.supervisionExpiry p).straps = s.straps ∧
      (s.supervisionExpiry p).wrapped = s.wrapped ∧ (s.supervisionExpiry p).mgmt = s.mgmt ∧
      (s.supervisionExpiry p).tables = s.tables ∧ (s.supervisionExpiry p).cutList = s.cutList ∧
      (s.supervisionExpiry p).binder = s.binder ∧ (s.supervisionExpiry p).sections = s.sections ∧
      (s.supervisionExpiry p).slots = s.slots ∧ (s.supervisionExpiry p).claims = s.claims ∧
      (s.supervisionExpiry p).moments = s.moments ∧ (s.supervisionExpiry p).pending = s.pending := by
  simp only [State.supervisionExpiry]
  repeat' split
  all_goals simp

/-- What `retryOver` leaves as it was. -/
@[simp] theorem State.retryOver_frame (s : State) (p : Nat) :
    (s.retryOver p).clock = s.clock ∧ (s.retryOver p).straps = s.straps ∧ (s.retryOver p).wrapped = s.wrapped ∧
      (s.retryOver p).mgmt = s.mgmt ∧ (s.retryOver p).tables = s.tables ∧ (s.retryOver p).cutList = s.cutList ∧
      (s.retryOver p).binder = s.binder ∧ (s.retryOver p).sections = s.sections ∧ (s.retryOver p).slots = s.slots ∧
      (s.retryOver p).claims = s.claims ∧ (s.retryOver p).signal = s.signal ∧ (s.retryOver p).engine = s.engine ∧
      (s.retryOver p).moments = s.moments ∧ (s.retryOver p).pending = s.pending := by
  simp only [State.retryOver]
  repeat' split
  all_goals simp

/-- What `retryExpiry` leaves as it was. -/
@[simp] theorem State.retryExpiry_frame (s : State) (p : Nat) :
    (s.retryExpiry p).clock = s.clock ∧ (s.retryExpiry p).straps = s.straps ∧ (s.retryExpiry p).wrapped = s.wrapped ∧
      (s.retryExpiry p).mgmt = s.mgmt ∧ (s.retryExpiry p).tables = s.tables ∧ (s.retryExpiry p).cutList = s.cutList ∧
      (s.retryExpiry p).binder = s.binder ∧ (s.retryExpiry p).sections = s.sections ∧
      (s.retryExpiry p).slots = s.slots ∧ (s.retryExpiry p).claims = s.claims ∧ (s.retryExpiry p).signal = s.signal ∧
      (s.retryExpiry p).engine = s.engine ∧ (s.retryExpiry p).moments = s.moments ∧
      (s.retryExpiry p).pending = s.pending := by
  simp only [State.retryExpiry]
  repeat' split
  all_goals simp

/-- What `deglitchExpiry` leaves as it was. -/
@[simp] theorem State.deglitchExpiry_frame (s : State) (p : Nat) :
    (s.deglitchExpiry p).clock = s.clock ∧ (s.deglitchExpiry p).straps = s.straps ∧
      (s.deglitchExpiry p).wrapped = s.wrapped ∧ (s.deglitchExpiry p).mgmt = s.mgmt ∧
      (s.deglitchExpiry p).tables = s.tables ∧ (s.deglitchExpiry p).cutList = s.cutList ∧
      (s.deglitchExpiry p).binder = s.binder ∧ (s.deglitchExpiry p).sections = s.sections ∧
      (s.deglitchExpiry p).moments = s.moments ∧ (s.deglitchExpiry p).pending = s.pending := by
  simp only [State.deglitchExpiry]
  repeat' split
  all_goals simp

/-- What `refreshExpiry` leaves as it was. -/
@[simp] theorem State.refreshExpiry_frame (s : State) :
    (s.refreshExpiry).clock = s.clock ∧ (s.refreshExpiry).straps = s.straps ∧ (s.refreshExpiry).wrapped = s.wrapped ∧
      (s.refreshExpiry).mgmt = s.mgmt ∧ (s.refreshExpiry).tables = s.tables ∧ (s.refreshExpiry).cutList = s.cutList ∧
      (s.refreshExpiry).binder = s.binder ∧ (s.refreshExpiry).sections = s.sections ∧
      (s.refreshExpiry).slots = s.slots ∧ (s.refreshExpiry).claims = s.claims ∧ (s.refreshExpiry).engine = s.engine ∧
      (s.refreshExpiry).moments = s.moments ∧ (s.refreshExpiry).pending = s.pending := by
  simp only [State.refreshExpiry]
  repeat' split
  all_goals simp

/-- What `lapse` leaves as it was. -/
@[simp] theorem State.lapse_frame (s : State) (x : Supervision) :
    (s.lapse x).clock = s.clock ∧ (s.lapse x).straps = s.straps ∧ (s.lapse x).wrapped = s.wrapped ∧
      (s.lapse x).tables = s.tables ∧ (s.lapse x).cutList = s.cutList ∧ (s.lapse x).binder = s.binder ∧
      (s.lapse x).sections = s.sections ∧ (s.lapse x).slots = s.slots ∧ (s.lapse x).claims = s.claims ∧
      (s.lapse x).moments = s.moments ∧ (s.lapse x).pending = s.pending := by
  simp only [State.lapse]
  simp

/-- What `controllerExpiry` leaves as it was. -/
@[simp] theorem State.controllerExpiry_frame (s : State) :
    (s.controllerExpiry).clock = s.clock ∧ (s.controllerExpiry).straps = s.straps ∧
      (s.controllerExpiry).wrapped = s.wrapped ∧ (s.controllerExpiry).tables = s.tables ∧
      (s.controllerExpiry).cutList = s.cutList ∧ (s.controllerExpiry).binder = s.binder ∧
      (s.controllerExpiry).sections = s.sections ∧ (s.controllerExpiry).slots = s.slots ∧
      (s.controllerExpiry).claims = s.claims ∧ (s.controllerExpiry).moments = s.moments ∧
      (s.controllerExpiry).pending = s.pending := by
  simp only [State.controllerExpiry]
  repeat' split
  all_goals simp

end Sys2Proof.Machine
end

