-- ==== Sys2Proof/Laws/Link.lean ====
section
/-! SUPPORT. What a port's selection, a response, a report and the carrying out of a request can do: the frames and the answer, said once. -/

namespace Sys2Proof.Machine

/-! ### Frames compose -/

/-- The start of transmission sets a runtime record once. -/
theorem PointRuntime.started_started (r : PointRuntime) (now : Clock) (T A : Nat) :
    (r.started now T A).started now T A = r.started now T A := by
  cases r with
  | mk state detected drive held learned retries command throwStart lastFault supervision retryTimer deglitchTimer =>
    cases state <;> cases command <;> rfl

/-- The start of transmission keeps the learned throw time. -/
@[simp] theorem PointRuntime.throwTime_started (r : PointRuntime) (now : Clock) (T A p : Nat) :
    (r.started now T A).throwTime p = r.throwTime p := rfl

/-- Nothing happening is a selection's frame. -/
theorem OnlySends.refl (s : State) : OnlySends s s where
  clock := rfl
  straps := rfl
  wrapped := rfl
  mgmt := rfl
  tables := rfl
  cutList := rfl
  binder := rfl
  sections := rfl
  slots := rfl
  claims := rfl
  signal := rfl
  engine := rfl
  moments := rfl
  pending := rfl
  points := fun _ => .inl rfl

/-- A state that differs in the link interface and the report queue alone. -/
theorem OnlySends.of_eq {s t : State} (h : t = { s with link := t.link, reports := t.reports }) : OnlySends s t := by
  rw [h]
  exact { (OnlySends.refl s) with }

/-- Two selections after one another. -/
theorem OnlySends.trans {s t u : State} (h : OnlySends s t) (k : OnlySends t u) : OnlySends s u where
  clock := k.clock.trans h.clock
  straps := k.straps.trans h.straps
  wrapped := k.wrapped.trans h.wrapped
  mgmt := k.mgmt.trans h.mgmt
  tables := k.tables.trans h.tables
  cutList := k.cutList.trans h.cutList
  binder := k.binder.trans h.binder
  sections := k.sections.trans h.sections
  slots := k.slots.trans h.slots
  claims := k.claims.trans h.claims
  signal := k.signal.trans h.signal
  engine := k.engine.trans h.engine
  moments := k.moments.trans h.moments
  pending := k.pending.trans h.pending
  points := by
    intro p
    have hk := k.points p
    have hh := h.points p
    rw [h.clock, h.tables] at hk
    rcases hh with e | e <;> rw [e] at hk
    · exact hk
    · right
      rcases hk with f | f
      · exact f
      · rw [f, PointRuntime.throwTime_started, PointRuntime.started_started]

/-! ### Selection -/

/-- A start of transmission of a THROW changes its point alone. -/
theorem State.startThrow_onlySends (s : State) (c : Throw) : OnlySends s (s.startThrow c) where
  clock := by simp
  straps := by simp
  wrapped := by simp
  mgmt := by simp
  tables := by simp
  cutList := by simp
  binder := by simp
  sections := by simp
  slots := by simp
  claims := by simp
  signal := by simp
  engine := by simp
  moments := by simp
  pending := by simp
  points := by
    intro p
    have e : (s.startThrow c).pt p
        = (s.setPt c.point ((s.pt c.point).started s.clock ((s.pt c.point).throwTime c.point)
            s.tables.params.allowance)).pt p := by
      simp [State.pt, State.startThrow]
    rw [e]
    by_cases h : p = c.point
    · subst h
      by_cases hr : 1 ≤ c.point ∧ c.point ≤ 63
      · exact .inr (State.pt_setPt_self _ _ _ hr)
      · left
        simp [State.pt, State.setPt, writeAt_outside _ _ hr]
    · exact .inl (State.pt_setPt_ne _ _ h)

/-- A selection only sends. -/
theorem State.begin_onlySends (s : State) (p : Port) (c : Choice) : OnlySends s (s.begin p c) := by
  cases c with
  | nothing => exact .refl s
  | throw c =>
    simp only [State.begin]
    split
    · exact s.startThrow_onlySends c
    · exact .refl s
  | fill => cases p <;> exact .of_eq rfl
  | signal m => cases p <;> exact .of_eq rfl
  | response r => cases p <;> exact .of_eq rfl
  | report r => cases p <;> exact .of_eq rfl
  | pass m => cases p <;> exact .of_eq rfl

/-- A selection only sends. -/
theorem State.select_onlySends (s : State) (p : Port) : OnlySends s (s.select p) := s.begin_onlySends p _

/-- A freed buffer lets a port send, and does nothing else. -/
theorem State.freeBuffer_onlySends (s : State) (p : Port) : OnlySends s (s.freeBuffer p) :=
  .trans (by cases p <;> exact .of_eq rfl) (State.select_onlySends _ p)

/-- A response placed lets a port send, and does nothing else. -/
theorem State.respond_onlySends (s : State) (r : Response) : OnlySends s (s.respond r) :=
  .trans (.of_eq rfl) (State.select_onlySends _ r.port)

/-- A report offered lets Port Y send, and does nothing else. -/
theorem State.offer_onlySends (s : State) (b : ReportBody) : OnlySends s (s.offer b) := by
  simp only [State.offer]
  split
  · exact .refl s
  · exact .trans (.of_eq rfl) (State.select_onlySends _ .y)

/-- A telegram taken out of a receive buffer does nothing else. -/
theorem State.dropWaiting_onlySends (s : State) (p : Port) (own : Bool) : OnlySends s (s.dropWaiting p own) := by
  cases p <;> exact .of_eq rfl

/-! ### Receive buffers -/

/-- A selection leaves the telegrams in the receive buffers. -/
@[simp] theorem State.begin_waiting (s : State) (p k : Port) (c : Choice) :
    ((s.begin p c).port k).waiting = (s.port k).waiting := by
  cases c <;> cases p <;> cases k <;> simp only [State.begin, State.startThrow] <;> (try split) <;> rfl

/-- A selection leaves the telegrams in the receive buffers. -/
@[simp] theorem State.select_waiting (s : State) (p k : Port) : ((s.select p).port k).waiting = (s.port k).waiting :=
  s.begin_waiting p k _

/-- A freed buffer is one whose telegram has left already. -/
@[simp] theorem State.freeBuffer_waiting (s : State) (p k : Port) :
    ((s.freeBuffer p).port k).waiting = (s.port k).waiting := by
  simp only [State.freeBuffer, State.select_waiting]
  cases p <;> cases k <;> rfl

/-- A response leaves the telegrams in the receive buffers. -/
@[simp] theorem State.respond_waiting (s : State) (r : Response) (k : Port) :
    ((s.respond r).port k).waiting = (s.port k).waiting := by
  simp only [State.respond, State.select_waiting]
  cases k <;> rfl

/-- A report leaves the telegrams in the receive buffers. -/
@[simp] theorem State.offer_waiting (s : State) (b : ReportBody) (k : Port) :
    ((s.offer b).port k).waiting = (s.port k).waiting := by
  simp only [State.offer]
  split
  · rfl
  · simp only [State.select_waiting]
    cases k <;> rfl

/-! ### The response queue -/

/-- The own class that gives a response gives the oldest one of the port. -/
theorem State.ownChoice_response (s : State) (p : Port) (r : Response) (h : s.ownChoice p = some (.response r)) :
    s.responseFor p = some r := by
  unfold State.ownChoice at h
  cases p <;> simp only at h <;> repeat' split at h
  all_goals simp_all

/-- A selection of a response is made on an idle port, of its oldest response. -/
theorem State.choice_response (s : State) (p : Port) (r : Response) (h : s.choice p = .response r) :
    s.responseFor p = some r ∧ (s.port p).sending = none := by
  simp only [State.choice] at h
  repeat' split at h
  all_goals first
    | exact absurd h (by simp)
    | exact ⟨s.ownChoice_response p r (by simp_all), by simp_all⟩

/-- What a selection can do to the response queue: nothing, or the oldest response of its port begins. -/
theorem State.select_responses (s : State) (p : Port) :
    (s.select p).link.responses = s.link.responses
      ∨ ∃ r, s.responseFor p = some r ∧ (s.port p).sending = none
          ∧ (s.select p).link.responses = s.link.responses.eraseP (fun x => decide (x.port = p))
          ∧ ∃ x, ((s.select p).port p).sending = some x ∧ x.dest = r.dest ∧ x.body = .response r := by
  unfold State.select
  cases h : s.choice p with
  | response r =>
    right
    obtain ⟨h1, h2⟩ := s.choice_response p r h
    refine ⟨r, h1, h2, ?_, ?_⟩
    · cases p <;> rfl
    · cases p <;> exact ⟨_, rfl, rfl, rfl⟩
  | throw c =>
    left
    simp only [State.begin]
    split <;> rfl
  | nothing => exact .inl rfl
  | fill => left; cases p <;> rfl
  | signal m => left; cases p <;> rfl
  | report r => left; cases p <;> rfl
  | pass m => left; cases p <;> rfl

end Sys2Proof.Machine
end

