-- ==== Sys2Proof/Laws/PerInstr.lean ====
section
/-! SUPPORT. Facts of a command as syntax, one lemma per constructor. -/

namespace Sys2Proof.Laws.ControllerCode
open Sys2Proof Sys2Proof.Machine

/-- The code under which a command is carried out as a controller-only request is a controller-only code of 9.2. -/
def Statement (i : Instr) : Prop := ∀ q code, i.controllerRequest = some (q, code) → code.controllerOnly = true

/-- A command that is no controller-only request. -/
theorem of_none {i : Instr} (h : i.controllerRequest = none) : Statement i := fun q code g => by
  rw [h] at g
  cases g

/-- A command that is one, of a controller-only code. -/
theorem of_some {i : Instr} {q : Req} {code : RequestCode} (h : i.controllerRequest = some (q, code))
    (hc : code.controllerOnly = true) : Statement i := fun q' code' g => by
  rw [h] at g
  cases g
  exact hc

theorem deviceReset (straps : Byte) : Statement (.deviceReset straps) := of_none rfl
theorem telegramReceived (port : Port) (beganFull : Bool) (frame : List Byte) : Statement (.telegramReceived port beganFull frame) := of_none rfl
theorem passTelegramMove (port : Port) : Statement (.passTelegramMove port) := of_none rfl
theorem unknownRequest (q : Req) (code : RequestCode) : Statement (.unknownRequest q code) := of_none rfl
theorem statusRead (q : Req) (part : Nat) : Statement (.statusRead q part) := of_none rfl
theorem tableRead (q : Req) (entry : TableEntry) (part : Nat) : Statement (.tableRead q entry part) := of_none rfl
theorem cutListRead (q : Req) (first : Nat) : Statement (.cutListRead q first) := of_none rfl
theorem slotRead (q : Req) (slot part first : Nat) : Statement (.slotRead q slot part first) := of_none rfl
theorem sectionRead (q : Req) (sec : Option SectionId) (part : Nat) : Statement (.sectionRead q sec part) := of_none rfl
theorem pointRead (q : Req) (point part first : Nat) : Statement (.pointRead q point part first) := of_none rfl
theorem linkRead (q : Req) (part first : Nat) : Statement (.linkRead q part first) := of_none rfl
theorem claimControl (q : Req) : Statement (.claimControl q) := of_none rfl
theorem releaseControl (q : Req) : Statement (.releaseControl q) := of_some rfl rfl
theorem tableWritePoint (q : Req) (index : Nat) (fields : PointFields) : Statement (.tableWritePoint q index fields) := of_some rfl rfl
theorem tableWritePointRemove (q : Req) (index : Nat) : Statement (.tableWritePointRemove q index) := of_some rfl rfl
theorem tableWriteTrack (q : Req) (index : Nat) (fields : TrackFields) : Statement (.tableWriteTrack q index fields) := of_some rfl rfl
theorem tableWriteTrackRegister (q : Req) (index : Nat) (fields : RegisterFields) : Statement (.tableWriteTrackRegister q index fields) := of_some rfl rfl
theorem tableWriteTrackRemove (q : Req) (index : Nat) : Statement (.tableWriteTrackRemove q index) := of_some rfl rfl
theorem tableWriteParameter (q : Req) (index : Nat) (value : ParameterValue) : Statement (.tableWriteParameter q index value) := of_some rfl rfl
theorem tableWriteRoute (q : Req) (index value : Nat) : Statement (.tableWriteRoute q index value) := of_some rfl rfl
theorem tableWritePatch (q : Req) (index : Nat) (fields : PatchFields) : Statement (.tableWritePatch q index fields) := of_some rfl rfl
theorem cutAppend (q : Req) (number : Nat) (fields : CutFields) : Statement (.cutAppend q number fields) := of_some rfl rfl
theorem cutInsertBefore (q : Req) (reference number : Nat) (fields : CutFields) : Statement (.cutInsertBefore q reference number fields) := of_some rfl rfl
theorem cutWithdraw (q : Req) (number : Nat) : Statement (.cutWithdraw q number) := of_some rfl rfl
theorem cutAmend (q : Req) (number : Nat) (fields : CutFields) : Statement (.cutAmend q number fields) := of_some rfl rfl
theorem cutListClear (q : Req) : Statement (.cutListClear q) := of_some rfl rfl
theorem slotDrop (q : Req) (slot : Nat) : Statement (.slotDrop q slot) := of_some rfl rfl
theorem sectionRestore (q : Req) (sec : Option SectionId) : Statement (.sectionRestore q sec) := of_some rfl rfl
theorem restoreAll (q : Req) : Statement (.restoreAll q) := of_some rfl rfl
theorem pointHold (q : Req) (point : Nat) : Statement (.pointHold q point) := of_some rfl rfl
theorem pointRelease (q : Req) (point : Nat) : Statement (.pointRelease q point) := of_some rfl rfl
theorem pointSet (q : Req) (point : Nat) (leg : Option Leg) : Statement (.pointSet q point leg) := of_some rfl rfl
theorem pointClearFault (q : Req) (point : Nat) : Statement (.pointClearFault q point) := of_some rfl rfl
theorem pointClearRetries (q : Req) (point : Nat) : Statement (.pointClearRetries q point) := of_some rfl rfl
theorem start (q : Req) : Statement (.start q) := of_some rfl rfl
theorem stopEngine (q : Req) : Statement (.stopEngine q) := of_some rfl rfl
theorem halt (q : Req) : Statement (.halt q) := of_some rfl rfl
theorem resume (q : Req) : Statement (.resume q) := of_some rfl rfl
theorem service (q : Req) (phase : Nat) : Statement (.service q phase) := of_some rfl rfl
theorem fenceWrite (q : Req) (fence : Option Fence) : Statement (.fenceWrite q fence) := of_some rfl rfl
theorem warmReset (q : Req) : Statement (.warmReset q) := of_none rfl
theorem endOfTransmission (port : Port) : Statement (.endOfTransmission port) := of_none rfl
theorem gapTimerExpiry : Statement (.gapTimerExpiry) := of_none rfl
theorem stallDeadlineExpiry (slot : Nat) : Statement (.stallDeadlineExpiry slot) := of_none rfl
theorem supervisionTimerExpiry (point : Nat) : Statement (.supervisionTimerExpiry point) := of_none rfl
theorem retryTimerExpiry (point : Nat) : Statement (.retryTimerExpiry point) := of_none rfl
theorem deglitchTimerExpiry (point : Nat) : Statement (.deglitchTimerExpiry point) := of_none rfl
theorem refreshTimerExpiry : Statement (.refreshTimerExpiry) := of_none rfl
theorem controllerSupervisionExpiry : Statement (.controllerSupervisionExpiry) := of_none rfl

end Sys2Proof.Laws.ControllerCode
end

