-- ==== Sys2Proof/Laws/Reports.lean ====
section
/-! SUPPORT. What an offer, a selection and a response can do to the reports, in a form that composes (R175 to R180). -/

namespace Sys2Proof.Machine

/-- Two batches offered after one another. -/
theorem State.offered_append (s : State) (a b : List ReportBody) (x : ReportQueue) :
    s.offered (a ++ b) x = s.offered b (s.offered a x) := by
  induction a generalizing x with
  | nil => rfl
  | cons c a ih => exact ih _

/-- What an offer depends on beside the queue: the clock, the station address and the levels. -/
theorem State.offered_congr {s t : State} (c : t.clock = s.clock) (a : t.straps = s.straps)
    (p : t.tables.params = s.tables.params) (l : List ReportBody) (x : ReportQueue) : t.offered l x = s.offered l x := by
  induction l generalizing x with
  | nil => rfl
  | cons b l ih =>
    have e : t.station = s.station := by simp only [State.station, a]
    have := ih (if s.station = none ∨ s.tables.params.level b.kind = .off then x
      else x.offer ⟨s.tables.params.level b.kind, s.clock, b⟩)
    refine Eq.trans ?_ this
    simp only [State.offered, e, c, p]

/-- `Reported`, with what keeps it when more is offered: the clock, the straps and the parameters stay, and so does what a busy Port Y
sends. -/
structure Offers (s t : State) (bodies : List ReportBody) : Prop where
  clock : t.clock = s.clock
  straps : t.straps = s.straps
  params : t.tables.params = s.tables.params
  busy : s.link.y.sending ≠ none → t.link.y.sending = s.link.y.sending
  reported : Reported s t bodies

/-- Nothing is offered where the queue, Port Y's transmitter and what an offer reads stay. -/
theorem Offers.of_same {s t : State} (c : t.clock = s.clock) (a : t.straps = s.straps) (p : t.tables.params = s.tables.params)
    (y : t.link.y.sending = s.link.y.sending) (r : t.reports = s.reports) : Offers s t [] :=
  ⟨c, a, p, fun _ => y, .inl r⟩

/-- Offers after one another. -/
theorem Offers.trans {s t u : State} {a b : List ReportBody} (h : Offers s t a) (k : Offers t u b) : Offers s u (a ++ b) where
  clock := k.clock.trans h.clock
  straps := k.straps.trans h.straps
  params := k.params.trans h.params
  busy := fun n => (k.busy (by rw [h.busy n]; exact n)).trans (h.busy n)
  reported := by
    have e := State.offered_congr h.clock h.straps h.params
    have idle : t.link.y.sending = none → s.link.y.sending = none := fun n =>
      Classical.byContradiction fun m => m (by rw [← h.busy m, n])
    rcases h.reported with h1 | ⟨f, g, r, rest, n, x, rfl, h1, h2, h3, h4, h5⟩ <;>
      rcases k.reported with k1 | ⟨f', g', r', rest', n', x', rfl, k1, k2, k3, k4, k5⟩
    · exact .inl (by rw [k1, e, h1, State.offered_append])
    · refine .inr ⟨a ++ f', g', r', rest', n', x', (List.append_assoc ..).symm, idle k1, ?_, k3, k4, by rw [k5, e]⟩
      rw [State.offered_append, ← h1, ← e, k2]
    · refine .inr ⟨f, g ++ b, r, rest, n, x, List.append_assoc .., h1, h2, ?_, h4, ?_⟩
      · rw [k.busy (by simp [h3]), h3]
      · rw [k1, e, h5, State.offered_append]
    · rw [h3] at k1
      cases k1

/-- A selection that gives a report gives the first one, on an idle Port Y. -/
theorem State.choice_report (s : State) (p : Port) (r : Report) (h : s.choice p = .report r) :
    p = .y ∧ s.link.y.sending = none ∧ ∃ rest, s.reports.queue = r :: rest := by
  have own : s.ownChoice p = some (.report r) ∧ (s.port p).sending = none := by
    simp only [State.choice] at h
    repeat' split at h
    all_goals first
      | exact absurd h (by simp)
      | exact ⟨by simp_all, by simp_all⟩
  obtain ⟨h1, h2⟩ := own
  unfold State.ownChoice at h1
  cases p <;> simp only at h1 <;> repeat' split at h1
  all_goals first
    | (cases h1; done)
    | (cases h1; exact ⟨rfl, h2, _, by assumption⟩)

/-- A selection offers nothing; it may begin the first report. -/
theorem State.select_offers (s : State) (p : Port) : Offers s (s.select p) [] := by
  have e := s.select_onlySends p
  have busy : s.link.y.sending ≠ none → (s.select p).link.y.sending = s.link.y.sending := by
    intro n
    cases p with
    | y =>
      have : s.select .y = s := by
        have : s.link.y.sending.isSome = true := Option.isSome_iff_ne_none.mpr n
        simp [State.select, State.choice, State.port, this, State.begin]
      rw [this]
    | t =>
      unfold State.select
      cases s.choice .t <;> simp only [State.begin, State.startThrow] <;> (try split) <;> rfl
  refine ⟨e.clock, e.straps, by rw [e.tables], busy, ?_⟩
  unfold State.select
  cases h : s.choice p with
  | report r =>
    obtain ⟨rfl, h1, rest, h2⟩ := s.choice_report p r h
    refine .inr ⟨[], [], r, rest, s.reports.discards, _, rfl, h1, ?_, rfl, rfl, ?_⟩
    · simp [State.offered, ← h2]
    · simp [State.begin, State.offered, h2, State.setPort]
  | throw c => simp only [State.begin]; split <;> exact .inl rfl
  | nothing => exact .inl rfl
  | fill => cases p <;> exact .inl rfl
  | signal m => cases p <;> exact .inl rfl
  | response r => cases p <;> exact .inl rfl
  | pass m => cases p <;> exact .inl rfl

/-- An offer offers its report, and nothing else. -/
theorem State.offer_offers (s : State) (b : ReportBody) : Offers s (s.offer b) [b] := by
  have hs : s.station.isNone = true ↔ s.station = none := Option.isNone_iff_eq_none
  by_cases h : s.station = none ∨ s.tables.params.level b.kind = .off
  · have e : s.offer b = s := by simp only [State.offer, hs, h, if_true]
    rw [e]
    refine ⟨rfl, rfl, rfl, fun _ => rfl, .inl ?_⟩
    simp only [State.offered, h, if_true]
  · have e : s.offer b
        = ({ s with reports := s.reports.offer ⟨s.tables.params.level b.kind, s.clock, b⟩ } : State).select .y := by
      simp only [State.offer, hs, h, if_false]
    rw [e]
    have put : Offers s { s with reports := s.reports.offer ⟨s.tables.params.level b.kind, s.clock, b⟩ } [b] :=
      ⟨rfl, rfl, rfl, fun _ => rfl, .inl (by simp only [State.offered, h, if_false])⟩
    exact put.trans (State.select_offers _ .y)

/-- A freed buffer offers nothing. -/
theorem State.freeBuffer_offers (s : State) (p : Port) : Offers s (s.freeBuffer p) [] :=
  have freed : Offers s (s.setPort p { s.port p with owed := min Config.receiveBuffers ((s.port p).owed + 1) }) [] := by
    cases p <;> exact .of_same rfl rfl rfl rfl rfl
  freed.trans (State.select_offers _ p)

/-- A response placed offers nothing. -/
theorem State.respond_offers (s : State) (r : Response) : Offers s (s.respond r) [] :=
  have placed : Offers s { s with link := { s.link with responses := s.link.responses ++ [r] } } [] :=
    .of_same rfl rfl rfl rfl rfl
  placed.trans (State.select_offers _ r.port)

/-- A telegram taken out of a receive buffer offers nothing. -/
theorem State.dropWaiting_offers (s : State) (p : Port) (own : Bool) : Offers s (s.dropWaiting p own) [] := by
  cases p <;> exact .of_same rfl rfl rfl rfl rfl

end Sys2Proof.Machine
end

