-- ==== Sys2Proof/Laws/Receive.lean ====
section
/-! SUPPORT. What the moving of pass telegrams can do: nothing without room, and otherwise what the ports send (R152). -/

namespace Sys2Proof.Machine

/-- No pass telegram of the port may move: none waits, or the other port's pass queue is full (R152). -/
def State.nonePasses (s : State) (p : Port) : Prop :=
  s.oldestWaiting p false = none ∨ Config.passQueueRoom ≤ (s.port (other p)).passQueue.length

/-- Without a pass telegram that has room nothing moves. -/
theorem State.movePass_idle {s : State} {p : Port} (h : s.nonePasses p) : s.movePass p = s := by
  unfold State.movePass
  rcases h with h | h
  · rw [h]
  · cases s.oldestWaiting p false with
    | none => rfl
    | some m => exact if_pos h

/-- Nothing moves then, however often. -/
theorem State.movePasses_idle {s : State} {p : Port} (h : s.nonePasses p) (n : Nat) : s.movePasses p n = s := by
  induction n with
  | zero => rfl
  | succ n ih => rw [State.movePasses, State.movePass_idle h, ih]

/-- A port whose pass telegrams have no room takes the next frame as it is. -/
theorem State.handleEarlier_idle {s : State} {p : Port} (h : s.nonePasses p) : s.handleEarlier p = s :=
  State.movePasses_idle h _

/-- The telegram out of its buffer and in the pass queue. -/
def State.placePass (s : State) (p : Port) (m : Telegram) : State :=
  (s.dropWaiting p false).setPort (other p)
    { s.port (other p) with passQueue := (s.port (other p)).passQueue ++ [m] }

/-- A move is a telegram placed in the pass queue, that port's selection, and a freed buffer. -/
theorem State.movePass_eq {s : State} {p : Port} {m : Telegram} (h : s.oldestWaiting p false = some m)
    (room : (s.port (other p)).passQueue.length < Config.passQueueRoom) :
    s.movePass p = ((s.placePass p m).select (other p)).freeBuffer p := by
  simp only [State.movePass, h, Nat.not_le.mpr room, if_false, State.placePass]

/-- A move lets the ports send, and does nothing else. -/
theorem State.movePass_onlySends (s : State) (p : Port) : OnlySends s (s.movePass p) := by
  by_cases h : s.nonePasses p
  · rw [State.movePass_idle h]
    exact .refl s
  · obtain ⟨h, room⟩ := not_or.mp h
    obtain ⟨m, hm⟩ := Option.ne_none_iff_exists'.mp h
    rw [State.movePass_eq hm (Nat.not_le.mp room)]
    exact .trans (.trans (by cases p <;> exact .of_eq rfl) (State.select_onlySends _ _)) (State.freeBuffer_onlySends _ p)

/-- A move offers no report. -/
theorem State.movePass_offers (s : State) (p : Port) : Offers s (s.movePass p) [] := by
  by_cases h : s.nonePasses p
  · rw [State.movePass_idle h]
    exact .of_same rfl rfl rfl rfl rfl
  · obtain ⟨h, room⟩ := not_or.mp h
    obtain ⟨m, hm⟩ := Option.ne_none_iff_exists'.mp h
    rw [State.movePass_eq hm (Nat.not_le.mp room)]
    have placed : Offers s (s.placePass p m) [] := by cases p <;> exact .of_same rfl rfl rfl rfl rfl
    exact (placed.trans (State.select_offers _ _)).trans (State.freeBuffer_offers _ p)

/-- The handling of earlier telegrams lets the ports send, does nothing else, and offers no report. -/
theorem State.handleEarlier_sends (s : State) (p : Port) :
    OnlySends s (s.handleEarlier p) ∧ Offers s (s.handleEarlier p) [] := by
  have moves (n : Nat) : ∀ s : State, OnlySends s (s.movePasses p n) ∧ Offers s (s.movePasses p n) [] := by
    induction n with
    | zero => exact fun s => ⟨.refl s, .of_same rfl rfl rfl rfl rfl⟩
    | succ n ih => exact fun s => ⟨(s.movePass_onlySends p).trans (ih _).1, (s.movePass_offers p).trans (ih _).2⟩
  exact moves _ s

end Sys2Proof.Machine
end

