-- ==== Sys2Proof/Laws/Requests.lean ====
section
/-! SUPPORT. What the carrying out of a request can do: its effect, one response, one freed buffer (R152, R156, R162). -/

namespace Sys2Proof.Machine

/-- A port whose transmitter is busy makes no selection. -/
theorem State.select_busy (s : State) (p : Port) (h : (s.port p).sending.isSome = true) : s.select p = s := by
  simp [State.select, State.choice, h, State.begin]

/-- The response `r`, placed last, leads to one of the two outcomes of `Answered` once the port has selected. -/
theorem respond_outcome (e : State) (r : Response) :
    (e.respond r).link.responses = e.link.responses ++ [r]
      ∨ ((∃ l, l.Sublist e.link.responses ∧ (e.respond r).link.responses = l ++ [r])
          ∨ ((e.respond r).link.responses = e.link.responses
              ∧ ∃ x, ((e.respond r).port r.port).sending = some x ∧ x.dest = r.dest ∧ x.body = .response r))
        ∧ ((e.respond r).port r.port).sending.isSome = true := by
  rcases State.select_responses { e with link := { e.link with responses := e.link.responses ++ [r] } } r.port with h | h
  · exact .inl h
  · obtain ⟨y, h1, -, h3, x, hx, hd, hb⟩ := h
    refine .inr ⟨?_, by simp [State.respond, hx]⟩
    by_cases hp : ∃ z ∈ e.link.responses, z.port = r.port
    · left
      refine ⟨e.link.responses.eraseP fun x => decide (x.port = r.port), List.eraseP_sublist, ?_⟩
      obtain ⟨z, hz, hzp⟩ := hp
      have := List.eraseP_append_left (p := fun x : Response => decide (x.port = r.port)) (by simpa using hzp) [r] hz
      simpa [State.respond, this] using h3
    · right
      have hn : ∀ z ∈ e.link.responses, ¬(decide (z.port = r.port) = true) := by
        intro z hz hd
        exact hp ⟨z, hz, by simpa using hd⟩
      have hy : y = r := by
        simp only [State.responseFor] at h1
        rw [List.find?_append, List.find?_eq_none.mpr hn] at h1
        simpa using h1.symm
      subst hy
      refine ⟨?_, x, hx, hd, hb⟩
      rw [List.eraseP_append_right _ hn] at h3
      simpa [State.respond] using h3

/-- The state a carried-out request leaves. -/
theorem State.handle_eq {s : State} {q : Req} {m : Telegram} (code : RequestCode) (f : Effect) (h : s.mayAnswer q m) :
    s.handle q code f
      = (((f m.src.toNat s).1.respond ⟨q.port, m.src.toNat, q.tag, code, (f m.src.toNat s).2⟩).dropWaiting q.port
          true).freeBuffer q.port := by
  simp [State.handle, h.1, Nat.not_le.mpr h.2]

/-- Where no request waits on the port, or the response queue is full, nothing happens. -/
theorem State.handle_idle {s : State} {q : Req} (code : RequestCode) (f : Effect) (h : ∀ m, ¬s.mayAnswer q m) :
    s.handle q code f = s := by
  unfold State.handle
  split
  · rfl
  · rename_i m hm
    split
    · rfl
    · exact absurd ⟨hm, Nat.lt_of_not_le (by assumption)⟩ (h m)

/-- After its effect a request only sends. -/
theorem State.handle_onlySends {s : State} {q : Req} {m : Telegram} (code : RequestCode) (f : Effect)
    (h : s.mayAnswer q m) : OnlySends (f m.src.toNat s).1 (s.handle q code f) := by
  rw [State.handle_eq code f h]
  exact ((State.respond_onlySends _ _).trans (State.dropWaiting_onlySends _ _ _)).trans (State.freeBuffer_onlySends _ _)

/-- After its effect a request offers no report. -/
theorem State.handle_offers {s : State} {q : Req} {m : Telegram} (code : RequestCode) (f : Effect)
    (h : s.mayAnswer q m) : Offers (f m.src.toNat s).1 (s.handle q code f) [] := by
  rw [State.handle_eq code f h]
  exact ((State.respond_offers _ _).trans (State.dropWaiting_offers _ _ _)).trans (State.freeBuffer_offers _ _)

/-- The port of a state whose waiting telegrams have been taken out. -/
theorem State.port_dropWaiting (s : State) (p : Port) (own : Bool) :
    (s.dropWaiting p own).port p = { s.port p with waiting := (s.port p).waiting.eraseP fun w => w.own == own } := by
  cases p <;> rfl

/-- A carried-out request is answered, when its effect took no response out of the queue but to send it and left the
receive buffers alone. -/
theorem State.handle_answered {s : State} {q : Req} {m : Telegram} (code : RequestCode) (f : Effect)
    (h : s.mayAnswer q m) (hr : (f m.src.toNat s).1.link.responses.Sublist s.link.responses)
    (hw : ((f m.src.toNat s).1.port q.port).waiting = (s.port q.port).waiting) :
    Answered s (s.handle q code f) q m code (f m.src.toNat s).2 := by
  rw [State.handle_eq code f h]
  generalize (f m.src.toNat s).1 = e at hr hw ⊢
  generalize (f m.src.toNat s).2 = a
  constructor
  · have hdrop : ∀ e : State, (e.dropWaiting q.port true).link.responses = e.link.responses := fun e => by
      simp [State.dropWaiting]
    have hset : ∀ (e : State) x, (e.setPort q.port x).link.responses = e.link.responses := fun e x => by simp
    rcases respond_outcome e ⟨q.port, m.src.toNat, q.tag, code, a⟩ with h1 | ⟨h1, hb⟩
    · simp only [State.freeBuffer]
      generalize hy : (State.dropWaiting _ q.port true).setPort q.port _ = y
      have hyr : y.link.responses = e.link.responses ++ [⟨q.port, m.src.toNat, q.tag, code, a⟩] := by
        rw [← hy, hset, hdrop, h1]
      rcases y.select_responses q.port with k | ⟨z, k1, -, k3, x, kx, kd, kb⟩
      · exact .inl ⟨_, hr, k.trans hyr⟩
      · by_cases hp : ∃ z ∈ e.link.responses, z.port = q.port
        · left
          obtain ⟨w, hw', hwp⟩ := hp
          refine ⟨e.link.responses.eraseP fun x => decide (x.port = q.port), List.eraseP_sublist.trans hr, ?_⟩
          rw [k3, hyr, List.eraseP_append_left (by simpa using hwp) _ hw']
        · right
          have hn : ∀ z ∈ e.link.responses, ¬(decide (z.port = q.port) = true) := by
            intro z hz hd
            exact hp ⟨z, hz, by simpa using hd⟩
          have hz : z = ⟨q.port, m.src.toNat, q.tag, code, a⟩ := by
            simp only [State.responseFor, hyr] at k1
            rw [List.find?_append, List.find?_eq_none.mpr hn] at k1
            simpa using k1.symm
          subst hz
          refine ⟨?_, x, kx, kd, kb⟩
          rw [k3, hyr, List.eraseP_append_right _ hn]
          simpa using hr
    · have hbusy : ∀ y : State, (y.port q.port).sending.isSome = true →
          (y.freeBuffer q.port) = y.setPort q.port { y.port q.port with owed := min Config.receiveBuffers ((y.port q.port).owed + 1) } := by
        intro y hy
        exact State.select_busy _ _ (by simpa using hy)
      have hd : (((e.respond ⟨q.port, m.src.toNat, q.tag, code, a⟩).dropWaiting q.port true).port q.port).sending
          = ((e.respond ⟨q.port, m.src.toNat, q.tag, code, a⟩).port q.port).sending := by
        rw [State.port_dropWaiting]
      rw [hbusy _ (by rw [hd]; exact hb)]
      rw [hset, hdrop, State.port_setPort_self]
      rcases h1 with ⟨l, hl, h1⟩ | ⟨h1, x, hx, hxd, hxb⟩
      · exact .inl ⟨l, hl.trans hr, h1⟩
      · right
        refine ⟨by rw [h1]; exact hr, x, ?_, hxd, hxb⟩
        rw [← hx, ← hd]
  · rw [State.freeBuffer_waiting, State.port_dropWaiting]
    simp [hw]

/-- A request that changes nothing is answered, and nothing else happens. -/
theorem State.handle_unchanged {s : State} {q : Req} {m : Telegram} (code : RequestCode) (f : Effect)
    (h : s.mayAnswer q m) (a : Answer) (hf : f m.src.toNat s = (s, a)) :
    AnsweredOnly s (s.handle q code f) q m code a := by
  have h1 := State.handle_answered code f h (by rw [hf]) (by rw [hf])
  have h2 := State.handle_onlySends code f h
  have h3 := (State.handle_offers code f h).reported
  rw [hf] at h1 h2 h3
  exact ⟨h1, h2, h3⟩

end Sys2Proof.Machine
end

