-- ==== Sys2Proof/WellFormed.lean ====
section
/-! DEFINITION. Which commands an event of the part can spell: ranges of the identifiers that a timer or a request names by construction. -/

namespace Sys2Proof

/-- The command names a thing the part has: a timer's slot is 1..16, a timer's point 1..63 (00_scope,
Identifiers); a frame holds at least one byte (R148); an unknown request that names a known code
is one whose payload does not fit, so any code will do. The ranges of a request's own arguments are
not checked here: the part itself refuses them with BAD_ARGUMENT. -/
def Instr.wf : Instr → Bool
  | .telegramReceived _ _ frame => !frame.isEmpty
  | .stallDeadlineExpiry i => decide (1 ≤ i ∧ i ≤ 16)
  | .supervisionTimerExpiry p => decide (1 ≤ p ∧ p ≤ 63)
  | .retryTimerExpiry p => decide (1 ≤ p ∧ p ≤ 63)
  | .deglitchTimerExpiry p => decide (1 ≤ p ∧ p ≤ 63)
  | .deviceReset _ | .passTelegramMove _ | .unknownRequest _ _ | .statusRead _ _ | .tableRead _ _ _
  | .cutListRead _ _ | .slotRead _ _ _ _ | .sectionRead _ _ _ | .pointRead _ _ _ _ | .linkRead _ _ _
  | .claimControl _ | .releaseControl _ | .tableWritePoint _ _ _ | .tableWritePointRemove _ _
  | .tableWriteTrack _ _ _ | .tableWriteTrackRegister _ _ _ | .tableWriteTrackRemove _ _
  | .tableWriteParameter _ _ _ | .tableWriteRoute _ _ _ | .tableWritePatch _ _ _ | .cutAppend _ _ _
  | .cutInsertBefore _ _ _ _ | .cutWithdraw _ _ | .cutAmend _ _ _ | .cutListClear _ | .slotDrop _ _
  | .sectionRestore _ _ | .restoreAll _ | .pointHold _ _ | .pointRelease _ _ | .pointSet _ _ _
  | .pointClearFault _ _ | .pointClearRetries _ _ | .start _ | .stopEngine _ | .halt _ | .resume _
  | .service _ _ | .fenceWrite _ _ | .warmReset _ | .endOfTransmission _ | .gapTimerExpiry
  | .refreshTimerExpiry | .controllerSupervisionExpiry => true

end Sys2Proof
end

