-- ==== Sys2Proof/Tests/Slice0.lean ====
section
/-! SUPPORT. Tests of the model, named theorems by kernel evaluation on small states, each expectation from the spec's own figures or worked by hand from its rules; and, for every statement of Certificates/Slice0/Obligations.lean with hypotheses, a witness that they can be met. -/

namespace Sys2Proof.Tests
set_option Elab.async false
open Sys2Proof Sys2Proof.Machine

/-! ### Commands: well-formedness, and the word decoder (no row of the table gives bits) -/

theorem test_wf_refuses_empty_frame : Instr.wf (.telegramReceived .y false []) = false := by decide
theorem test_wf_takes_a_frame : Instr.wf (.telegramReceived .y false [0#8]) = true := by decide
theorem test_wf_refuses_stall_slot : Instr.wf (.stallDeadlineExpiry 0) = false ∧ Instr.wf (.stallDeadlineExpiry 17) = false := by
  decide
theorem test_wf_refuses_supervision_point :
    Instr.wf (.supervisionTimerExpiry 0) = false ∧ Instr.wf (.supervisionTimerExpiry 64) = false := by decide
theorem test_wf_refuses_retry_point : Instr.wf (.retryTimerExpiry 0) = false ∧ Instr.wf (.retryTimerExpiry 64) = false := by
  decide
theorem test_wf_refuses_deglitch_point :
    Instr.wf (.deglitchTimerExpiry 0) = false ∧ Instr.wf (.deglitchTimerExpiry 64) = false := by decide
theorem test_wf_takes_the_bounds :
    Instr.wf (.stallDeadlineExpiry 16) = true ∧ Instr.wf (.retryTimerExpiry 63) = true ∧ Instr.wf .gapTimerExpiry = true := by
  decide
theorem test_no_word_spells_a_command : decodeTableWord 8 0x10 = none := by decide

/-! ### The line (R148, R149) -/

/-- The well known check value of this CRC over the digits 1 to 9. -/
theorem test_crc_of_the_digits :
    crc16 [0x31#8, 0x32#8, 0x33#8, 0x34#8, 0x35#8, 0x36#8, 0x37#8, 0x38#8, 0x39#8] = 0x29B1#16 := by decide +kernel

/-- AXLE from station 30, returning 2 credits: detector 11, DOWN, age 0; the check worked out by hand. -/
def axleFrame : List Byte := [255#8, 30#8, 0x21#8, 0x20#8, 3#8, 11#8, 1#8, 0#8, 0x80#8, 0x82#8]

theorem test_axle_frame_is_read :
    (readFrame .t axleFrame).toOption = some ⟨⟨255#8, 30#8, 0x21#8, [11#8, 1#8, 0#8]⟩, 2, 0⟩ := by decide +kernel
theorem test_axle_payload_is_parsed : parseAxle [11#8, 1#8, 0#8] = some (11, .down, 0) := by decide
theorem test_axle_frame_is_built : (Telegram.mk 255#8 30#8 kindAxle [11#8, 1#8, 0#8]).encode 2 = axleFrame := by decide +kernel

/-- POINT_STATUS from station 101: point 1 at RIGHT, IDLE. -/
def statusFrame : List Byte := [255#8, 101#8, 0x22#8, 0#8, 3#8, 1#8, 2#8, 0#8, 0x1B#8, 0x0A#8]

theorem test_status_payload_is_parsed : parsePointStatus [1#8, 2#8, 0#8] = some (1, some .right, .idle) := by decide

/-- A FILL that returns 5 credits. -/
def fillFrame : List Byte := [255#8, 3#8, 0x10#8, 0x50#8, 0#8, 0x9D#8, 0xA3#8]

/-- A REQUEST from station 20 to station 7. -/
def requestFrame : List Byte := [7#8, 20#8, 0x41#8, 0#8, 1#8, 0#8, 0x60#8, 0x14#8]

theorem test_short_frame_fails_length : (readFrame .t [255#8, 3#8]).isOk = false := by decide +kernel
theorem test_wrong_check_is_check :
    (match readFrame .t [255#8, 3#8, 0x10#8, 0x50#8, 0#8, 0x9D#8, 0xA2#8] with | .error .check => true | _ => false) = true := by
  decide +kernel
/-- Direction 3 is outside the table of R148, and so are low bits of byte 3 that are not 0. -/
theorem test_wrong_content_is_format :
    (match readFrame .t [255#8, 30#8, 0x21#8, 0#8, 3#8, 11#8, 3#8, 0#8, 0xEE#8, 0x54#8] with | .error .format => true | _ => false)
      = true
    ∧ (match readFrame .t [255#8, 30#8, 0x21#8, 1#8, 3#8, 11#8, 1#8, 0#8, 0x22#8, 0x67#8] with
        | .error .format => true | _ => false) = true := by decide +kernel

/-- A THROW of point 1 to RIGHT for station 101, a SIGNAL_DEMAND SLOW for station 40, and the FILL after a device reset as station
7; the checks worked out by hand. -/
theorem test_sent_bytes : (Sent.mk 101 7 2 (.throw 1 .right)).bytes = [101#8, 7#8, 0x31#8, 0x20#8, 2#8, 1#8, 2#8, 0x1F#8, 0xD0#8]
    ∧ (Sent.mk 40 7 0 (.signal .slow)).bytes = [40#8, 7#8, 0x32#8, 0#8, 1#8, 1#8, 0xB3#8, 0x1F#8]
    ∧ (Sent.mk 255 7 8 .fill).bytes = [255#8, 7#8, 0x10#8, 0x80#8, 0#8, 0x42#8, 0x75#8] := by decide +kernel

/-! ### Arithmetic (R38, R63, R64, R70, R73, R76, R140): the manual's figures -/

/-- A head over the lead of 3,000 cm in 7,500 ms, and over 2,000 cm in 5,000 ms, runs at 400 cm/s (chapter 11). -/
theorem test_samples_of_the_worked_sequences :
    sampleOf 3000000 100000#32 107500#32 = 1200 ∧ sampleOf 3000 100000#32 107500#32 = 400 ∧ sampleOf 2000 0#32 5000#32 = 400
      ∧ sampleOf 1500 218900#32 222650#32 = 400 := by decide
theorem test_sample_limits : sampleOf 100 0#32 10000#32 = 20 ∧ sampleOf 600 5#32 5#32 = 1200 ∧ sampleOf 600 6#32 5#32 = 1200 := by
  decide
theorem test_estimate_is_weighted : estimateOf [128, 64, 32, 32] [380, 395, 410] = 389 ∧ estimateOf [128, 64, 32, 32] [400, 400] = 400 := by
  decide
/-- Chapter 11: 600 learns 610 as 601, 601 learns 595 as 600, 600 learns 615 as 602; the range clamps. -/
theorem test_learned_times : learn 600 610 400 800 = 601 ∧ learn 601 595 400 800 = 600 ∧ learn 600 615 400 800 = 602
    ∧ learn 790 4000 400 800 = 800 ∧ learn 410 0 400 800 = 400 := by decide
theorem test_relative_times : relative 116400#32 118000#32 = 1600 ∧ relative 222250#32 222650#32 = 400 ∧ relative 10#32 5#32 = 0
    ∧ relative 4294967295#32 5#32 = 6 ∧ relative 0#32 100000#32 = 65535 := by decide
theorem test_stall_intervals : stallInterval 2000 400 10000 = 15000 ∧ stallInterval 1000 300 10000 = 13334
    ∧ stallInterval 65535 20 10000 = 65535 := by decide
theorem test_older_ordinals : older 3#16 4#16 = true ∧ older 4#16 3#16 = false ∧ older 65535#16 0#16 = true
    ∧ older 0#16 32768#16 = true ∧ older 32768#16 0#16 = false := by decide
theorem test_demand_rules : demandOf .run 1 7 8 14 = .proceed ∧ demandOf .run 1 8 8 14 = .slow ∧ demandOf .run 1 14 8 14 = .stop
    ∧ demandOf .run 0 0 8 14 = .stop ∧ demandOf .halted 1 0 8 14 = .stop := by decide

/-- R43: an age greater than the time since the device reset gives 0, unless the clock has wrapped since then. -/
theorem test_event_times : eventTime false 5#32 10 = 0#32 ∧ eventTime true 5#32 10 = 4294967291#32 ∧ eventTime false 10#32 10 = 0#32
    ∧ eventTime true 300#32 255 = 45#32 := by decide

/-! ### A small yard -/

/-- A request on Port Y with tag 9. -/
def q : Req := ⟨.y, 9#8⟩

/-- The request telegram that waits. -/
def request : Telegram := ⟨7#8, 20#8, kindRequest, [0#8]⟩

/-- A port with credit, nothing owed, and the telegrams given waiting. -/
def port (l : List Waiting) : PortState := ⟨l, 3, 0, 0, [], none, 0, none⟩

/-- Port Y busy, with station 20's request waiting; Port T idle with credit. -/
def link : Link := ⟨{ port [⟨true, request⟩] with sending := some ⟨255, 7, 0, .fill⟩ }, port [], [], none, [], 0, 0, 0⟩

/-- Station 20 holds the claim. -/
def claim : Management := ⟨some 20, .any, some ⟨2000#32, 0#32⟩, none⟩

/-- After a device reset as station 7, with that request waiting. -/
def base : State := { State.atDeviceReset 7#8 with link := link, mgmt := claim }

/-- Point 1 at the root, over tracks 1 and 2. -/
def point1 : PointRecord := ⟨.lead, .track 1, .track 2, 11, 12, 13, 600, 3000, 101, 600, 400, 800, 100, .retry, 1, 800⟩

/-- The fields that spell that record. -/
def fields1 : PointFields :=
  ⟨some .lead, some (.track 1), some (.track 2), 11, 12, 13, 600, 3000, 101, 600, 400, 800, 100, some .retry, 1, 800⟩

/-- Track 1, room 40. -/
def track1 : TrackRecord := ⟨1, .left, 111, 1000, .opened, 40, []⟩

/-- Track 2, room 30, with alternate 1. -/
def track2 : TrackRecord := ⟨1, .right, 112, 1000, .opened, 30, [1]⟩

/-- The tables of that yard. -/
def tables : Tables :=
  let t := Tables.reset
  { t with
    points := writeAt t.points 1 (some point1)
    tracks := writeAt (writeAt t.tracks 1 (some track1)) 2 (some track2)
    params := { t.params with leadDetector := 1, rejectTrack := 2, signalStation := 40 } }

/-- Every section NORMAL and empty. -/
def clear : Sections :=
  ⟨Vector.replicate 63 ⟨none, []⟩, Vector.replicate 63 ⟨none, []⟩, Vector.replicate 64 ⟨none, []⟩⟩

/-- Point 1 at rest at LEFT. -/
def atLeft : PointRuntime := ⟨.rest .left, some .left, .idle, false, some 600, 0, .none, 0, none, none, none, none⟩

/-- The yard, every section NORMAL, point 1 at rest at LEFT, before START. -/
def idleYard : State :=
  ({ base with tables := tables, sections := clear, signal := ⟨.stop, some 1000#32⟩ }).setPt 1 atLeft

/-- The yard as START leaves it, RUN, one cut record waiting. -/
def yard : State :=
  let s := idleYard.derive
  { s with engine := ⟨.run, .empty, 0⟩, cutList := [⟨601, .track 1, 4, false⟩], signal := ⟨.proceed, some 1000#32⟩ }

/-- A slot in use that rolls on the lead towards track 1, bound from cut 600. -/
def rolling : Slot where
  phase := .rolling
  record := some ⟨600, .track 1, 4, false⟩
  ordinal := 0
  expected := 4
  target := some 1
  reservation := 4
  path := [(1, .left)]
  unresolved := none
  counted := 4
  cleared := 0
  head := .lead
  headTime := 0
  samples := []
  estimate := 300
  stall := ⟨13000#32, false⟩
  flags := .clear

/-- The yard with slot 1 on the lead. -/
def occupied : State :=
  ((yard.setSlot 1 (some rolling)).setSec (.pointLink 1) ⟨none, [⟨.slot 1, 4⟩]⟩).setClaims 1 [⟨1, some .left⟩]

/-- The state a command leads to. -/
def next (c : Instr) (s : State) : State :=
  match exec c s with
  | .next t => t
  | .fault _ | .refused _ => s

/-- The outcome of the newest response. -/
def answer (t : State) : Option Answer := t.link.responses.getLast?.map Response.answer

/-- Point 1 in another state. -/
def withPoint (s : State) (f : PointRuntime → PointRuntime) : State := s.setPt 1 (f (s.pt 1))

/-- The yard with point 1 as given. -/
def pointIs (x : PointState) (c : PointCommand) : State := withPoint yard fun r => { r with state := x, command := c }

/-- The engine as given. -/
def withEngine (s : State) (e : Engine) (c : Causes) : State := { s with engine := ⟨e, c, 0⟩ }

/-! ### One step of each command -/

theorem test_device_reset : (next (.deviceReset 9#8) yard).straps = 9#8
    ∧ (next (.deviceReset 9#8) yard).link.t.sending = some ⟨255, 9, 8, .fill⟩ := by decide +kernel
theorem test_telegram_received_axle : ((next (.telegramReceived .t false
    [255#8, 30#8, 0x21#8, 0#8, 3#8, 1#8, 1#8, 0#8, 0x6B#8, 0x5D#8]) yard).link.t.errors) = 1 := by decide +kernel
theorem test_telegram_received_request :
    (next (.telegramReceived .y false requestFrame) yard).link.y.waiting = [⟨true, request⟩, ⟨true, request⟩] := by decide +kernel
/-- A pass telegram for another station, addressed 9. -/
def passing : Telegram := ⟨9#8, 20#8, kindRequest, [0#8]⟩

/-- The yard in CONFIG with `n` telegrams in Port Y's pass queue, no credit there, and those given waiting on Port T; forwarding ALL. -/
def yardPassing (n : Nat) (l : List Waiting) : State :=
  let s : State := { idleYard with link := { idleYard.link with
    t := port l, y := { port [] with credits := 0, passQueue := List.replicate n request } } }
  { s with tables := { s.tables with params := { s.tables.params with forwardAll := true } } }

/-- A pass telegram moves at its acceptance while there is room, and else stays; the copy of an AXLE goes behind a pass telegram accepted
before it (R152, R153). -/
theorem test_order_of_acceptance : (let t := next (.telegramReceived .t false (passing.encode 0)) (yardPassing 15 [])
      t.link.t.waiting = [] ∧ t.link.y.passQueue = List.replicate 15 request ++ [passing])
    ∧ (let t := next (.telegramReceived .t false (passing.encode 0)) (yardPassing 16 [])
      t.link.t.waiting = [⟨false, passing⟩] ∧ t.link.y.passQueue = List.replicate 16 request)
    ∧ (let t := next (.telegramReceived .t false axleFrame) (yardPassing 0 [⟨true, request⟩, ⟨false, passing⟩])
      t.link.t.waiting = [⟨true, request⟩] ∧ t.link.y.passQueue.map Telegram.kind = [kindRequest, kindAxle]) := by
  decide +kernel
theorem test_pass_telegram_move : (next (.passTelegramMove .t) { yard with link := { yard.link with t := port [⟨false, request⟩] } }
    ).link.y.passQueue = [request] := by decide +kernel
theorem test_unknown_request : answer (next (.unknownRequest q (.other 99#8)) yard) = some .badArgument := by decide +kernel
theorem test_status_read : answer (next (.statusRead q 2) yard) = some .badArgument := by decide +kernel
theorem test_table_read : answer (next (.tableRead q (.route 1023 1) 0) yard) = some (.done (.part 0 1 (.routes [0]))) := by
  decide +kernel
theorem test_cut_list_read :
    answer (next (.cutListRead q 1) yard) = some (.done (.cutList 1 [(1, ⟨601, .track 1, 4, false⟩)])) := by decide +kernel
theorem test_slot_read : answer (next (.slotRead q 2 0 0) occupied) = some (.done (.part 0 3 .slotFree)) := by decide +kernel
theorem test_section_read : answer (next (.sectionRead q (some (.pointLink 1)) 1) occupied)
    = some (.done (.part 1 2 (.section1 [⟨.slot 1, 4, some 600⟩]))) := by decide +kernel
theorem test_point_read : answer (next (.pointRead q 1 1 0) occupied)
    = some (.done (.part 1 3 (.runtime1 none none none true (some 1) (some 1) (some 9100#32)))) := by decide +kernel
theorem test_link_read : (next (.linkRead q 0 0) { yard with link := { yard.link with t := { port [] with firstError := some (.check, 5#32) } } }
    ).link.t.firstError = none := by decide +kernel
theorem test_claim_control : (next (.claimControl q) { base with mgmt := .reset }).mgmt.holder = some 20
    ∧ answer (next (.claimControl q) { base with mgmt := { claim with holder := some 21 } }) = some (.heldElsewhere 21) := by
  decide +kernel
theorem test_release_control : (next (.releaseControl q) base).mgmt = .reset := by decide +kernel
theorem test_table_write_point : (next (.tableWritePoint q 1 fields1) base).pointRecord 1 = some point1
    ∧ answer (next (.tableWritePoint q 1 fields1) yard) = some (.wrongState none) := by decide +kernel
theorem test_table_write_point_remove : (next (.tableWritePointRemove q 1) idleYard).pointRecord 1 = none := by decide +kernel
theorem test_table_write_track :
    (next (.tableWriteTrack q 1 ⟨1, some .left, 111, 1000, ⟨some .opened, 40, []⟩⟩) base).trackRecord 1 = some track1 := by
  decide +kernel
theorem test_table_write_track_register : (next (.tableWriteTrackRegister q 1 ⟨some .closed, 7, [2]⟩) yard).trackRecord 1
    = some ⟨1, .left, 111, 1000, .closed, 7, [2]⟩ := by decide +kernel
theorem test_table_write_track_remove : (next (.tableWriteTrackRemove q 2) idleYard).trackRecord 2 = none := by decide +kernel
theorem test_table_write_parameter : (next (.tableWriteParameter q 8 (.number 250)) yard).tables.params.margin = 250
    ∧ answer (next (.tableWriteParameter q 11 (.thresholds 9 8)) yard) = some .badArgument := by decide +kernel
theorem test_table_write_route : (next (.tableWriteRoute q 1023 2) yard).routeEntry 1023 = 2
    ∧ answer (next (.tableWriteRoute q 5 3) yard) = some .badArgument := by decide +kernel
theorem test_table_write_patch : readAt (next (.tableWritePatch q 8 ⟨true, 5, 2, 1⟩) yard).tables.patches ⟨false, 0, 0, 0⟩ 8
    = ⟨true, 5, 2, 1⟩ := by decide +kernel
theorem test_cut_append : (next (.cutAppend q 7 ⟨none, some 2, 96, true⟩) yard).cutList
      = [⟨601, .track 1, 4, false⟩, ⟨7, .track 2, 96, true⟩]
    ∧ answer (next (.cutAppend q 600 ⟨none, some 2, 5, true⟩) occupied) = some .duplicate := by decide +kernel
theorem test_cut_insert_before : (next (.cutInsertBefore q 601 7 ⟨some 3, none, 1, false⟩) yard).cutList
      = [⟨7, .destination 3, 1, false⟩, ⟨601, .track 1, 4, false⟩]
    ∧ answer (next (.cutInsertBefore q 600 7 ⟨some 3, none, 1, false⟩) occupied) = some (.wrongState none) := by decide +kernel
theorem test_cut_withdraw : (next (.cutWithdraw q 601) yard).cutList = [] ∧ (next (.cutWithdraw q 601) yard).signal.demand = .stop := by
  decide +kernel
theorem test_cut_amend : (next (.cutAmend q 601 ⟨none, some 2, 9, true⟩) yard).cutList = [⟨601, .track 2, 9, true⟩] := by decide +kernel
theorem test_cut_list_clear : (next (.cutListClear q) yard).cutList = [] := by decide +kernel
theorem test_slot_drop : answer (next (.slotDrop q 1) occupied) = some (.wrongState none)
    ∧ (next (.slotDrop q 1) (occupied.setSlot 1 (some { rolling with flags := { SlotFlags.clear with stalled := true } }))).slot 1
      = none := by decide +kernel
theorem test_section_restore : (next (.sectionRestore q (some (.guard 63))) base).sec (.guard 63) = ⟨none, []⟩ := by decide +kernel
theorem test_restore_all : answer (next (.restoreAll q) base) = some (.done (.restored 190)) := by decide +kernel
theorem test_point_hold : ((next (.pointHold q 1) yard).pt 1).held = true := by decide +kernel
theorem test_point_release : ((next (.pointRelease q 1) (withPoint yard fun r => { r with held := true })).pt 1).held = false := by
  decide +kernel
theorem test_point_set : ((next (.pointSet q 1 (some .right)) (withPoint yard fun r => { r with held := true })).pt 1).state
    = .moving .right := by decide +kernel
theorem test_point_clear_fault : ((next (.pointClearFault q 1) (pointIs .failed .none)).pt 1).state = .rest .left := by decide +kernel
theorem test_point_clear_retries : ((next (.pointClearRetries q 1) (withPoint yard fun r => { r with retries := 3 })).pt 1).retries = 0 := by
  decide +kernel
theorem test_start : (next (.start q) idleYard).engine.state = .run
    ∧ answer (next (.start q) { base with tables := tables }) = some (.disturbed (.guard 1)) := by decide +kernel
theorem test_stop_engine : (next (.stopEngine q) yard).sec (.guard 1) = ⟨some ⟨.stopped, none, none⟩, []⟩
    ∧ answer (next (.stopEngine q) occupied) = some (.busy 1) := by decide +kernel
/-- R132: a queued return THROW is a guard violation at STOP_ENGINE (R114), which sets two causes; the one report names
STOP_ENGINE. -/
theorem test_stop_engine_reports_once : (let s := pointIs (.returning .left) (.queued .return)
    (next (.stopEngine q) { s with link := { s.link with commands := [⟨1, .left, 101⟩] } }).reports.queue.filter Report.ofEngine)
      = [⟨.mid, 0#32, .engineState .config ⟨false, true, true, false⟩ .stopEngine⟩] := by decide +kernel
theorem test_idle_wraps : ({ yard with clock := 4294967295#32 } : State).idle.wrapped = true
    ∧ ({ yard with clock := 4294967295#32 } : State).idle.clock = 0#32 ∧ yard.idle.wrapped = false := by decide +kernel
theorem test_halt : (next (.halt q) yard).engine = ⟨.halted, ⟨true, false, false, false⟩, 0⟩ := by decide +kernel
theorem test_resume : (next (.resume q) (withEngine yard .halted ⟨true, true, false, false⟩)).engine.state = .run
    ∧ answer (next (.resume q) (withEngine yard .halted ⟨true, false, true, false⟩))
      = some (.wrongState (some ⟨true, false, true, false⟩)) := by decide +kernel
theorem test_service : (next (.service q 1) base).mgmt = ⟨some 20, .any, some ⟨2000#32, 0#32⟩, some 1⟩
    ∧ answer (next (.service q 1) { base with mgmt := { claim with phase := some 1 } }) = some .badArgument := by decide +kernel
theorem test_fence_write : (next (.fenceWrite q (some (.only [20, 21]))) base).mgmt.fence = .only [20, 21]
    ∧ answer (next (.fenceWrite q (some (.only [20, 20]))) base) = some .badArgument := by decide +kernel
theorem test_warm_reset : (next (.warmReset q) occupied).slot 1 = none
    ∧ answer (next (.warmReset q) { base with mgmt := { claim with fence := .only [21] } }) = some .fenced := by decide +kernel
theorem test_end_of_transmission : (next (.endOfTransmission .y) yard).link.y.sending = none := by decide +kernel
theorem test_gap_timer_expiry : (next .gapTimerExpiry { occupied with binder := ⟨.tracked 1, some 0#32, 1⟩ }).binder = ⟨.closed, none, 1⟩ := by
  decide +kernel
/-- The timer stops at expiry and the deadline keeps its instant (R77). -/
theorem test_stall_deadline_expiry :
    ((next (.stallDeadlineExpiry 1) ({ occupied with clock := 5#32 }.setSlot 1 (some { rolling with stall := ⟨4#32, true⟩ }))).slot 1
    ).map (fun x => (x.flags.stalled, x.stall)) = some (true, ⟨4#32, false⟩) := by decide +kernel

/-- Point 1 MOVING(RIGHT), its supervision timer due (chapter 11, sequence 3). -/
def throwing : State := withPoint yard fun r => { r with state := .moving .right, command := .sent .automatic, supervision := some 0#32 }

theorem test_supervision_timer_expiry : ((next (.supervisionTimerExpiry 1) throwing).pt 1).state = .returning .left
    ∧ ((next (.supervisionTimerExpiry 1) (withPoint throwing fun r => { r with retries := 1 })).pt 1).state = .failed := by decide +kernel
theorem test_retry_timer_expiry : ((next (.retryTimerExpiry 1) (withPoint yard fun r =>
    { r with state := .waitRetry .left, retryTimer := some 0#32, retries := 1 })).pt 1).state = .rest .left := by decide +kernel
theorem test_deglitch_timer_expiry : ((next (.deglitchTimerExpiry 1) (withPoint yard fun r =>
    { r with detected := none, deglitchTimer := some 0#32 })).pt 1).lastFault = some .detectionLost := by decide +kernel
theorem test_refresh_timer_expiry : (next .refreshTimerExpiry { yard with clock := 1000#32 }).signal.refresh = some 2000#32
    ∧ (next .refreshTimerExpiry { yard with clock := 1000#32 }).link.t.sending = some ⟨40, 7, 0, .signal .proceed⟩ := by decide +kernel
theorem test_controller_supervision_expiry :
    (next .controllerSupervisionExpiry { yard with clock := 2000#32 }).engine = ⟨.halted, ⟨false, false, false, true⟩, 0⟩ := by decide +kernel

/-! ### Witnesses: states and operands that meet the hypotheses of the statements -/

theorem held (s : State) (h : s.link = link) (g : s.mgmt = claim) : s.fromHolder q request := by
  unfold State.fromHolder State.mayAnswer State.oldestWaiting State.port
  rw [h, g]
  decide

theorem waits (s : State) (h : s.link = link) : s.mayAnswer q request := by
  unfold State.mayAnswer State.oldestWaiting State.port
  rw [h]
  decide

theorem witness_StepRunsFrontCommand : ({ yard with pending := [.halt q, .resume q] } : State).pending = .halt q :: [.resume q] := rfl
theorem witness_IdleStepLetsAMillisecondPass : yard.pending = [] := rfl
theorem witness_WarmResetCompletes : yard.mayAnswer q request ∧ inFence yard.mgmt.fence request.src.toNat = true
    ∧ ({ yard with mgmt := { claim with fence := .only [254] } } : State).mayAnswer q request
    ∧ inFence (.only [254]) request.src.toNat = false := ⟨waits _ rfl, by decide, waits _ rfl, by decide⟩
/-- HALT, RESUME and SERVICE from a station without the claim. -/
theorem witness_NotController : ({ yard with mgmt := .reset } : State).mayAnswer q request
    ∧ ({ yard with mgmt := .reset } : State).mgmt.holder ≠ some request.src.toNat := ⟨waits _ rfl, by decide⟩
theorem witness_RequestsAreRefusedByTheirGroup : (Instr.halt q).controllerRequest = some (q, .halt)
    ∧ ({ yard with mgmt := .reset } : State).mayAnswer q request ∧ Management.reset.holder ≠ some request.src.toNat
    ∧ yard.mayAnswer q request := ⟨rfl, waits _ rfl, by decide, waits _ rfl⟩
theorem witness_ClaimAndFenceChangeOnlyByTheirEvents :
    exec (.releaseControl q) base = .next (next (.releaseControl q) base)
      ∧ (next (.releaseControl q) base).mgmt.holder ≠ base.mgmt.holder
    ∧ exec (.fenceWrite q (some (.only [254]))) base = .next (next (.fenceWrite q (some (.only [254]))) base)
      ∧ (next (.fenceWrite q (some (.only [254]))) base).mgmt.fence ≠ base.mgmt.fence :=
  ⟨rfl, by decide +kernel, rfl, by decide +kernel⟩
theorem witness_StatusReadAnswers : yard.mayAnswer q request ∧ 2 ≤ 2 := ⟨waits _ rfl, by decide⟩
theorem witness_TableReadAnswers : yard.mayAnswer q request ∧ yard.pointRecord 1 = some point1 ∧ yard.pointRecord 63 = none
    ∧ yard.trackRecord 64 = none ∧ yard.tables.params.read 14 (some .linkError) = some (.level (some .linkError) (some .mid))
    ∧ yard.tables.params.read 15 none = none ∧ 1023 + 1 ≤ 1024 ∧ 1008 + 16 ≤ 1024 ∧ ¬1009 + 16 ≤ 1024 := by
  refine ⟨waits _ rfl, ?_⟩
  decide +kernel
theorem witness_CutListSectionAndSlotReadsAnswer : yard.mayAnswer q request ∧ (SectionId.trackLink 64).inRange = true
    ∧ (SectionId.guard 64).inRange = false ∧ occupied.mayAnswer q request ∧ occupied.slot 1 = some rolling
    ∧ occupied.slot 16 = none :=
  ⟨waits _ rfl, by decide, by decide, waits _ rfl, by decide +kernel, by decide +kernel⟩
/-- SLOT_READ part 2 of slot 1: its claim at point 1, then its four axles on the lead. -/
theorem test_slot_read_entries : occupied.slotEntries 1 = [.claim 1 (some .left), .runs (.pointLink 1) 4] := by decide +kernel
theorem witness_PointAndLinkReadsAnswer : occupied.mayAnswer q request := waits _ rfl
theorem witness_PointRecordWrites : idleYard.fromHolder q request ∧ idleYard.engine.state = .config
    ∧ pointRecordOf 1 fields1 = some point1 ∧ pointRecordOf 1 { fields1 with deglitch := 150 } = none
    ∧ idleYard.pointRecord 1 ≠ none ∧ idleYard.pointRecord 63 = none
    ∧ yard.fromHolder q request ∧ yard.engine.state ≠ .config :=
  ⟨held _ rfl rfl, rfl, by decide, by decide, by decide, by decide, held _ rfl rfl, by decide⟩
theorem witness_TrackRecordWrites : idleYard.fromHolder q request ∧ idleYard.engine.state = .config
    ∧ trackRecordOf 1 ⟨1, some .left, 111, 1000, ⟨some .opened, 40, []⟩⟩ = some track1
    ∧ trackRecordOf 1 ⟨1, some .left, 111, 1000, ⟨some .opened, 40, [1]⟩⟩ = none
    ∧ registerOf 64 ⟨some .closed, 4095, [1, 2, 3]⟩ = some .closed ∧ registerOf 64 ⟨some .closed, 4096, []⟩ = none
    ∧ idleYard.trackRecord 1 = some track1 ∧ idleYard.trackRecord 64 = none
    ∧ yard.fromHolder q request ∧ yard.engine.state ≠ .config :=
  ⟨held _ rfl rfl, rfl, by decide, by decide, by decide, by decide, by decide, by decide, held _ rfl rfl, by decide⟩
theorem witness_ParameterWrites : idleYard.fromHolder q request ∧ yard.fromHolder q request
    ∧ (yard.tables.params.write 3 (.number 254)).isSome = true ∧ (yard.tables.params.write 11 (.thresholds 16 16)).isSome = true
    ∧ yard.tables.params.write 11 (.thresholds 16 15) = none ∧ (yard.tables.params.write 1 (.number 1)).isSome = true
    ∧ (yard.tables.params.write 14 (.level (some .cutBound) (some .off))).isSome = true
    ∧ idleYard.engine.state = .config ∧ yard.engine.state ≠ .config :=
  ⟨held _ rfl rfl, held _ rfl rfl, by decide +kernel, by decide +kernel, by decide +kernel, by decide +kernel, by decide +kernel, rfl,
    by decide⟩
theorem witness_RouteAndPatchWrites : yard.fromHolder q request ∧ yard.trackRecord 2 ≠ none ∧ yard.trackRecord 64 = none :=
  ⟨held _ rfl rfl, by decide, by decide⟩
theorem witness_CutAppendAndInsert : yard.fromHolder q request
    ∧ cutRecordOf 65535 ⟨some 1023, none, 96, true⟩ = some ⟨65535, .destination 1023, 96, true⟩
    ∧ cutRecordOf 1 ⟨some 1, some 1, 96, true⟩ = none ∧ yard.numberHeld 65535 = false ∧ yard.numberHeld 601 = true
    ∧ yard.cutList.length < 32 ∧ 32 ≤ (List.replicate 32 (CutRecord.mk 5 (.track 1) 1 false)).length
    ∧ yard.cutList = [] ++ ⟨601, .track 1, 4, false⟩ :: [] ∧ (∀ z ∈ yard.cutList, z.number ≠ 600) :=
  ⟨held _ rfl rfl, by decide, by decide, by decide +kernel, by decide +kernel, by decide, by decide, rfl, by decide⟩
theorem witness_CutAppendAndInsert_full :
    ({ yard with cutList := List.replicate 32 ⟨5, .track 1, 1, false⟩ } : State).fromHolder q request
    ∧ ({ yard with cutList := List.replicate 32 ⟨5, .track 1, 1, false⟩ } : State).numberHeld 7 = false :=
  ⟨held _ rfl rfl, by decide +kernel⟩
theorem witness_CutWithdrawAmendAndClear : occupied.fromHolder q request ∧ occupied.listed 601 = true ∧ occupied.listed 600 = false
    ∧ occupied.slotWithNumber 600 = true ∧ occupied.slotWithNumber 601 = false ∧ occupied.listed 7 = false
    ∧ occupied.slotWithNumber 7 = false ∧ (cutRecordOf 601 ⟨none, some 64, 1, false⟩).isSome = true :=
  ⟨held _ rfl rfl, by decide +kernel⟩
/-- Slot 1 LOST on the lead, between UNKNOWN runs as given. -/
def lostBetween (a b : Nat) : State :=
  (occupied.setSlot 1 (some { rolling with flags := { SlotFlags.clear with lost := true } })).setSec (.pointLink 1)
    ⟨none, [⟨.unknown, a⟩, ⟨.slot 1, 4⟩, ⟨.unknown, b⟩]⟩

/-- The runs that a dropped slot leaves are joined; the join that passes 127 disturbs the section (R59). -/
theorem test_slot_drop_joins : (next (.slotDrop q 1) (lostBetween 126 1)).sec (.pointLink 1) = ⟨none, [⟨.unknown, 127⟩]⟩
    ∧ (next (.slotDrop q 1) (lostBetween 127 1)).sec (.pointLink 1) = ⟨some ⟨.runOverflow, none, none⟩, [⟨.unknown, 127⟩]⟩ := by
  decide +kernel
/-- The yard with guard 1 DISTURBED. -/
def guardStopped : State := yard.setSec (.guard 1) ⟨some ⟨.stopped, none, none⟩, []⟩

theorem witness_SlotDropAndRestoresComplete : (lostBetween 127 1).fromHolder q request
    ∧ ((lostBetween 127 1).slot 1).map (fun x => x.flags.lost) = some true
    ∧ ((lostBetween 127 1).sec (.pointLink 1)).holds 1 = true ∧ ((lostBetween 127 1).sec (.pointLink 1)).bounded
    ∧ occupied.fromHolder q request ∧ occupied.slot 16 = none
    ∧ base.fromHolder q request ∧ (base.sec (.trackLink 64)).disturbance ≠ none
    ∧ yard.fromHolder q request ∧ (yard.sec (.trackLink 64)).disturbance = none ∧ (SectionId.pointLink 64).inRange = false
    ∧ guardStopped.fromHolder q request ∧ (guardStopped.sec (.guard 1)).disturbance ≠ none
    ∧ (guardStopped.pt 1).state = .rest .left := by
  refine ⟨held _ rfl rfl, by decide +kernel, by decide +kernel, ?_, held _ rfl rfl, by decide +kernel, held _ rfl rfl, by decide,
    held _ rfl rfl, by decide, by decide, held _ rfl rfl, by decide +kernel, by decide +kernel⟩
  have h : (lostBetween 127 1).sec (.pointLink 1) = ⟨none, [⟨.unknown, 127⟩, ⟨.slot 1, 4⟩, ⟨.unknown, 1⟩]⟩ := by decide +kernel
  rw [h]
  refine ⟨by decide, by decide, fun a b l m h => ?_⟩
  rcases l with _ | ⟨_, _ | ⟨_, _ | ⟨_, l⟩⟩⟩ <;> simp_all
  · rcases h with ⟨rfl, rfl, -⟩
    decide
  · rcases h with ⟨-, rfl, rfl, -⟩
    decide
/-- Point 1 held. -/
def heldPoint : State := withPoint yard fun r => { r with held := true }

theorem witness_PointHoldReleaseAndSet_mode : yard.fromHolder q request ∧ yard.pointRecord 1 ≠ none ∧ (yard.pt 1).held = false
    ∧ (yard.pt 1).automaticPending = false
    ∧ (pointIs (.pending .right) (.queued .automatic)).fromHolder q request
    ∧ ((pointIs (.pending .right) (.queued .automatic)).pt 1).state = .pending .right
    ∧ ((pointIs (.pending .right) (.queued .automatic)).pt 1).command = .queued .automatic
    ∧ heldPoint.fromHolder q request ∧ (heldPoint.pt 1).held = true ∧ (heldPoint.pt 1).state = .rest .left
    ∧ yard.pointRecord 63 = none ∧ ((64 : Nat) = 0 ∨ 63 < 64) :=
  ⟨held _ rfl rfl, by decide, by decide, by decide, held _ rfl rfl, by decide, by decide, held _ rfl rfl, by decide, by decide,
    by decide, by decide⟩
theorem witness_PointHoldReleaseAndSet : heldPoint.fromHolder q request ∧ heldPoint.pointRecord 1 ≠ none
    ∧ (heldPoint.pt 1).state = .rest .left ∧ (heldPoint.pt 1).held = true ∧ (heldPoint.pt 1).deglitchTimer = none
    ∧ heldPoint.guardClear 1 = true ∧ (heldPoint.setSec (.guard 1) ⟨none, [⟨.unknown, 1⟩]⟩).guardClear 1 = false
    ∧ (heldPoint.setSec (.guard 1) ⟨none, [⟨.unknown, 1⟩]⟩).fromHolder q request
    ∧ (yard.pt 1).held = false ∧ yard.fromHolder q request ∧ yard.pointRecord 63 = none :=
  ⟨held _ rfl rfl, by decide, by decide, by decide, by decide, by decide, by decide, held _ rfl rfl, by decide, held _ rfl rfl,
    by decide⟩
theorem witness_PointClearFaultCompletes : (pointIs .failed .none).fromHolder q request
    ∧ (pointIs .failed .none).pointRecord 1 ≠ none ∧ ((pointIs .failed .none).pt 1).state = .failed
    ∧ ((pointIs .failed .none).pt 1).detected = some .left ∧ (yard.pt 1).state ≠ .failed ∧ yard.fromHolder q request
    ∧ yard.pointRecord 63 = none :=
  ⟨held _ rfl rfl, by decide, by decide, by decide, by decide, held _ rfl rfl, by decide⟩
theorem witness_PointClearRetriesCompletes : yard.fromHolder q request ∧ yard.pointRecord 1 ≠ none ∧ yard.pointRecord 63 = none :=
  ⟨held _ rfl rfl, by decide, by decide⟩
theorem witness_StartCompletes : idleYard.fromHolder q request ∧ idleYard.engine.state = .config ∧ idleYard.tableCheck = none
    ∧ idleYard.sectionCheck = none ∧ yard.fromHolder q request ∧ yard.engine.state ≠ .config
    ∧ base.tableCheck = some (.parameter, 1) ∧ base.fromHolder q request
    ∧ ({ base with tables := tables } : State).tableCheck = none
    ∧ ({ base with tables := tables } : State).sectionCheck = some (.guard 1) :=
  ⟨held _ rfl rfl, rfl, by decide +kernel, by decide +kernel, held _ rfl rfl, by decide, by decide +kernel, held _ rfl rfl,
    by decide +kernel, by decide +kernel⟩
theorem witness_StopEngineCompletes : yard.fromHolder q request ∧ yard.engine.state ≠ .config ∧ yard.slotsInUse = 0
    ∧ base.engine.state = .config ∧ base.fromHolder q request ∧ occupied.fromHolder q request ∧ 0 < occupied.slotsInUse :=
  ⟨held _ rfl rfl, by decide, by decide, rfl, held _ rfl rfl, held _ rfl rfl, by decide +kernel⟩
/-- Point 1's return THROW is still QUEUED and its guard clear, with no slot in use. -/
theorem witness_StopEngineCompletes_violated : (let s := pointIs (.returning .left) (.queued .return)
    s.fromHolder q request ∧ s.slotsInUse = 0 ∧ s.guardClear 1 = true ∧ (s.pt 1).state = .returning .left
      ∧ (s.pt 1).command.isQueued = true ∧ ((next (.stopEngine q) s).pt 1).lastFault = some .guardViolation) :=
  ⟨held _ rfl rfl, by decide, by decide, by decide, by decide, by decide +kernel⟩
/-- `base` names parameter 1 as its first fault; the tables over the reset's sections name the first guard. -/
theorem witness_StartChecksFindTheFirstFault : TableFault base 1 1 (.parameter, 1)
    ∧ SectionPresent { base with tables := tables } (.trackLink 2)
    ∧ (({ base with tables := tables } : State).sec (.trackLink 2)).disturbance ≠ none :=
  ⟨.leadDetector rfl, by show _ ≠ none; decide +kernel, by decide⟩
theorem witness_HaltAndResumeComplete : yard.fromHolder q request ∧ yard.engine.state ≠ .config
    ∧ yard.engine.causes.command = false ∧ (withEngine yard .halted ⟨true, false, false, false⟩).fromHolder q request
    ∧ base.fromHolder q request ∧ base.engine.state = .config
    ∧ (withEngine yard .halted ⟨false, false, true, false⟩).fromHolder q request
    ∧ (withEngine yard .halted ⟨true, true, false, false⟩).fromHolder q request
    ∧ (withEngine yard .halted ⟨true, true, false, false⟩).engine.causes ≠ .empty ∧ yard.engine.causes = .empty :=
  ⟨held _ rfl rfl, by decide, rfl, held _ rfl rfl, held _ rfl rfl, rfl, held _ rfl rfl, held _ rfl rfl, by decide, rfl⟩
theorem witness_ClaimReleaseAndFence : ({ base with mgmt := .reset } : State).mayAnswer q request ∧ Management.reset.holder = none
    ∧ base.mayAnswer q request ∧ base.mgmt.holder = some request.src.toNat
    ∧ ({ base with mgmt := { claim with holder := some 254 } } : State).mayAnswer q request
    ∧ base.fromHolder q request ∧ base.engine.state = .config
    ∧ ([1, 2, 253, 254] : List Nat).Nodup ∧ ¬([1, 1] : List Nat).Nodup ∧ yard.fromHolder q request ∧ yard.engine.state ≠ .config :=
  ⟨waits _ rfl, rfl, waits _ rfl, by decide, waits _ rfl, held _ rfl rfl, rfl, by decide, by decide, held _ rfl rfl, by decide⟩
theorem witness_ServiceCompletes : base.fromHolder q request ∧ base.mgmt.phase ≠ some 0 ∧ base.mgmt.phase ≠ some 1
    ∧ (some (1 : Fin 2)).map Fin.val = some 1 :=
  ⟨held _ rfl rfl, by decide, by decide, by decide⟩
theorem witness_ServiceCompletes_phase : (let s : State := { base with mgmt := { claim with phase := some 1 } }
    s.mayAnswer q request ∧ s.mgmt.holder = some request.src.toNat ∧ s.mgmt.phase ≠ some 0
      ∧ s.mgmt.phase.map Fin.val = some 1) := ⟨waits _ rfl, by decide, by decide, by decide⟩
/-- The yard with Port T's transmitter busy sending a FILL. -/
def sendingT : State := { yard with link := { link with t := { port [] with sending := some ⟨255, 7, 0, .fill⟩ } } }

/-- What a frame that passes the checks reads as, as an equation. -/
theorem readFrame_ok (p : Port) (f : List Byte) (r : Received) (h : (readFrame p f).toOption = some r) : readFrame p f = .ok r := by
  cases h' : readFrame p f with
  | error e => rw [h'] at h; cases h
  | ok x => rw [h'] at h; exact congrArg _ (Option.some.inj h)

/-- Eight telegrams wait; a pass telegram is accepted, with room for it and without, one of the part's own, and a FILL. -/
theorem witness_FramesAreCountedConsumedOrKept_kept :
    8 ≤ (((yardPassing 16 (List.replicate 8 ⟨false, passing⟩)).handleEarlier .t).port .t).waiting.length
    ∧ readFrame .t (passing.encode 0) = .ok ⟨passing, 0, 0⟩ ∧ passing.kind ≠ kindFill ∧ passing.isTracksideBroadcast .t = false
    ∧ (yardPassing 15 []).station = some 7 ∧ passing.dest.toNat ≠ 7 ∧ request.dest.toNat = 7
    ∧ (((yardPassing 15 []).handleEarlier .t).port .y).passQueue.length < 16
    ∧ 16 ≤ (((yardPassing 16 [⟨false, passing⟩]).handleEarlier .t).port .y).passQueue.length
    ∧ (((yardPassing 16 [⟨false, passing⟩]).handleEarlier .t).port .t).waiting.length < 8 :=
  ⟨by decide +kernel, readFrame_ok _ _ _ (by decide +kernel), by decide, by decide, by decide, by decide, by decide, by decide +kernel,
    by decide +kernel, by decide +kernel⟩
theorem witness_FramesAreCountedConsumedOrKept : ¬((false = true) ∨ 8 ≤ (yard.port .t).waiting.length)
    ∧ (match readFrame .t [255#8, 3#8] with | .error .length => true | _ => false) = true
    ∧ (sendingT.port .t).waiting.length < 8
    ∧ readFrame .t fillFrame = .ok ⟨⟨255#8, 3#8, kindFill, []⟩, 5, 0⟩ ∧ (sendingT.port .t).sending ≠ none
    ∧ readFrame .y requestFrame = .ok ⟨request, 0, 0⟩ ∧ request.kind ≠ kindFill ∧ request.isTracksideBroadcast .y = false :=
  ⟨by decide, by decide +kernel, by decide, readFrame_ok _ _ _ (by decide +kernel), by decide, readFrame_ok _ _ _ (by decide +kernel),
    by decide, by decide⟩

/-- The POINT_STATUS of `statusFrame`. -/
def status : Received := ⟨⟨255#8, 101#8, kindPointStatus, [1#8, 2#8, 0#8]⟩, 0, 0⟩

/-- With no telegram waiting on Port T there is none to be handled first. -/
theorem earlier (s : State) (h : s.link = link) : s.handleEarlier .t = s :=
  State.handleEarlier_idle (.inl (by
    unfold State.oldestWaiting State.port
    rw [h]
    rfl))

/-- A state with an idle Port T hands that telegram to the point controller. -/
theorem handedStatus (s : State) (h : s.link = link) :
    StatusHanded s (s.takeCredits .t 0) statusFrame 101 1 (some .right) .idle :=
  ⟨by rw [earlier s h, h]; decide, status, readFrame_ok _ _ _ (by decide +kernel), by decide, rfl, by decide, rfl,
    by rw [earlier s h]; rfl⟩

/-- Point 1 with a deglitch of 0 ms, in a state as given. -/
def undelayed (s : State) : State :=
  { s with tables := { s.tables with points := writeAt s.tables.points 1 (some { point1 with deglitch := 0 }) } }

/-- What becomes of point 1 at that telegram. -/
def afterStatus (s : State) : PointRuntime := (next (.telegramReceived .t false statusFrame) s).pt 1

/-- The telegram, which reports RIGHT and IDLE, is handed over with point 1 in a state of every row, its record there, absent, or naming
another machine. -/
theorem witness_PointStatusIsTaken : StatusHanded throwing (throwing.takeCredits .t 0) statusFrame 101 1 (some .right) .idle
    ∧ (throwing.takeCredits .t 0).pointRecord 1 = some point1 ∧ point1.machine = 101
    ∧ ((throwing.takeCredits .t 0).pt 1).state = .moving .right ∧ (throwing.pt 1).learned = some 600
    ∧ StatusHanded (pointIs (.moving .left) (.sent .manual)) ((pointIs (.moving .left) (.sent .manual)).takeCredits .t 0)
      statusFrame 101 1 (some .right) .idle
    ∧ StatusHanded (undelayed yard) ((undelayed yard).takeCredits .t 0) statusFrame 101 1 (some .right) .idle
    ∧ ((undelayed yard).takeCredits .t 0).pointRecord 1 = some { point1 with deglitch := 0 }
    ∧ StatusHanded base (base.takeCredits .t 0) statusFrame 101 1 (some .right) .idle
    ∧ (base.takeCredits .t 0).pointRecord 1 = none :=
  ⟨handedStatus _ rfl, by decide, rfl, by decide, by decide, handedStatus _ rfl, handedStatus _ rfl, by decide, handedStatus _ rfl,
    by decide⟩
/-- A success learns (R73, R111); the wrong end at rest is a fault and a return THROW is placed, sent at once (R111, R113); a point
lying LEFT starts its deglitch timer, or with 0 ms adopts the end, or, its guard occupied, fails (R117, R118); UNKNOWN takes the
end (R119); a return completes and waits its 800 ms (R115); FAILED stays (R103). -/
theorem test_status_by_state : (afterStatus throwing).state = .rest .right ∧ (afterStatus throwing).learned = some 525
    ∧ (afterStatus (pointIs (.moving .left) (.sent .manual))).state = .returning .right
    ∧ (afterStatus (pointIs (.moving .left) (.sent .manual))).lastFault = some .throwTimeout
    ∧ (afterStatus yard).deglitchTimer = some 100#32 ∧ (afterStatus (undelayed yard)).state = .rest .right
    ∧ (afterStatus (undelayed (yard.setSec (.guard 1) ⟨none, [⟨.unknown, 1⟩]⟩))).lastFault = some .guardViolation
    ∧ (afterStatus (pointIs .unknown .none)).state = .rest .right
    ∧ (afterStatus (pointIs (.returning .right) (.sent .return))).retryTimer = some 800#32
    ∧ (afterStatus (pointIs (.returning .right) (.queued .return))).state = .returning .right
    ∧ (afterStatus (pointIs .failed .none)).state = .failed ∧ (afterStatus (pointIs .failed .none)).detected = some .right := by
  decide +kernel

/-- Slot 1 on the lead, 10,000 ms from point 1, which lies LEFT; its claim as given. -/
def wanting (want : Option Leg) : State := occupied.setClaims 1 [⟨1, want⟩]

theorem witness_AutomaticThrowsFollowTheClaims : ((wanting (some .right)).pt 1).state = .rest .left
    ∧ AutomaticDue (wanting (some .right)) 1 .left ∧ ¬AutomaticDue (wanting none) 1 .left
    ∧ ((pointIs (.pending .right) (.queued .automatic)).pt 1).state = .pending .right
    ∧ ((pointIs (.pending .right) (.queued .automatic)).pt 1).command = .queued .automatic
    ∧ ¬Serves (pointIs (.pending .right) (.queued .automatic)) 1 .right
    ∧ ((pointIs (.pending .right) (.queued .automatic)).setSec (.guard 1) ⟨none, [⟨.unknown, 1⟩]⟩).guardClear 1 = false := by
  refine ⟨by decide, ⟨by decide, by decide, ⟨[], ⟨1, some .right⟩, [], by decide +kernel, by simp, rfl⟩, by decide +kernel,
    by decide +kernel⟩, ?_, by decide, by decide, ?_, by decide⟩
  · rintro ⟨-, -, ⟨a, c, b, h, -, g⟩, -⟩
    have e : (wanting none).claimList 1 = [⟨1, none⟩] := by decide +kernel
    have m : c ∈ [Claim.mk 1 none] := by rw [← e, h]; simp
    simp at m
    subst m
    cases g
  · rintro ⟨a, c, b, h, -⟩
    have e : (pointIs (.pending .right) (.queued .automatic)).claimList 1 = [] := by decide +kernel
    rw [e] at h
    simp at h

/-- A point thrown, one whose return THROW waits or is sent, and one at rest. -/
theorem witness_AutomaticThrowsFollowTheClaims_notices : (throwing.pt 1).state = .moving .right
    ∧ ((pointIs (.returning .left) (.queued .return)).pt 1).state = .returning .left
    ∧ ((pointIs (.returning .left) (.queued .return)).pt 1).command.isQueued = true
    ∧ ((pointIs (.returning .left) (.sent .return)).pt 1).command.isQueued = false
    ∧ (yard.pt 63).state = .unknown ∧ (∀ e, (yard.pt 63).state ≠ .moving e) := by
  refine ⟨by decide, by decide, by decide, by decide, by decide, fun e => ?_⟩
  cases e <;> decide
/-- An entry at a point MOVING makes it FAILED, the slot that enters LOST, and the engine HALTED with GUARD_VIOLATION; so does the guard's
becoming occupied while the return THROW waits, but not once it is sent (R114, R120, R121). -/
theorem test_guard_notices : (let t := (withPoint occupied fun r => { r with state := .moving .right }).guardEntry 1 5#32 (.slot 1)
      (t.pt 1).state = .failed ∧ t.isLost 1 = true ∧ t.engine.state = .halted ∧ t.engine.causes.guardViolation = true)
    ∧ (let r (c : PointCommand) := ((pointIs (.returning .left) c).guardOccupied 1).pt 1
      (r (.queued .return)).lastFault = some .guardViolation ∧ (r (.sent .return)).state = .returning .left) := by
  decide +kernel

/-- The AXLE of `axleFrame`: point 1's guard-in detector, DOWN. -/
def axle : Received := ⟨⟨255#8, 30#8, kindAxle, [11#8, 1#8, 0#8]⟩, 2, 0⟩

/-- An AXLE telegram of a detector and a direction, age 0. -/
def axleOf (d : Nat) (dir : Direction) : List Byte := (Telegram.mk 255#8 30#8 kindAxle (axlePayload d dir 0)).encode 0

/-- What it reads as. -/
def axleRead (d : Nat) (dir : Direction) : Received := ⟨⟨255#8, 30#8, kindAxle, axlePayload d dir 0⟩, 0, 0⟩

/-- A state with an idle Port T, outside CONFIG, hands such an axle to the section counter unit. -/
theorem handed (s : State) (d : Nat) (dir : Direction) (h : s.link = link) (e : s.engine.state ≠ .config)
    (r : (readFrame .t (axleOf d dir)).toOption = some (axleRead d dir)) (a : parseAxle (axlePayload d dir 0) = some (d, dir, 0)) :
    AxleHanded s (s.takeCredits .t 0) (axleOf d dir) d dir (eventTime s.wrapped s.clock 0) := by
  refine ⟨by rw [earlier s h, h]; decide, ?_, axleRead d dir, 0, readFrame_ok _ _ _ r, ?_, rfl, a, by rw [earlier s h]; rfl, ?_⟩
  · simpa [State.takeCredits, State.addCredits] using e
  · rfl
  · simp [State.takeCredits, State.addCredits]

/-- A slot's head can always be moved. -/
theorem moves (s : State) (x : Slot) (c : Counter) (time : Clock) : ∃ y, HeadMoved s x c time y := by
  unfold HeadMoved
  by_cases h : x.flags.unanchored = false ∧ s.exitCounter x.head c = true
  · exact ⟨_, _, _, _, by rw [if_pos h]; exact ⟨rfl, rfl⟩, rfl, rfl⟩
  · exact ⟨_, _, _, _, by rw [if_neg h]; exact ⟨rfl, rfl⟩, rfl, rfl⟩

/-- The axle that enters the guard of point 1, and one that leaves it by LEFT, each of slot 1. -/
def inGuard : State := (occupied.setSec (.pointLink 1) ⟨none, []⟩).setSec (.guard 1) ⟨none, [⟨.slot 1, 4⟩]⟩

theorem witness_CrossingMovesOneAxle :
    AxleHanded occupied (occupied.takeCredits .t 0) (axleOf 11 .down) 11 .down 0#32
    ∧ (occupied.takeCredits .t 0).joint 11 = some ⟨.guardIn 1, .sec (.pointLink 1), .sec (.guard 1)⟩
    ∧ (SectionId.guard 1).inRange = true
    ∧ AxleHanded inGuard (inGuard.takeCredits .t 0) (axleOf 13 .up) 13 .up 0#32
    ∧ (inGuard.takeCredits .t 0).joint 13 = some ⟨.guardOut 1 .right, .sec (.guard 1), .sec (Branch.track 2).sec⟩
    ∧ (Branch.track 2).sec.inRange = true :=
  ⟨handed _ _ _ rfl (by decide) (by decide +kernel) (by decide), by decide +kernel, by decide,
    handed _ _ _ rfl (by decide) (by decide +kernel) (by decide), by decide +kernel, by decide⟩
/-- Slot 1 in the guard of point 1 as given, and on L(1) with one axle. -/
def astride (x : Slot) : State := (inGuard.setSec (.pointLink 1) ⟨none, [⟨.slot 1, 1⟩]⟩).setSlot 1 (some x)

/-- A slot whose path does not name point 1. -/
def strayed : Slot := { rolling with head := .guardIn 1, path := [] }

/-- An axle enters the guard of a point MOVING, DOWN and UP; one from a guard that is empty comes back to it, no entry, with a return
THROW waiting; and one of a slot enters after its head, the slot's claim set holding point 1, and not. -/
theorem witness_CrossingMovesOneAxle_notices : IsGuardEntry .down (.guardIn 1) ∧ IsGuardEntry .up (.guardOut 1 .right)
    ∧ ((withPoint occupied fun r => { r with state := .moving .right }).pt 1).state = .moving .right
    ∧ ¬IsGuardEntry .up (.guardIn 1) ∧ (pointIs (.returning .left) (.queued .return)).guardClear 1 = true
    ∧ AxleHanded (pointIs (.returning .left) (.queued .return)) ((pointIs (.returning .left) (.queued .return)).takeCredits .t 0)
      (axleOf 11 .up) 11 .up 0#32
    ∧ (next (.telegramReceived .t false (axleOf 11 .up)) (pointIs (.returning .left) (.queued .return))).guardClear 1 = false :=
  ⟨rfl, rfl, by decide, (fun h => by cases h), by decide, handed _ _ _ rfl (by decide) (by decide +kernel) (by decide),
    by decide +kernel⟩
theorem witness_CrossingMovesOneAxle_reentry :
    AxleHanded (astride strayed) ((astride strayed).takeCredits .t 0) (axleOf 11 .down) 11 .down 0#32
    ∧ ((astride strayed).takeCredits .t 0).slot 1 = some strayed ∧ strayed.flags.lost = false
    ∧ ((astride strayed).takeCredits .t 0).downstream strayed.head (.guardIn 1) = false
    ∧ AxleFits .tail [⟨.slot 1, 4⟩] (.slot 1) ∧ (∀ want, ¬Wants yard strayed 1 want)
    ∧ Wants yard { rolling with head := .guardIn 1 } 1 (some .left) := by
  refine ⟨handed _ _ _ rfl (by decide) (by decide +kernel) (by decide), by decide +kernel, rfl, by decide +kernel, ?_, ?_,
    .inl ⟨.left, rfl, rfl⟩⟩
  · show 4 < 127
    decide
  · rintro want (⟨e, h, -⟩ | ⟨-, ⟨x, h, -⟩, -⟩)
    · cases h
    · cases h
/-- The slot's one axle in the guard, its head past the guard-out counter. -/
def tailed : State :=
  ((inGuard.setSec (.guard 1) ⟨none, [⟨.slot 1, 1⟩]⟩).setSec (.trackLink 1) ⟨none, [⟨.slot 1, 3⟩]⟩).setSlot 1
    (some { rolling with head := .guardOut 1 .left })

/-- The claim stands until the last axle has left the guard; the axle that enters after the head keeps it, or is lost to a slot whose
claim set does not hold the point (R85, R86). -/
theorem test_tail_and_reentry : tailed.stands 1 1 = true
    ∧ (next (.telegramReceived .t false (axleOf 12 .down)) tailed).stands 1 1 = false
    ∧ (next (.telegramReceived .t false (axleOf 11 .down)) ((astride { rolling with head := .guardIn 1 }).setClaims 1 [])).stands 1 1
      = true
    ∧ (next (.telegramReceived .t false (axleOf 11 .down)) ((astride strayed).setClaims 1 [])).isLost 1 = true := by decide +kernel
theorem witness_CrossingMovesOneAxle_tail : HeadBeyond tailed 1 (.guardOut 1 .left) ∧ DownTill tailed 1 (.guard 1)
    ∧ (tailed.sec (.guard 1)).holds 1 = true ∧ tailed.guardClear 1 = false
    ∧ (next (.telegramReceived .t false (axleOf 12 .down)) tailed).guardClear 1 = true :=
  ⟨.inl rfl, ⟨1, .inl rfl, .inl rfl⟩, by decide +kernel, by decide, by decide +kernel⟩
theorem witness_LeadAndClearanceCrossings :
    AxleHanded yard (yard.takeCredits .t 0) (axleOf 1 .down) 1 .down 0#32
    ∧ (yard.takeCredits .t 0).joint 1 = some ⟨.lead, .outside, .sec (.pointLink 1)⟩
    ∧ AxleHanded yard (yard.takeCredits .t 0) (axleOf 1 .up) 1 .up 0#32
    ∧ AxleHanded yard (yard.takeCredits .t 0) (axleOf 112 .up) 112 .up 0#32
    ∧ (yard.takeCredits .t 0).joint 112 = some ⟨.clearance 2, .sec (.trackLink 2), .track 2⟩ :=
  ⟨handed _ _ _ rfl (by decide) (by decide +kernel) (by decide), by decide +kernel,
    handed _ _ _ rfl (by decide) (by decide +kernel) (by decide), handed _ _ _ rfl (by decide) (by decide +kernel) (by decide),
    by decide +kernel⟩
theorem witness_AxleWithoutRoleMovesNothing : idleYard.link.t.waiting.length < 8 ∧ readFrame .t axleFrame = .ok axle
    ∧ idleYard.link.t.credits ≠ 0 ∧ idleYard.engine.state = .config ∧ (withEngine idleYard .run .empty).joint 11 = none :=
  ⟨by decide, readFrame_ok _ _ _ (by decide +kernel), by decide, rfl, by decide⟩
/-- With forwarding ALL: room for the copy, and none. -/
theorem witness_AxleWithoutRoleMovesNothing_copy : (yardPassing 16 []).tables.params.forwardAll = true
    ∧ (let v := (yardPassing 0 [⟨false, passing⟩]).handleEarlier .t
      v.link.t.waiting.length < 8 ∧ v.link.y.passQueue.length < 16 ∧ v.link.t.credits ≠ 0)
    ∧ (let v := (yardPassing 16 [⟨false, passing⟩]).handleEarlier .t
      v.link.t.waiting.length < 8 ∧ 16 ≤ v.link.y.passQueue.length ∧ v.link.t.credits ≠ 0)
    ∧ (next (.telegramReceived .t false axleFrame) (yardPassing 16 [])).link.forwardingLoss = 1 := by decide +kernel
theorem witness_PassTelegramMoves : ({ yard with link := { link with t := port [⟨false, request⟩] } } : State).oldestWaiting .t false
      = some request ∧ (yard.port .y).passQueue.length < 16 ∧ yard.oldestWaiting .t false = none :=
  ⟨by decide, by decide, by decide⟩

/-- The yard with patch entry 3 enabled for destination 417 with track 2, one use left. -/
def patched : State :=
  { yard with tables := { yard.tables with patches := writeAt yard.tables.patches 3 ⟨true, 417, 2, 1⟩ } }

theorem witness_RoutesAreResolved_tables : (patched.candidate ⟨1, .destination 417, 4, false⟩).1 = 2
    ∧ readAt (patched.candidate ⟨1, .destination 417, 4, false⟩).2.tables.patches ⟨false, 0, 0, 0⟩ 3 = ⟨false, 417, 2, 0⟩
    ∧ (patched.candidate ⟨1, .destination 416, 4, false⟩).1 = 2 ∧ yard.available 1 40 = true ∧ yard.available 1 41 = false
    ∧ yard.available 2 31 = false ∧ yard.trackRecord 2 = some track2 ∧ yard.chooseTarget 2 31 false = (1, false)
    ∧ yard.chooseTarget 2 31 true = (2, true) := by decide +kernel
theorem witness_RoutesAreResolved_walk : yard.pointRecord 1 = some point1 ∧ LiesTo yard (.point 1) [(1, .left)] (.track 1) :=
  ⟨rfl, .passes 1 .left point1 [] (.track 1) (by decide) rfl (.track 1)⟩
/-- Retargeting at point 1: an alternate of the target on the leg; the reject track on the leg, available and not; and the lie
walk where NO_ALTERNATE stands and the reject track is not on the leg. -/
theorem witness_RoutesAreResolved_retarget :
    (1, Leg.left) ∈ yard.trackPath 1 ∧ (1, Leg.right) ∈ yard.trackPath yard.tables.params.rejectTrack
    ∧ (1, Leg.left) ∉ yard.trackPath yard.tables.params.rejectTrack ∧ track2.alternates = [] ++ 1 :: [] ∧ track1.alternates = []
    ∧ yard.retarget { rolling with target := some 2 } 1 .left = .track 1 false
    ∧ yard.retarget rolling 1 .right = .track 2 false ∧ yard.retarget { rolling with expected := 31 } 1 .right = .track 2 true
    ∧ yard.retarget { rolling with target := some 2, record := some ⟨600, .track 2, 4, true⟩ } 1 .left = .track 1 false := by
  decide +kernel

/-- The binder open as given, over the yard with slot 1 on the lead. -/
def binderIs (x : BinderState) : State := { occupied with binder := ⟨x, some 1500#32, 1⟩ }

theorem witness_LeadAxlesBindAndCount :
    AxleHanded yard (yard.takeCredits .t 0) (axleOf 1 .down) 1 .down 0#32
    ∧ (yard.takeCredits .t 0).joint 1 = some ⟨.lead, .outside, .sec (.pointLink 1)⟩
    ∧ ((yard.takeCredits .t 0).sec (.pointLink 1)).disturbance = none ∧ reached yard.clock (after 0#32 yard.tables.params.separation) = false
    ∧ yard.binder.state = .closed ∧ (yard.takeCredits .t 0).freeSlot = some 1
    ∧ AxleFits .tail ((yard.takeCredits .t 0).sec (.pointLink 1)).runs (.slot 1)
    ∧ (∀ k, (yard.takeCredits .t 0).stands 1 k = false)
    ∧ AxleHanded (binderIs (.tracked 1)) ((binderIs (.tracked 1)).takeCredits .t 0) (axleOf 1 .down) 1 .down 0#32
    ∧ ((binderIs (.tracked 1)).takeCredits .t 0).slot 1 = some rolling
    ∧ AxleFits .tail (((binderIs (.tracked 1)).takeCredits .t 0).sec (.pointLink 1)).runs (.slot 1)
    ∧ AxleHanded (binderIs .untracked) ((binderIs .untracked).takeCredits .t 0) (axleOf 1 .down) 1 .down 0#32
    ∧ AxleFits .tail (((binderIs .untracked).takeCredits .t 0).sec (.pointLink 1)).runs .unknown := by
  refine ⟨handed _ _ _ rfl (by decide) (by decide +kernel) (by decide), by decide +kernel, by decide +kernel, by decide, rfl,
    by decide +kernel, ?_, fun k => ?_, handed _ _ _ rfl (by decide) (by decide +kernel) (by decide), by decide +kernel, ?_,
    handed _ _ _ rfl (by decide) (by decide +kernel) (by decide), ?_⟩
  · have : ((yard.takeCredits .t 0).sec (.pointLink 1)).runs = [] := by decide +kernel
    simp [AxleFits, this, facing]
  · exact readAt_all (P := fun l : List Claim => (l.any fun c => decide (c.slot = 1)) = false) (by decide +kernel) rfl k
  · have : (((binderIs (.tracked 1)).takeCredits .t 0).sec (.pointLink 1)).runs = [⟨.slot 1, 4⟩] := by decide +kernel
    simp [AxleFits, this, facing]
  · have : (((binderIs .untracked).takeCredits .t 0).sec (.pointLink 1)).runs = [⟨.slot 1, 4⟩] := by decide +kernel
    simp [AxleFits, this, facing]

/-- Every slot in use. -/
def full : State := { yard with slots := Vector.replicate 16 (some rolling) }

theorem witness_LeadAxlesBindAndCount_full : (full.takeCredits .t 0).freeSlot = none ∧ full.binder.state = .closed
    ∧ AxleHanded full (full.takeCredits .t 0) (axleOf 1 .down) 1 .down 0#32
    ∧ ((full.takeCredits .t 0).sec (.pointLink 1)).runs = [] :=
  ⟨by decide +kernel, rfl, handed _ _ _ rfl (by decide) (by decide +kernel) (by decide), by decide +kernel⟩
/-- An open cut with 126 axles counted. -/
theorem witness_LeadAxlesBindAndCount_last :
    (let s := (binderIs (.tracked 1)).setSlot 1 (some { rolling with counted := 126 })
    (s.slot 1).map Slot.counted = some 126 ∧ (next (.telegramReceived .t false (axleOf 1 .down)) s).binder.state = .closed
      ∧ ((next (.telegramReceived .t false (axleOf 1 .down)) s).slot 1).map (fun x => x.flags.mismatch) = some true) := by
  decide +kernel
theorem witness_GapExpiryClosesTheCut : (let s : State := { occupied with binder := ⟨.tracked 1, some 0#32, 1⟩ }
    due s.clock s.binder.gap = true ∧ s.slot 1 = some rolling ∧ ∀ k, rolling.phase ≠ .clearing k) :=
  ⟨by decide, by decide +kernel, fun _ h => by cases h⟩
theorem witness_GapExpiryClosesTheCut_untracked : (let s : State := { occupied with binder := ⟨.untracked, some 0#32, 1⟩ }
    due s.clock s.binder.gap = true ∧ ∀ i, s.binder.state ≠ .tracked i) := ⟨by decide, fun _ h => by cases h⟩

/-- Slot 1 CLEARING into track 1 with no run left, the binder open on it and its gap past. -/
def clearingOpen : State :=
  { yard.setSlot 1 (some { rolling with phase := .clearing 1 }) with binder := ⟨.tracked 1, some 0#32, 1⟩ }

/-- No section of the yard holds a run. -/
theorem yard_holds (id : SectionId) (i : Nat) : (yard.sec id).holds i = false := by
  have h (n : Nat) (v : Vector Section n) (h : ∀ x ∈ v.toList, x = ⟨none, []⟩) (k : Nat) : (readAt v ⟨none, []⟩ k).holds i = false :=
    readAt_all (P := fun x : Section => x.holds i = false) (fun x hx => by rw [h x hx]; rfl) rfl k
  cases id <;> exact h _ _ (by decide +kernel) _

theorem witness_GapExpiryClosesTheCut_clearing : due clearingOpen.clock clearingOpen.binder.gap = true
    ∧ clearingOpen.slot 1 = some { rolling with phase := .clearing 1 } ∧ ∀ id, (clearingOpen.sec id).holds 1 = false :=
  ⟨by decide, by decide +kernel, fun id => yard_holds id 1⟩

/-- Slot 1 bound by one axle, which stands on the lead. -/
def justBound : State :=
  { (yard.setSlot 1 (some { rolling with phase := .entering, counted := 1 })).setSec (.pointLink 1) ⟨none, [⟨.slot 1, 1⟩]⟩ with
    binder := ⟨.tracked 1, some 1500#32, 1⟩ }

theorem witness_WholeRollbackFreesTheSlot :
    AxleHanded justBound (justBound.takeCredits .t 0) (axleOf 1 .up) 1 .up 0#32
    ∧ (justBound.takeCredits .t 0).joint 1 = some ⟨.lead, .outside, .sec (.pointLink 1)⟩
    ∧ ((justBound.takeCredits .t 0).sec (.pointLink 1)).runs.getLast? = some ⟨.slot 1, 1⟩
    ∧ (justBound.takeCredits .t 0).slot 1 = some { rolling with phase := .entering, counted := 1 }
    ∧ (next (.telegramReceived .t false (axleOf 1 .up)) justBound).slot 1 = none
    ∧ (next (.telegramReceived .t false (axleOf 1 .up)) justBound).cutList = [⟨600, .track 1, 4, false⟩, ⟨601, .track 1, 4, false⟩]
    ∧ (next (.telegramReceived .t false (axleOf 1 .up)) justBound).binder = ⟨.closed, none, 1⟩
    ∧ ((next (.telegramReceived .t false (axleOf 1 .up)) occupied).slot 1).map Slot.counted = some 3 :=
  ⟨handed _ _ _ rfl (by decide) (by decide +kernel) (by decide), by decide +kernel⟩

/-- The cut list full, so that the record of the cut that rolls back is dropped. -/
theorem witness_WholeRollbackFreesTheSlot_full :
    (let s : State := { justBound with cutList := List.replicate 32 ⟨601, .track 1, 4, false⟩ }
    32 ≤ s.cutList.length ∧ (next (.telegramReceived .t false (axleOf 1 .up)) s).slot 1 = none
      ∧ (next (.telegramReceived .t false (axleOf 1 .up)) s).cutList = s.cutList) := by decide +kernel

/-- Slot 1 on the lead, point 1 as given. -/
def meets (x : PointState) : State := withPoint occupied fun r => { r with state := x, detected := none }

theorem settles (x : PointState) : ∃ z,
    AxleHanded (meets x) ((meets x).takeCredits .t 0) (axleOf 11 .down) 11 .down 0#32
    ∧ ((meets x).takeCredits .t 0).joint 11 = some ⟨.guardIn 1, .sec (.pointLink 1), .sec (.guard 1)⟩
    ∧ (((meets x).takeCredits .t 0).sec (.pointLink 1)).runs.head? = some ⟨.slot 1, 4⟩
    ∧ (((meets x).takeCredits .t 0).sec (.guard 1)) = ⟨none, []⟩
    ∧ ((meets x).takeCredits .t 0).slot 1 = some rolling ∧ rolling.flags.lost = false
    ∧ ((meets x).takeCredits .t 0).downstream rolling.head (.guardIn 1) = true
    ∧ HeadMoved ((meets x).takeCredits .t 0) rolling (.guardIn 1) 0#32 z := by
  obtain ⟨z, hz⟩ := moves ((meets x).takeCredits .t 0) rolling (.guardIn 1) 0#32
  have t : eventTime (meets x).wrapped (meets x).clock 0 = 0#32 := show eventTime yard.wrapped yard.clock 0 = 0#32 by decide
  exact ⟨z, t ▸ handed (meets x) 11 .down rfl (show yard.engine.state ≠ .config by decide) (by decide +kernel) (by decide),
    by show occupied.joint 11 = _; decide +kernel, by show (occupied.sec (.pointLink 1)).runs.head? = _; decide +kernel,
    by show occupied.sec (.guard 1) = _; decide +kernel, by show occupied.slot 1 = _; decide +kernel, rfl, rfl, hz⟩

/-- The hypotheses are met with point 1 in every state; the path of the slot takes LEFT there, and a path without the point, with
and without an unresolved point above, are met too. -/
theorem witness_SettlementAtTheGuardIn : ((meets .unknown).pt 1).state = .unknown ∧ ((meets .failed).pt 1).detected = none
    ∧ ((meets (.pending .right)).pt 1).state = .pending .right ∧ ((meets (.moving .right)).pt 1).state = .moving .right
    ∧ legAt rolling.path 1 = some .left ∧ legAt ([] : Path) 1 = none
    ∧ Covers occupied { rolling with path := [], unresolved := some 1 } 1 ∧ ¬Covers occupied rolling 1
    ∧ AxleFits .tail [] (.slot 1) := by
  refine ⟨by decide, by decide, by decide, by decide, rfl, rfl, ⟨1, rfl, .inl rfl⟩, ?_, trivial⟩
  rintro ⟨_, h, -⟩
  cases h

/-- Slot 1 in the guard of point 1, its head as given. -/
def leaves (h : Counter) : State := inGuard.setSlot 1 (some { rolling with head := h })

theorem checksLeg (h : Counter) : ∃ z,
    AxleHanded (leaves h) ((leaves h).takeCredits .t 0) (axleOf 13 .down) 13 .down 0#32
    ∧ ((leaves h).takeCredits .t 0).joint 13 = some ⟨.guardOut 1 .right, .sec (.guard 1), .sec (Branch.track 2).sec⟩
    ∧ (((leaves h).takeCredits .t 0).sec (.guard 1)).runs.head? = some ⟨.slot 1, 4⟩
    ∧ ((leaves h).takeCredits .t 0).sec (Branch.track 2).sec = ⟨none, []⟩
    ∧ ((leaves h).takeCredits .t 0).slot 1 = some { rolling with head := h }
    ∧ HeadMoved ((leaves h).takeCredits .t 0) { rolling with head := h } (.guardOut 1 .right) 0#32 z := by
  obtain ⟨z, hz⟩ := moves ((leaves h).takeCredits .t 0) { rolling with head := h } (.guardOut 1 .right) 0#32
  have t : eventTime (leaves h).wrapped (leaves h).clock 0 = 0#32 := show eventTime yard.wrapped yard.clock 0 = 0#32 by decide
  exact ⟨z, t ▸ handed (leaves h) 13 .down rfl (show yard.engine.state ≠ .config by decide) (by decide +kernel) (by decide),
    by show inGuard.joint 13 = _; decide +kernel, by show (inGuard.sec (.guard 1)).runs.head? = _; decide +kernel,
    by show inGuard.sec (Branch.track 2).sec = _; decide +kernel, rfl, hz⟩

/-- A head crossing and one that is none; the path takes LEFT where the crossing is at RIGHT. -/
theorem witness_LegAndDivisionChecks : (leaves (.guardIn 1)).downstream (.guardIn 1) (.guardOut 1 .right) = true
    ∧ (leaves (.clearance 2)).downstream (.clearance 2) (.guardOut 1 .right) = false ∧ legAt rolling.path 1 = some Leg.right.other
    ∧ (next (.telegramReceived .t false (axleOf 13 .down)) (leaves (.guardIn 1))).pt 1
      = { atLeft with state := .failed, lastFault := some .wrongLeg }
    ∧ ((next (.telegramReceived .t false (axleOf 13 .down)) (leaves (.clearance 2))).slot 1).map (fun x => x.flags.lost) = some true := by
  decide +kernel

/-- A slot whose path does not name the point is LOST there, at a head crossing (the leg check) and at another (the division check). -/
theorem witness_LegAndDivisionChecks_offPath : legAt ([] : Path) 1 = none
    ∧ (next (.telegramReceived .t false (axleOf 13 .down)) ((leaves (.guardIn 1)).setSlot 1 (some strayed))).isLost 1 = true
    ∧ (next (.telegramReceived .t false (axleOf 13 .down))
        ((leaves (.guardIn 1)).setSlot 1 (some { strayed with head := .clearance 2 }))).isLost 1 = true := by
  decide +kernel

/-- Slot 1 before the clearance counter of track 1, with as many axles there as given. -/
def clears (n : Nat) : State :=
  (yard.setSlot 1 (some { rolling with head := .guardOut 1 .left, counted := n })).setSec (.trackLink 1) ⟨none, [⟨.slot 1, n⟩]⟩

theorem witness_ClearingChargesTheTrack : ∃ base,
    AxleHanded (clears 1) ((clears 1).takeCredits .t 0) (axleOf 111 .down) 111 .down 0#32
    ∧ ((clears 1).takeCredits .t 0).joint 111 = some ⟨.clearance 1, .sec (.trackLink 1), .track 1⟩
    ∧ (((clears 1).takeCredits .t 0).sec (.trackLink 1)).runs.head? = some ⟨.slot 1, 1⟩
    ∧ ((clears 1).takeCredits .t 0).downstream (.guardOut 1 .left) (.clearance 1) = true
    ∧ HeadMoved ((clears 1).takeCredits .t 0) { rolling with head := .guardOut 1 .left, counted := 1 } (.clearance 1) 0#32 base
    ∧ (next (.telegramReceived .t false (axleOf 111 .down)) (clears 1)).slot 1 = none
    ∧ ((next (.telegramReceived .t false (axleOf 111 .down)) (clears 1)).trackRecord 1).map TrackRecord.room = some 39
    ∧ ((next (.telegramReceived .t false (axleOf 111 .down)) (clears 2)).slot 1).map Slot.phase = some (.clearing 1) := by
  obtain ⟨z, hz⟩ := moves ((clears 1).takeCredits .t 0) { rolling with head := .guardOut 1 .left, counted := 1 } (.clearance 1) 0#32
  exact ⟨z, handed _ _ _ rfl (by decide) (by decide +kernel) (by decide), by decide +kernel, by decide +kernel, by decide +kernel, hz,
    by decide +kernel, by decide +kernel, by decide +kernel⟩

/-- A slot bound for track 2 that clears into track 1 is LOST there. -/
theorem witness_ClearingChargesTheTrack_lost :
    (let s := (clears 2).setSlot 1 (some { rolling with head := .guardOut 1 .left, counted := 2, target := some 2 })
    (next (.telegramReceived .t false (axleOf 111 .down)) s).isLost 1 = true) := by decide +kernel

/-- Point 1 PENDING(RIGHT), its THROW at the queue's head, Port T busy. -/
def throwWaits : State :=
  let s := pointIs (.pending .right) (.queued .automatic)
  { s with link := { sendingT.link with commands := [⟨1, .right, 101⟩] } }

/-- Port T idle in the yard, its classes as given. -/
def offers (commands : List Throw) (signal : Option SignalTelegram) (responses : List Response) : State :=
  let s := pointIs (.pending .right) (.queued .automatic)
  { s with link := { link with commands := commands, signalSlot := signal, responses := responses } }

theorem witness_SelectionFollowsTheOrder : (offers [⟨1, .right, 101⟩] none []).throwMayStart 1 = true
    ∧ ((offers [⟨1, .right, 101⟩] none []).setSec (.guard 1) ⟨none, [⟨.unknown, 1⟩]⟩).throwMayStart 1 = false
    ∧ (yard.port .y).sending ≠ none ∧ (yard.port .t).sending = none ∧ (yard.port .t).passQueue = []
    ∧ OwnMay (offers [⟨1, .right, 101⟩] none []) .t ∧ OwnMay (offers [] (some ⟨.slow, 40⟩) []) .t ∧ NoOwn yard .t
    ∧ OwnMay ({ yard with link := { link with y := { port [] with passQueue := [request], fairness := 3 } } } : State) .y
    ∧ NoOwn ({ yard with straps := 0#8 } : State) .y :=
  ⟨by decide, by decide, by decide, by decide, rfl, ⟨by decide, by decide, by decide, .inl rfl⟩,
    ⟨by decide, by decide, by decide, .inl rfl⟩, .inr ⟨rfl, rfl, by decide⟩, ⟨by decide, by decide, by decide, .inr (by decide)⟩,
    .inl (by decide)⟩
/-- Port T begins the THROW before the signal demand, the signal demand before the response, and, the fairness count at 4, the pass
telegram before them all; a THROW alone whose guard is occupied holds the port (R158, R159). -/
theorem test_selection_order : (let r : Response := ⟨.t, 20, 9#8, .halt, .done .plain⟩
    let body (s : State) : Option SentBody := (s.select .t).link.t.sending.map Sent.body
    body (offers [⟨1, .right, 101⟩] (some ⟨.slow, 40⟩) [r]) = some (.throw 1 .right)
      ∧ body (offers [] (some ⟨.slow, 40⟩) [r]) = some (.signal .slow) ∧ body (offers [] none [r]) = some (.response r)
      ∧ body ((offers [⟨1, .right, 101⟩] none [r]).setPort .t { port [] with passQueue := [request], fairness := 4 })
        = some (.passed request)
      ∧ body ((offers [⟨1, .right, 101⟩] none [r]).setSec (.guard 1) ⟨none, [⟨.unknown, 1⟩]⟩) = none
      ∧ body ((offers [⟨1, .right, 101⟩] none [r]).setPort .t { port [] with credits := 0, owed := 2 }) = some .fill) := by
  decide +kernel
/-- `throwWaits` with an axle in the guard. -/
def throwRefused : State := throwWaits.setSec (.guard 1) ⟨none, [⟨.unknown, 1⟩]⟩

theorem witness_EndOfTransmissionSelects : throwWaits.link.t.sending ≠ none ∧ throwWaits.link.commands = ⟨1, .right, 101⟩ :: []
    ∧ throwWaits.station ≠ none ∧ throwWaits.link.t.credits ≠ 0 ∧ throwWaits.link.t.passQueue = []
    ∧ throwWaits.throwMayStart 1 = true ∧ (throwWaits.pt 1).state = .pending .right
    ∧ (throwWaits.pt 1).command = .queued .automatic ∧ (yard.port .t).sending = none
    ∧ (let s : State := { throwWaits with link := { throwWaits.link with t := port [] } }; (s.select .t).pt 1 ≠ s.pt 1) :=
  ⟨by decide, rfl, by decide, by decide, rfl, by decide, by decide, by decide, by decide, by decide +kernel⟩
theorem witness_EndOfTransmissionSelects_refused : throwRefused.link.t.sending ≠ none
    ∧ throwRefused.link.commands = ⟨1, .right, 101⟩ :: [] ∧ throwRefused.station ≠ none ∧ throwRefused.link.t.credits ≠ 0
    ∧ throwRefused.link.t.passQueue = [] ∧ (throwRefused.pt 1).command.isQueued = true ∧ throwRefused.guardClear 1 = false
    ∧ (throwRefused.pt 1).state = .pending .right
    ∧ ((withPoint throwRefused fun r => { r with state := .returning .right, command := .queued .return }).pt 1).state
      = .returning .right
    ∧ ((next (.endOfTransmission .t) throwRefused).pt 1).state = .rest .left
    ∧ (next (.endOfTransmission .t) throwRefused).link.commands = [] :=
  ⟨by decide, rfl, by decide, by decide, rfl, by decide, by decide, by decide, by decide, by decide +kernel, by decide +kernel⟩
theorem witness_TimersExpireWhenDue : (let x := { rolling with stall := ⟨0#32, true⟩ }
      (occupied.setSlot 16 (some x)).slot 16 = some x ∧ x.stall.running = true ∧ reached occupied.clock x.stall.instant = true)
    ∧ (let s := withPoint yard fun r => { r with state := .waitRetry .left, retryTimer := some 0#32 }
      due s.clock (s.pt 1).retryTimer = true ∧ (s.pt 1).state = .waitRetry .left)
    ∧ (let s : State := { yard with clock := 1000#32 }
      due s.clock s.signal.refresh = true ∧ s.tables.params.signalStation ≠ 0) := by decide +kernel
theorem witness_SupervisionExpiryIsAFault : due throwing.clock (throwing.pt 1).supervision = true
    ∧ (throwing.pt 1).state = .moving .right ∧ throwing.guardClear 1 = true ∧ throwing.pointRecord 1 = some point1
    ∧ point1.response = .retry ∧ (throwing.pt 1).retries < point1.retryLimit
    ∧ (let s := withPoint throwing fun r => { r with state := .returning .left }
      due s.clock (s.pt 1).supervision = true ∧ (s.pt 1).state = .returning .left ∧ ∀ e, (s.pt 1).state ≠ .moving e) := by
  refine ⟨by decide, by decide, by decide, by decide, rfl, by decide, by decide, by decide, ?_⟩
  intro e
  cases e <;> decide
/-- A point MOVING without retries left, and one MOVING whose record is absent. -/
theorem witness_SupervisionExpiryIsAFault_fails : (let s := withPoint throwing fun r => { r with retries := 1 }
      due s.clock (s.pt 1).supervision = true ∧ ¬(s.pt 1).retries < point1.retryLimit)
    ∧ (let s := yard.setPt 63 { atLeft with state := .moving .right, supervision := some 0#32 }
      due s.clock (s.pt 63).supervision = true ∧ (s.pt 63).state = .moving .right ∧ s.pointRecord 63 = none) := by decide +kernel
/-- Point 1 lying LEFT, its deglitch timer due, detected as given. -/
def bouncing (d : Option Leg) : State := withPoint yard fun r => { r with detected := d, deglitchTimer := some 0#32 }

theorem witness_DeglitchExpiryDecides : due (bouncing none).clock ((bouncing none).pt 1).deglitchTimer = true
    ∧ ((bouncing none).pt 1).state.lies = some .left ∧ ((bouncing none).pt 1).detected = none
    ∧ ((bouncing (some .left)).pt 1).detected = some .left ∧ ((bouncing (some .right)).pt 1).detected = some Leg.left.other
    ∧ (bouncing (some .right)).guardClear 1 = true
    ∧ ((bouncing (some .right)).setSec (.guard 1) ⟨none, [⟨.slot 1, 1⟩]⟩).guardClear 1 = false := by decide +kernel
theorem witness_SupervisionLapseClearsTheClaim : (let s : State := { yard with clock := 2000#32 }
    s.mgmt.supervision = some ⟨2000#32, 0#32⟩ ∧ s.mgmt.holder = some 20 ∧ reached s.clock 2000#32 = true ∧ s.engine.causes.supervision = false
      ∧ s.engine.state = .run) := by decide
theorem witness_TimersExpireWhenDue_not : due yard.clock yard.binder.gap = false ∧ (∀ x, yard.slot 16 = some x → x.stall.running = false ∨ reached yard.clock x.stall.instant = false)
    ∧ due yard.clock (yard.pt 63).supervision = false ∧ due yard.clock (yard.pt 63).retryTimer = false
    ∧ due yard.clock (yard.pt 63).deglitchTimer = false ∧ due yard.clock yard.signal.refresh = false
    ∧ (∀ x, yard.mgmt.supervision = some x → reached yard.clock x.expiry = false) := by
  have h : yard.slot 16 = none := by decide
  have g : yard.mgmt.supervision = some ⟨2000#32, 0#32⟩ := rfl
  refine ⟨by decide, ?_, by decide, by decide, by decide, by decide, ?_⟩
  · intro x hx
    rw [h] at hx
    cases hx
  · intro x hx
    rw [g] at hx
    cases hx
    decide
theorem witness_ArithmeticFollowsTheRules : elapsed 0#32 7500#32 = 7500 ∧ 400 * 7500 ≤ 3000 * 1000 ∧ 3000 * 1000 < 401 * 7500
    ∧ elapsed 5#32 5#32 ≤ 0 ∧ (∀ v ∈ [20, 1200, 400, 400], 20 ≤ v ∧ v ≤ 1200)
    ∧ 400 ≤ 800 ∧ 2 * (8 * (1 : Int) - (610 - 600)).natAbs < 8
    ∧ (2 * (8 * (1 : Int) - (604 - 600)).natAbs = 8 ∧ ((604 : Int) - 600).natAbs < (8 * (1 : Int)).natAbs)
    ∧ 2000 * 1000 ≤ 5000 * 400 ∧ 5000 * 400 < 2000 * 1000 + 400 ∧ (0#16 : Sys2Proof.Ordinal) ≠ 32768#16
    ∧ (254#32 : Clock).toNat < 255 ∧ 255 ≤ (255#32 : Clock).toNat := by decide

/-- The yard's ladder has one point. -/
theorem one_point (p : Nat) (r : PointRecord) (h : yard.pointRecord p = some r) : p = 1 ∧ r = point1 := by
  by_cases e : p = 1
  · subst e
    have g : yard.pointRecord 1 = some point1 := by decide
    rw [g] at h
    exact ⟨rfl, (Option.some.inj h).symm⟩
  · have g : yard.pointRecord p = readAt (writeAt (Vector.replicate 63 none) 1 (some point1)) none p := rfl
    rw [g, readAt_writeAt_ne _ _ _ e] at h
    have : readAt (Vector.replicate 63 (none : Option PointRecord)) none p = none :=
      readAt_all (P := fun x => x = none) (fun x hx => by simp at hx; exact hx) rfl p
    rw [this] at h
    cases h

/-- Slot 1 is due at point 1 10,000 ms after its head crossed the lead counter: 3,000 cm at 300 cm/s. -/
theorem witness_ArrivalsAndWindowsFollowTheRules : WayDown occupied 1 rolling.head 3000 0 ∧ 1 ≤ rolling.estimate
    ∧ (3000 + 0) * 1000 ≤ 10000 * rolling.estimate ∧ 10000 * rolling.estimate < (3000 + 0) * 1000 + rolling.estimate
    ∧ rolling.flags.unanchored = false ∧ NotBelow occupied 1 (.clearance 1) ∧ NotBelow occupied 1 (.guardIn 1)
    ∧ HeadArrives occupied 1 10000#32 ∧ elapsed occupied.clock 10000#32 = 10000
    ∧ (occupied.pt 1).throwTime 1 + occupied.tables.params.margin ≤ 6000
    ∧ 1 ≤ (occupied.pt 1).throwTime 1 + occupied.tables.params.margin := by
  have path : occupied.pointPath 1 = [] := by decide +kernel
  have record (p : Nat) : occupied.pointRecord p = yard.pointRecord p := rfl
  refine ⟨.lead 1 point1 0 (by rw [record]; decide) rfl (fun p r h _ => (one_point p r h).1) (by rw [path]; exact .none), by decide,
    by decide, by decide, rfl, trivial, fun leg h => (List.not_mem_nil (path ▸ h)).elim,
    ⟨⟨1, some .left⟩, [], rolling, by decide +kernel, by decide +kernel, by decide +kernel⟩, by decide, by decide +kernel,
    by decide +kernel⟩
/-- The estimate makes 10,000 ms of the lead; with a throw time of 600 ms a margin of 9,400 leaves the
window open, one of 9,401 closes it. -/
theorem test_window_closes : (let s (m : Nat) : State := { occupied with tables := { occupied.tables with
      params := { occupied.tables.params with margin := m } } }
    (s 9400).window 1 = true ∧ (s 9401).window 1 = false ∧ (s 9400).latestThrow 1 = some 0#32) := by decide +kernel

/-- A report of a level. -/
def aReport (l : Level) : Report := ⟨l, 0#32, .axleMismatch 1 2 3 4⟩

theorem witness_ReportsQueueByLevel : (⟨[aReport .high, aReport .low], 65535⟩ : ReportQueue).bounded
    ∧ (⟨List.replicate 31 (aReport .mid) ++ [aReport .low], 0⟩ : ReportQueue).bounded
    ∧ (List.replicate 31 (aReport .mid) ++ [aReport .low]).length = 32 ∧ (aReport .low).level.rank < (aReport .mid).level.rank := by
  unfold ReportQueue.bounded
  decide
theorem witness_TelegramsReadBackAsBuilt : formatOk .t ⟨⟨255#8, 30#8, kindAxle, [11#8, 1#8, 0#8]⟩, 15, 0⟩ = true
    ∧ formatOk .y ⟨⟨1#8, 254#8, kindRequest, List.replicate 32 255#8⟩, 0, 0⟩ = true := by decide

/-- The yard with a THROW queued, a slot with runs that stands in a claim list, and a command waiting. -/
def busyYard : State :=
  { ((throwWaits.setSlot 1 (some rolling)).setSec (.pointLink 1) ⟨none, [⟨.slot 1, 4⟩]⟩).setClaims 1 [⟨1, some .left⟩] with
    binder := ⟨.closed, none, 1⟩, pending := [.halt q] }

theorem busyYard_steps : step busyYard = .next (next (.halt q) { busyYard with pending := [] }) := rfl

/-- The records of the busy yard. -/
theorem busy_records (p : Nat) (r : PointRecord) (h : busyYard.pointRecord p = some r) : p = 1 ∧ r = point1 := one_point p r h

theorem busy_tracks (t : Nat) (r : TrackRecord) (h : busyYard.trackRecord t = some r) : (t = 1 ∧ r = track1) ∨ (t = 2 ∧ r = track2) := by
  by_cases e : t = 1 ∨ t = 2
  · rcases e with rfl | rfl
    · exact .inl ⟨rfl, (Option.some.inj ((by decide +kernel : busyYard.trackRecord 1 = some track1).symm.trans h)).symm⟩
    · exact .inr ⟨rfl, (Option.some.inj ((by decide +kernel : busyYard.trackRecord 2 = some track2).symm.trans h)).symm⟩
  · by_cases hr : 1 ≤ t ∧ t ≤ 64
    · have : ∀ k ∈ ids 64, k ≠ 1 → k ≠ 2 → busyYard.trackRecord k = none := by decide +kernel
      rw [this t (mem_ids.mpr hr) (fun h => e (.inl h)) (fun h => e (.inr h))] at h
      cases h
    · unfold State.trackRecord at h
      rw [readAt_outside _ _ hr] at h
      cases h

theorem busy_slots (i : Nat) (x : Slot) (h : busyYard.slot i = some x) : x = rolling := by
  have : ∀ o ∈ busyYard.slots.toList, o = none ∨ o = some rolling := by decide +kernel
  refine readAt_all (P := fun o : Option Slot => ∀ x, o = some x → x = rolling) (v := busyYard.slots) (d := none) ?_ (by simp) i x h
  intro o ho x hx
  rcases this o ho with rfl | rfl
  · cases hx
  · exact (Option.some.inj hx).symm

theorem witness_BoundsAreKept : busyYard.bounded := by
  have sec (n : Nat) (v : Vector Section n) (h : ∀ x ∈ v.toList, x = ⟨none, []⟩ ∨ x = ⟨none, [⟨.slot 1, 4⟩]⟩) (k : Nat) :
      (readAt v ⟨none, []⟩ k).bounded := by
    have empty : Section.bounded ⟨none, []⟩ := ⟨by decide, by decide, fun a b l m h => by simp at h⟩
    refine readAt_all (P := Section.bounded) (fun x hx => ?_) empty k
    rcases h x hx with rfl | rfl
    · exact empty
    · refine ⟨by decide, by decide, fun a b l m h => ?_⟩
      have := congrArg List.length h
      simp only [List.length_append, List.length_cons, List.length_nil] at this
      omega
  have learned (p : Nat) : (busyYard.pt p).learned = none ∨ (p = 1 ∧ (busyYard.pt p).learned = some 600) := by
    by_cases e : p = 1
    · subst e
      exact .inr ⟨rfl, by decide +kernel⟩
    · by_cases hr : 1 ≤ p ∧ p ≤ 63
      · have : ∀ k ∈ ids 63, k ≠ 1 → (busyYard.pt k).learned = none := by decide +kernel
        exact .inl (this p (mem_ids.mpr hr) e)
      · unfold State.pt
        rw [readAt_outside _ _ hr]
        exact .inl rfl
  exact
    { ports := by unfold PortState.bounded; decide
      commands := by decide
      responses := by decide
      counts := by decide
      reports := by unfold ReportQueue.bounded; decide
      cutList := ⟨by decide, by unfold CutRecord.bounded; decide⟩
      sections := fun id => by cases id <;> exact sec _ _ (by decide +kernel) _
      slots := fun i x h => by
        rw [busy_slots i x h]
        exact ⟨by decide, by decide, by decide, by decide, by decide, by decide, by decide, by decide,
          fun r hr => by cases hr; exact ⟨by decide, by decide⟩⟩
      claims := fun p => readAt_all (P := fun l : List Claim => l.length ≤ 16) (by decide +kernel) (by decide) p
      points := fun p => by
        refine readAt_all (P := PointRuntime.bounded) (fun x hx => ?_) ⟨by decide, fun ⟨_, h⟩ => by cases h⟩ p
        have : ∀ x ∈ busyYard.points.toList, x.retries = 0 := by decide +kernel
        exact ⟨by rw [this x hx]; decide, fun _ => by rw [this x hx]; decide⟩
      records := fun p r h => by
        obtain ⟨-, rfl⟩ := busy_records p r h
        unfold PointRecord.bounded
        decide
      learned := fun p T h => by
        rcases learned p with g | ⟨rfl, g⟩ <;> rw [g] at h
        · cases h
        · cases h
          exact ⟨point1, by decide +kernel, by decide, by decide⟩
      tracks := fun t r h => by
        unfold TrackRecord.bounded
        rcases busy_tracks t r h with ⟨-, rfl⟩ | ⟨-, rfl⟩ <;> decide
      patches := fun k => by
        unfold Patch.bounded
        exact readAt_all (P := fun e : Patch => e.destination ≤ 1023 ∧ e.track ≤ 64 ∧ e.uses ≤ 255) (by decide +kernel) (by decide) k
      routes := fun code => by
        unfold State.routeEntry
        have : ∀ x ∈ busyYard.tables.routes.toList, x ≤ 64 := by decide +kernel
        cases h : busyYard.tables.routes.toList[code]? with
        | none => decide
        | some x => exact this x (List.mem_of_getElem? h)
      fence := trivial
      entrySpeed := by decide }

/-- The walks of the one-point ladder. -/
theorem busy_walks (path : Path) (b : Branch) (h : DownTo busyYard path b) :
    (path = [] ∧ b = .point 1) ∨ (path = [(1, .left)] ∧ b = .track 1) ∨ (path = [(1, .right)] ∧ b = .track 2) := by
  induction h with
  | root p r hr _ => exact .inl ⟨rfl, by rw [(busy_records p r hr).1]⟩
  | leg path p r leg _ hr ih =>
    obtain ⟨rfl, rfl⟩ := busy_records p r hr
    rcases ih with ⟨rfl, -⟩ | ⟨-, h⟩ | ⟨-, h⟩
    · cases leg
      · exact .inr (.inl ⟨rfl, rfl⟩)
      · exact .inr (.inr ⟨rfl, rfl⟩)
    · cases h
    · cases h

theorem witness_LadderStaysSound : busyYard.ladderSound := by
  have run : busyYard.engine.state ≠ .config := by decide
  have root : DownTo busyYard [] (.point 1) := .root 1 point1 (by decide +kernel) rfl
  have step (leg : Leg) : DownTo busyYard ([] ++ [(1, leg)]) (point1.branch leg) := .leg [] 1 point1 leg root (by decide +kernel)
  have paths : busyYard.tables.pointPaths = [(1, [])] ∧ busyYard.tables.trackPaths = [(1, [(1, .left)]), (2, [(1, .right)])] := by
    decide +kernel
  have map : busyYard.tables.detectorMap = [(1, Joint.mk .lead .outside (.sec (.pointLink 1))),
      (11, ⟨.guardIn 1, .sec (.pointLink 1), .sec (.guard 1)⟩), (12, ⟨.guardOut 1 .left, .sec (.guard 1), .sec (.trackLink 1)⟩),
      (13, ⟨.guardOut 1 .right, .sec (.guard 1), .sec (.trackLink 2)⟩), (111, ⟨.clearance 1, .sec (.trackLink 1), .track 1⟩),
      (112, ⟨.clearance 2, .sec (.trackLink 2), .track 2⟩)] := by decide +kernel
  refine ⟨fun h => absurd h run, fun _ path b h => ?_, fun _ p => ?_, fun _ t => ?_, fun _ d j h => ?_, fun i x h => ?_⟩
  · rcases busy_walks path b h with ⟨rfl, -⟩ | ⟨rfl, -⟩ | ⟨rfl, -⟩ <;> decide
  · unfold State.pointPath
    rw [paths.1]
    split
    · rename_i h
      by_cases e : p = 1
      · subst e
        exact absurd h (by decide +kernel)
      · simp [List.lookup, beq_eq_false_iff_ne.mpr e]
    · rename_i h
      obtain ⟨r, hr⟩ := Option.ne_none_iff_exists'.mp h
      obtain ⟨rfl, -⟩ := busy_records p r hr
      exact root
  · unfold State.trackPath
    rw [paths.2]
    split
    · rename_i h
      by_cases e : t = 1 ∨ t = 2
      · rcases e with rfl | rfl <;> exact absurd h (by decide +kernel)
      · simp only [not_or] at e
        simp [List.lookup, beq_eq_false_iff_ne.mpr e.1, beq_eq_false_iff_ne.mpr e.2]
    · rename_i h
      obtain ⟨r, hr⟩ := Option.ne_none_iff_exists'.mp h
      rcases busy_tracks t r hr with ⟨rfl, -⟩ | ⟨rfl, -⟩
      · exact step .left
      · exact step .right
  · unfold State.joint at h
    rw [map] at h
    have record : busyYard.pointRecord 1 = some point1 := by decide +kernel
    obtain ⟨above, below, e, -⟩ := List.lookup_eq_some_iff.mp h
    have m := List.mem_append_right above (List.mem_cons_self (a := (d, j)) (l := below))
    rw [← e] at m
    simp only [List.mem_cons, List.not_mem_nil, or_false, Prod.mk.injEq] at m
    rcases m with h | h | h | h | h | h <;> obtain ⟨rfl, rfl⟩ := h
    · exact ⟨rfl, rfl, 1, point1, record, rfl, rfl⟩
    · exact ⟨⟨point1, record, rfl⟩, rfl, rfl⟩
    · exact ⟨⟨point1, record, rfl⟩, rfl, point1, record, .inr ⟨1, rfl, rfl⟩⟩
    · exact ⟨⟨point1, record, rfl⟩, rfl, point1, record, .inr ⟨2, rfl, rfl⟩⟩
    · exact ⟨⟨track1, by decide +kernel, rfl⟩, rfl, rfl⟩
    · exact ⟨⟨track2, by decide +kernel, rfl⟩, rfl, rfl⟩
  · rw [busy_slots i x h]
    decide

theorem witness_ThrowsStaySound : busyYard.throwsSound := by
  have one (x : PointRuntime) : x ∈ busyYard.points.toList → x = .reset ∨ x = busyYard.pt 1 := by
    have : ∀ x ∈ busyYard.points.toList, x = .reset ∨ x = busyYard.pt 1 := by decide +kernel
    exact this x
  have reset : PointRuntime.reset.sound := ⟨trivial, fun h => absurd rfl h⟩
  refine ⟨fun x hx => ?_, fun p => ?_, by decide, by decide, fun p h => ?_⟩
  · have : ∀ x ∈ busyYard.tables.detectorMap, x ∈ [(1, Joint.mk .lead .outside (.sec (.pointLink 1))),
        (11, ⟨.guardIn 1, .sec (.pointLink 1), .sec (.guard 1)⟩), (12, ⟨.guardOut 1 .left, .sec (.guard 1), .sec (Branch.track 1).sec⟩),
        (13, ⟨.guardOut 1 .right, .sec (.guard 1), .sec (Branch.track 2).sec⟩), (111, ⟨.clearance 1, .sec (.trackLink 1), .track 1⟩),
        (112, ⟨.clearance 2, .sec (.trackLink 2), .track 2⟩)] := by decide +kernel
    have hm := this x hx
    simp only [List.mem_cons, List.not_mem_nil, or_false] at hm
    rcases hm with rfl | rfl | rfl | rfl | rfl | rfl
    · exact ⟨rfl, 1, rfl⟩
    · exact ⟨rfl, rfl⟩
    · exact ⟨rfl, .track 1, rfl⟩
    · exact ⟨rfl, .track 2, rfl⟩
    · exact ⟨rfl, rfl⟩
    · exact ⟨rfl, rfl⟩
  · refine readAt_all (P := PointRuntime.sound) (fun x hx => ?_) reset p
    rcases one x hx with rfl | rfl
    · exact reset
    · have e : busyYard.pt 1 = { atLeft with state := .pending .right, command := .queued .automatic } := by decide +kernel
      rw [e]
      exact ⟨trivial, fun h => absurd rfl h⟩
  · have hp : p = 1 := by
      by_contra hne
      have hr := h
      unfold busyYard throwWaits pointIs withPoint at hr
      simp [State.pt, State.setPt, State.setClaims, State.setSec, State.setSlot, readAt_writeAt_ne _ _ _ hne] at hr
      revert hr
      exact Bool.eq_false_iff.mp (readAt_all (P := fun r : PointRuntime => r.command.isQueued = false)
        (v := Vector.set (Vector.replicate 63 PointRuntime.reset) 0 atLeft) (by decide +kernel) rfl p)
    subst hp
    decide +kernel

theorem witness_ClaimListsStaySound : busyYard.claimsSound ∧ busyYard.recent ∧ busyYard.claimsOrdered := by
  have claims (p : Nat) : busyYard.claimList p = [] ∨ busyYard.claimList p = [⟨1, some .left⟩] :=
    readAt_all (P := fun l : List Claim => l = [] ∨ l = [⟨1, some .left⟩]) (by decide +kernel) (.inl rfl) p
  have slot1 : busyYard.slot 1 = some rolling := by decide +kernel
  have slots (i : Nat) (x : Slot) (h : busyYard.slot i = some x) : i = 1 ∧ x = rolling := by
    by_cases hi : i = 1
    · subst hi
      rw [slot1] at h
      exact ⟨rfl, (Option.some.inj h).symm⟩
    · have : ∀ k ∈ ids 16, k ≠ 1 → busyYard.slot k = none := by decide +kernel
      by_cases hr : 1 ≤ i ∧ i ≤ 16
      · rw [this i (mem_ids.mpr hr) hi] at h
        cases h
      · unfold State.slot at h
        rw [readAt_outside _ _ hr] at h
        cases h
  refine ⟨fun p => ?_, ⟨fun i x h => ?_, fun i j x y h g _ => ?_⟩, fun p => ?_⟩
  · rcases claims p with e | e <;> rw [e]
    · exact ⟨by decide, by simp⟩
    · exact ⟨by decide, fun c hc => by simp at hc; subst hc; exact ⟨rolling, slot1, rfl⟩⟩
  · obtain ⟨-, rfl⟩ := slots i x h
    decide
  · rw [(slots i x h).1, (slots j y g).1]
  · rcases claims p with e | e <;> rw [e] <;> simp
theorem witness_EngineStaysSound : ({ yard with pending := [.halt q] } : State).engineSound := by
  unfold State.engineSound
  decide
theorem witness_SignalStaysSound : ({ yard with pending := [.halt q] } : State).signalSound := by
  refine ⟨by decide +kernel, fun m h => ?_, by decide⟩
  cases h
theorem witness_ClaimStaysSound : ({ yard with pending := [.releaseControl q] } : State).claimSound := by
  unfold State.claimSound
  decide

end Sys2Proof.Tests
end

/-! SUPPORT. The values of a device reset, read through the state's accessors, and the two statements about it (R173). -/

namespace Sys2Proof.Machine

/-! ### Readings of a table of one value -/

/-- A table of one value reads as that value, or as the value that stands for no entry. -/
theorem readAt_replicate {α : Type} {n : Nat} (a d : α) (i : Nat) :
    readAt (Vector.replicate n a) d i = if 1 ≤ i ∧ i ≤ n then a else d := by
  unfold readAt
  split <;> simp

@[simp] theorem reset_pointRecord (p : Nat) : State.reset.pointRecord p = none := by
  simp [State.pointRecord, State.reset, State.atDeviceReset, Tables.reset, readAt_replicate]

@[simp] theorem reset_trackRecord (t : Nat) : State.reset.trackRecord t = none := by
  simp [State.trackRecord, State.reset, State.atDeviceReset, Tables.reset, readAt_replicate]

@[simp] theorem reset_routeEntry (code : Nat) : State.reset.routeEntry code = 0 := by
  simp only [State.routeEntry, State.reset, State.atDeviceReset, Tables.reset, Vector.toList_replicate, List.getElem?_replicate]
  split <;> rfl

@[simp] theorem reset_slot (i : Nat) : State.reset.slot i = none := by
  simp [State.slot, State.reset, State.atDeviceReset, readAt_replicate]

@[simp] theorem reset_pt (p : Nat) : State.reset.pt p = .reset := by
  simp [State.pt, State.reset, State.atDeviceReset, readAt_replicate]

@[simp] theorem reset_claimList (p : Nat) : State.reset.claimList p = [] := by
  simp [State.claimList, State.reset, State.atDeviceReset, readAt_replicate]

/-- Every section of the part is DISTURBED and empty after a device reset (R42). -/
theorem reset_sec (id : SectionId) :
    State.reset.sec id = if id.inRange then .afterReset .deviceReset else ⟨none, []⟩ := by
  cases id <;>
    simp [State.sec, State.reset, State.atDeviceReset, Sections.afterReset, readAt_replicate, SectionId.inRange]

/-! ### The statements -/

/-- Settles O4: every block read through its accessor. -/
theorem resetHoldsTheGivenValues : Obligations.ResetHoldsTheGivenValues := by
  unfold Obligations.ResetHoldsTheGivenValues
  refine ⟨reset_pointRecord, reset_trackRecord, fun code _ => reset_routeEntry code, fun k h1 h8 => ?_, rfl, rfl, rfl, rfl,
    fun id h => ?_, reset_slot, fun p _ _ => ?_, rfl, rfl, rfl, rfl, rfl, rfl, rfl⟩
  · simp [State.reset, State.atDeviceReset, Tables.reset, readAt_replicate, h1, h8]
  · rw [reset_sec, if_pos h]
    rfl
  · simp [PointRuntime.reset]

/-- No section list of the reset state holds a run. -/
theorem reset_sec_runs (id : SectionId) : (State.reset.sec id).runs = [] := by
  rw [reset_sec]
  split <;> rfl

theorem reset_bounded : State.reset.bounded where
  ports := by unfold PortState.bounded; decide
  commands := by decide
  responses := by decide
  counts := by decide
  reports := ⟨by decide, .nil, by decide⟩
  cutList := ⟨by decide, fun _ h => nomatch h⟩
  sections id := by simp [Section.bounded, reset_sec_runs]
  slots i x h := by simp at h
  claims p := by simp
  points p := by simp [PointRuntime.bounded, PointRuntime.reset]
  records p r h := by simp at h
  learned p T h := by simp [PointRuntime.reset] at h
  tracks t r h := by simp at h
  patches k := by
    rw [show State.reset.tables.patches = Vector.replicate 8 ⟨false, 0, 0, 0⟩ from rfl, readAt_replicate, ite_self]
    simp [Patch.bounded]
  routes code := by simp
  fence := trivial
  entrySpeed := by decide

theorem reset_throwsSound : State.reset.throwsSound where
  map x h := nomatch h
  points p := by simp [PointRuntime.sound, PointRuntime.reset]
  distinct := .nil
  queued c h := nomatch h
  clear p h := by simp [PointRuntime.reset, PointCommand.isQueued] at h

theorem reset_ladderSound : State.reset.ladderSound where
  config _ := reset_slot
  walks h := absurd rfl h
  points h := absurd rfl h
  tracks h := absurd rfl h
  map h := absurd rfl h
  slots i x h := by simp at h

/-- No point FAILED and no slot in use after a device reset. -/
theorem reset_counts : State.reset.countFailed = 0 ∧ State.reset.slotsInUse = 0 := by decide

/-- Settles O60, invariant by invariant. -/
theorem resetMeetsTheInvariants : Obligations.ResetMeetsTheInvariants := by
  refine ⟨reset_bounded, reset_throwsSound, fun p => ?_, fun p => ?_, ⟨fun i x h => ?_, fun i j x y h => ?_⟩, reset_ladderSound,
    ?_, ?_, ?_⟩
  · simp
  · simp
  · simp at h
  · simp at h
  · exact ⟨fun h => absurd rfl h, by decide, by rw [reset_counts.1]; rfl⟩
  · unfold State.signalSound
    refine ⟨by decide, fun m h => ?_, by decide⟩
    exact absurd (show none = some m from h) (by simp)
  · exact ⟨rfl, fun _ => rfl⟩

end Sys2Proof.Machine

/-! SUPPORT. What a command can do, said once: every operation of the model as a composition of few parts. A predicate of states that
every part keeps is kept by every command; the invariants of the part are proved part by part. -/

namespace Sys2Proof.Machine

/-! ### What the parts ask of a value that is written -/

/-- A THROW of the point may stand in the command queue: it is QUEUED, and the point PENDING or RETURNING (R101). -/
def PointRuntime.waits (r : PointRuntime) : Prop :=
  r.command.isQueued = true ∧ ∃ e, r.state = .pending e ∨ r.state = .returning e

/-- The deglitch timer runs only while the point lies at an end that is not the one detected, and is not PENDING (R117). -/
def PointRuntime.timerSafe (r : PointRuntime) : Prop :=
  r.deglitchTimer ≠ none → ∃ e, (r.state = .rest e ∨ r.state = .waitRetry e) ∧ r.detected ≠ some e

/-- A point's runtime record is in bounds beside its point record. -/
def PointRuntime.safeFor (r : PointRuntime) (rec : Option PointRecord) : Prop :=
  r.bounded ∧ r.timerSafe ∧ ∀ T, r.learned = some T → ∃ x, rec = some x ∧ x.tMin ≤ T ∧ T ≤ x.tMax

/-- A runtime record may take the place of point `p`'s: it is in bounds where that one and the point's record are. -/
def State.mayPut (s : State) (p : Nat) (r : PointRuntime) : Prop :=
  (∀ x, s.pointRecord p = some x → x.bounded) → (s.pt p).safeFor (s.pointRecord p) → r.safeFor (s.pointRecord p)

/-- No THROW of point `p` waits, where its runtime record is in bounds. -/
def State.noneWaits (s : State) (p : Nat) : Prop := (s.pt p).safeFor (s.pointRecord p) → ¬(s.pt p).waits

/-- A slot may take the place of slot `x`: it is in bounds where `x` is, and its path is that of `x` or one derived from the
ladder. -/
def State.mayFollow (s : State) (x y : Slot) : Prop :=
  (x.bounded → y.bounded) ∧ (y.path = x.path ∨ (∃ t, y.path = s.trackPath t) ∨ (∃ p, y.path = s.pointPath p)
    ∨ ∃ p leg, y.path = s.walkedPath p leg)

/-- A point record becomes `rec`, before engine control is told the number of points FAILED. -/
def State.rewriteRecord (s : State) (p : Nat) (rec : Option PointRecord) : State :=
  (({ s with tables := { s.tables with points := writeAt s.tables.points p rec }, moments := s.moments + 1 }).dropThrow p).setPt p
    ((s.pt p).rewritten s.moments (rec.map PointRecord.nominal))

theorem State.putPoint_eq (s : State) (p : Nat) (rec : Option PointRecord) :
    s.putPoint p rec = (s.rewriteRecord p rec).tellFailed := rfl

/-- The engine as START leaves it, before the report (R134). -/
def State.started (s : State) : State :=
  { s.derive with engine := { s.engine with state := if s.engine.causes.none then .run else .halted } }

theorem State.startEngine_eq (s : State) : s.startEngine = s.started.enterEngine .start := rfl

/-- The part as a device reset leaves it, before the report and the selections: the commands that wait stay. -/
def State.cleared (s : State) (straps : Byte) : State :=
  { State.atDeviceReset straps with moments := s.moments, pending := s.pending }

/-- Engine CONFIG, binder CLOSED and sections DISTURBED, as STOP_ENGINE sets them first (R135). -/
def State.halting (s : State) : State :=
  let s1 := ({ s with engine := { s.engine with state := .config } }).shutBinder
  { s1 with sections := s1.sections.stopped }

/-! ### The parts -/

/-- Predicate `I` is kept by every part of a command; `R` holds of the cut records of a state with `I`. -/
structure KeptByParts (I : State → Prop) (R : CutRecord → Prop) : Prop where
  select {s} (p) : I s → I (s.select p)
  offer {s} (b) : I s → I (s.offer b)
  freeBuffer {s} (p) : I s → I (s.freeBuffer p)
  addCredits {s} (p n) : I s → I (s.addCredits p n)
  movePass {s} (p) : I s → I (s.movePass p)
  forward {s} (m) : I s → I (s.forward m)
  lineError {s} (p cls) : I s → I (s.lineError p cls)
  idlePort {s} (p) : I s → I (s.setPort p { s.port p with sending := none })
  unmapped {s} : I s → I { s with link := { s.link with unmapped := raise s.link.unmapped } }
  unknownPoint {s} : I s → I { s with link := { s.link with unknownPoint := raise s.link.unknownPoint } }
  emptyErrors {s} : I s → I s.emptyErrors
  writeDemand {s} : I s → I s.writeDemand
  demand {s} (a) : I s → I { s with signal := { s.signal with demand := a } }
  engine {s} (e : EngineControl) : (e.state = .config ↔ s.engine.state = .config) → I s → I { s with engine := e }
  binder {s} (b) : I s → I { s with binder := b }
  mgmt {s} (m : Management) : m.fence = s.mgmt.fence → I s → I { s with mgmt := m }
  fence {s} (f g) : fenceOf f = some g → I s → I { s with mgmt := { s.mgmt with fence := g } }
  dropThrow {s} (p) : I s → I (s.dropThrow p)
  setPt {s} (p r) : s.mayPut p r → ((s.pt p).safeFor (s.pointRecord p) → (s.pt p).waits → r.waits) → I s → I (s.setPt p r)
  dropPut {s} (p r) : s.mayPut p r → I s → I ((s.dropThrow p).setPt p r)
  placeThrow {s} (p leg reason) : 1 ≤ p ∧ p ≤ 63 → s.noneWaits p → s.mayPut p { s.pt p with
      state := if reason = .return then .returning leg else .pending leg, command := .queued reason } →
    I s → I (s.placeThrow p leg reason)
  joinClaim {s} (p i want) : I s → I (s.joinClaim p i want)
  changeClaim {s} (p i want) : I s → I (s.changeClaim p i want)
  leaveClaim {s} (p i) : I s → I (s.leaveClaim p i)
  leaveAll {s} (i) : I s → I (s.leaveAll i)
  setSlot {s} (i x y) : s.slot i = some x → s.mayFollow x y → I s → I (s.setSlot i (some y))
  freeSlot {s} (i) : I s → I (s.setSlot i none)
  bind {s} (t i record n target mark) : s.engine.state ≠ .config →
    ((record = none ∧ n = 1) ∨ ∃ r, record = some r ∧ n = r.expected ∧ R r) →
    I s → I (s.setSlot i (some (s.boundSlot t record n target mark)))
  setSec {s} (id x) : ((s.sec id).bounded → x.bounded) → I s → I (s.setSec id x)
  popCut {s} (r rest) : s.cutList = r :: rest → I s → I { s with cutList := rest } ∧ R r
  recordOf {s} (i x r) : s.slot i = some x → x.record = some r → I s → R r
  pushCut {s} (r) : s.cutList.length < Config.cutListRoom → R r → I s → I { s with cutList := r :: s.cutList }
  appendCut {s} (n x r) : cutRecordOf n x = some r → s.cutList.length < Config.cutListRoom → I s →
    I { s with cutList := s.cutList ++ [r] }
  insertCut {s} (reference n x r) : cutRecordOf n x = some r → s.cutList.length < Config.cutListRoom → I s →
    I { s with cutList := insertBefore reference r s.cutList }
  filterCut {s} (f) : I s → I { s with cutList := s.cutList.filter f }
  amendCut {s} (n x r) : cutRecordOf n x = some r → I s →
    I { s with cutList := s.cutList.map fun y => if y.number = n then r else y }
  rewriteRecord {s} (p) (rec : Option PointRecord) : s.engine.state = .config → (∀ x, rec = some x → x.bounded) → I s →
    I (s.rewriteRecord p rec)
  putTrack {s} (t) (rec : Option TrackRecord) :
    ((∀ x, s.trackRecord t = some x → x.bounded) → ∀ x, rec = some x → x.bounded) →
    (s.engine.state = .config ∨ ∃ old new, s.trackRecord t = some old ∧ rec = some new ∧ new.parent = old.parent
      ∧ new.leg = old.leg ∧ new.clearance = old.clearance) →
    I s → I (s.putTrack t rec)
  params {s} (x : Params) : (20 ≤ s.tables.params.entrySpeed ∧ s.tables.params.entrySpeed ≤ 1200 →
      20 ≤ x.entrySpeed ∧ x.entrySpeed ≤ 1200) →
    (s.engine.state = .config ∨ x.leadDetector = s.tables.params.leadDetector) →
    I s → I { s with tables := { s.tables with params := x } }
  route {s} (code value) : value ≤ 64 → I s → I { s with tables := { s.tables with routes := writeAt s.tables.routes code value } }
  patch {s} (k) (e : Patch) : ((readAt s.tables.patches ⟨false, 0, 0, 0⟩ k).bounded → e.bounded) → I s →
    I { s with tables := { s.tables with patches := writeAt s.tables.patches k e } }
  started {s} : s.engine.state = .config → s.tableCheck = none → I s → I s.started
  halting {s} : s.slotsInUse = 0 → I s → I s.halting
  warmState {s} : I s → I s.warmState
  cleared {s} (straps) : I s → I (s.cleared straps)
  tick {s} : I s → I s.tick
  pending {s} (l) : I s → I { s with pending := l }

/-! ### Sections stay in bounds (R41) -/

/-- No two neighbours are runs of one owner. -/
def Apart (l : List Run) : Prop := l.IsChain fun a b => a.owner ≠ b.owner

/-- A section list is in bounds. -/
def RunsBounded (l : List Run) : Prop := l.length ≤ 8 ∧ (∀ r ∈ l, 1 ≤ r.count ∧ r.count ≤ 127) ∧ Apart l

/-- The bound of a section is that of its list. -/
theorem Section.bounded_iff (x : Section) : x.bounded ↔ RunsBounded x.runs := by
  unfold Section.bounded RunsBounded Apart
  rw [List.isChain_iff_forall_rel_of_append_cons_cons]

theorem Apart.reverse {l : List Run} (h : Apart l) : Apart l.reverse := by
  unfold Apart at h ⊢
  rw [List.isChain_reverse]
  exact h.imp fun _ _ n => n.symm

theorem RunsBounded.reverse {l : List Run} (h : RunsBounded l) : RunsBounded l.reverse :=
  ⟨by simpa using h.1, fun r m => h.2.1 r (by simpa using m), h.2.2.reverse⟩

/-- Neighbours are told apart by their owners alone. -/
theorem Apart.of_owner {a b : Run} {l : List Run} (h : Apart (a :: l)) (e : a.owner = b.owner) : Apart (b :: l) := by
  cases l with
  | nil => exact .singleton b
  | cons c l =>
    obtain ⟨n, h⟩ := List.isChain_cons_cons.mp h
    exact List.isChain_cons_cons.mpr ⟨e ▸ n, h⟩

/-- An axle taken from the head leaves a list in bounds (R45). -/
theorem takeHead_bounded {l m : List Run} {o : Owner} (e : takeHead l = some (o, m)) (h : RunsBounded l) : RunsBounded m := by
  cases l with
  | nil => cases e
  | cons r l =>
    simp only [takeHead, Option.some.injEq, Prod.mk.injEq] at e
    obtain ⟨-, rfl⟩ := e
    obtain ⟨len, counts, apart⟩ := h
    have hr := counts r (by simp)
    split
    · exact ⟨by simp at len; omega, fun x hx => counts x (by simp [hx]), apart.tail⟩
    · refine ⟨by simpa using len, ?_, apart.of_owner rfl⟩
      simp only [List.mem_cons, forall_eq_or_imp]
      exact ⟨by omega, fun x hx => counts x (by simp [hx])⟩

/-- An axle added at the head leaves a list in bounds (R48, R52). -/
theorem addHead_bounded {l m : List Run} {o : Owner} (e : addHead o l = some m) (h : RunsBounded l) : RunsBounded m := by
  cases l with
  | nil =>
    cases e
    exact ⟨by simp, by simp, .singleton _⟩
  | cons r l =>
    obtain ⟨len, counts, apart⟩ := h
    have hr := counts r (by simp)
    have hl : ∀ x ∈ l, 1 ≤ x.count ∧ x.count ≤ 127 := fun x hx => counts x (by simp [hx])
    simp only [addHead] at e
    split at e <;> simp only [Option.ite_none_right_eq_some, Option.some.injEq] at e <;> obtain ⟨room, rfl⟩ := e
    · refine ⟨by simpa using len, ?_, apart.of_owner rfl⟩
      simp only [List.mem_cons, forall_eq_or_imp]
      exact ⟨⟨by omega, room⟩, hl⟩
    · refine ⟨room, by simpa using ⟨hr, hl⟩, List.isChain_cons_cons.mpr ⟨?_, apart⟩⟩
      exact fun n => absurd n.symm ‹_›

theorem takeRun_bounded {l m : List Run} {o : Owner} {side : Side} (e : takeRun side l = some (o, m)) (h : RunsBounded l) :
    RunsBounded m := by
  cases side with
  | head => exact takeHead_bounded e h
  | tail =>
    simp only [takeRun, Option.map_eq_some_iff, Prod.mk.injEq, Prod.exists] at e
    obtain ⟨o', m', e, -, rfl⟩ := e
    exact (takeHead_bounded e h.reverse).reverse

theorem addRun_bounded {l m : List Run} {o : Owner} {side : Side} (e : addRun o side l = some m) (h : RunsBounded l) :
    RunsBounded m := by
  cases side with
  | head => exact addHead_bounded e h
  | tail =>
    simp only [addRun, Option.map_eq_some_iff] at e
    obtain ⟨m', e, rfl⟩ := e
    exact (addHead_bounded e h.reverse).reverse

/-- Joined neighbours are apart (R59). -/
theorem joinRuns_apart (l : List Run) : Apart (joinRuns l) := by
  induction l with
  | nil => exact .nil
  | cons r l ih =>
    simp only [joinRuns]
    split
    · exact .singleton r
    · rename_i n tail e
      rw [e] at ih
      split
      · exact ih.of_owner ‹_›
      · exact List.isChain_cons_cons.mpr ⟨fun m => absurd m.symm ‹_›, ih⟩

theorem joinRuns_length (l : List Run) : (joinRuns l).length ≤ l.length := by
  induction l with
  | nil => exact Nat.le_refl 0
  | cons r l ih =>
    simp only [joinRuns]
    split
    · simp
    · rename_i e
      rw [e] at ih
      split <;> simp at * <;> omega

theorem joinRuns_pos {l : List Run} (h : ∀ r ∈ l, 1 ≤ r.count) : ∀ r ∈ joinRuns l, 1 ≤ r.count := by
  induction l with
  | nil => exact fun r m => nomatch m
  | cons r l ih =>
    have hr := h r (by simp)
    have ih := ih fun x hx => h x (by simp [hx])
    simp only [joinRuns]
    split
    · simpa using hr
    · rename_i n tail e
      rw [e] at ih
      simp only [List.mem_cons, forall_eq_or_imp] at ih
      split
      · simp only [List.mem_cons, forall_eq_or_imp]
        exact ⟨by omega, ih.2⟩
      · simpa using ⟨hr, ih⟩

/-- A section without a slot's runs is in bounds (R59). -/
theorem without_bounded {x : Section} (i : Nat) (h : RunsBounded x.runs) : RunsBounded (capRuns (x.without i)) := by
  obtain ⟨len, counts, -⟩ := h
  refine ⟨?_, ?_, ?_⟩
  · have h1 := joinRuns_length (x.runs.filter fun r => decide (r.owner ≠ .slot i))
    have h2 := List.length_filter_le (fun r : Run => decide (r.owner ≠ .slot i)) x.runs
    simp only [capRuns, Section.without, List.length_map]
    omega
  · have h1 := joinRuns_pos (l := x.runs.filter fun r => decide (r.owner ≠ .slot i))
      fun r m => (counts r (List.mem_of_mem_filter m)).1
    intro r m
    simp only [capRuns, List.mem_map, Section.without] at m
    obtain ⟨y, hy, rfl⟩ := m
    have := h1 y hy
    simp only [Config.axleCap]
    omega
  · exact (List.isChain_map _).mpr (joinRuns_apart _)

end Sys2Proof.Machine

/-! SUPPORT. The operations of the model as compositions of the parts: what every part keeps, every operation keeps. -/

namespace Sys2Proof.Machine

/-! ### What the written values meet -/

theorem clampSpeed_bounds (v : Nat) : 20 ≤ clampSpeed v ∧ clampSpeed v ≤ 1200 := by
  simp only [clampSpeed, clamp]
  repeat' split
  all_goals omega

theorem sampleOf_bounds (d : Nat) (a b : Clock) : 20 ≤ sampleOf d a b ∧ sampleOf d a b ≤ 1200 := by
  simp only [sampleOf]
  split
  · exact clampSpeed_bounds _
  · decide

theorem estimateOf_bounds (w l : List Nat) : 20 ≤ estimateOf w l ∧ estimateOf w l ≤ 1200 := clampSpeed_bounds _

/-- A slot with the same record, expectation, path and speeds, its counts in bounds and its reservation kept or released. -/
theorem State.mayFollow_of_counts {x y : Slot} (s : State) (record : y.record = x.record) (expected : y.expected = x.expected)
    (path : y.path = x.path) (samples : y.samples = x.samples) (estimate : y.estimate = x.estimate)
    (counted : x.counted ≤ 127 → y.counted ≤ 127) (cleared : x.cleared ≤ 127 → y.cleared ≤ 127)
    (reservation : y.reservation = x.reservation ∨ y.reservation = 0) : s.mayFollow x y := by
  refine ⟨fun ⟨h1, h2, h3, h4, h5, h6, h7, h8, h9⟩ => ?_, .inl path⟩
  exact ⟨counted h1, cleared h2, by omega, by omega, by rwa [samples], by rwa [samples], by omega, by omega, by rwa [record]⟩

/-- A slot of which neither a count nor a speed nor the path has changed. -/
theorem State.mayFollow_of_same {x y : Slot} (s : State) (h : (y.record, y.expected, y.path, y.samples, y.estimate, y.counted,
    y.cleared, y.reservation) = (x.record, x.expected, x.path, x.samples, x.estimate, x.counted, x.cleared, x.reservation)) :
    s.mayFollow x y := by
  simp only [Prod.mk.injEq] at h
  obtain ⟨h1, h2, h3, h4, h5, h6, h7, h8⟩ := h
  exact s.mayFollow_of_counts h1 h2 h3 h4 h5 (by omega) (by omega) (.inl h8)

theorem State.mayFollow_closed (s : State) (x : Slot) : s.mayFollow x x.closed := by
  refine ⟨fun ⟨h1, h2, h3, h4, h5, h6, h7, h8, h9⟩ => ?_, .inl ?_⟩
  · unfold Slot.closed
    cases h : x.record with
    | some r => exact ⟨h1, h2, h3, h4, h5, h6, h7, h8, fun r e => h9 r (h.trans e)⟩
    | none => exact ⟨h1, h2, h1, h4, h5, h6, h7, h8, fun r e => h9 r (h.trans e)⟩
  · unfold Slot.closed
    cases x.record <;> rfl

theorem State.mayFollow_retargeted (s : State) (x : Slot) (p : Nat) (leg : Leg) (r : Retarget) :
    s.mayFollow x (s.retargeted x p leg r) := by
  cases r with
  | track t mark => exact ⟨fun ⟨h1, h2, h3, _, h5, h6, h7, h8, h9⟩ => ⟨h1, h2, h3, h3, h5, h6, h7, h8, h9⟩, .inr (.inl ⟨t, rfl⟩)⟩
  | unresolved q =>
    exact ⟨fun ⟨h1, h2, h3, _, h5, h6, h7, h8, h9⟩ => ⟨h1, h2, h3, Nat.zero_le _, h5, h6, h7, h8, h9⟩, .inr (.inr (.inr ⟨p, leg, rfl⟩))⟩

theorem State.mayFollow_headMoved (s : State) (x : Slot) (c : Counter) (t : Clock) : s.mayFollow x (s.headMoved x c t) := by
  refine ⟨fun ⟨h1, h2, h3, h4, h5, h6, h7, h8, h9⟩ => ?_, .inl ?_⟩ <;> simp only [State.headMoved, State.armStall, State.sampled]
  · split
    · refine ⟨h1, h2, h3, h4, by simp, fun v hv => ?_, (estimateOf_bounds _ _).1, (estimateOf_bounds _ _).2, h9⟩
      rcases List.mem_cons.mp (List.mem_of_mem_take hv) with rfl | hv
      · exact sampleOf_bounds ..
      · exact h6 v hv
    · exact ⟨h1, h2, h3, h4, h5, h6, h7, h8, h9⟩
  · split <;> rfl

/-- A change of a runtime record that keeps its timer, retries and learned throw time, and whether its THROW waits. -/
theorem State.mayPut_of_same {s : State} {p : Nat} {r : PointRuntime} (bounded : (s.pt p).bounded → r.bounded)
    (timer : (s.pt p).timerSafe → r.timerSafe) (learned : r.learned = (s.pt p).learned) : s.mayPut p r :=
  fun _ ⟨h1, h2, h3⟩ => ⟨bounded h1, timer h2, fun T e => h3 T (learned ▸ e)⟩

/-- A runtime record whose deglitch timer is stopped. -/
theorem PointRuntime.timerSafe_of_stopped {r : PointRuntime} (h : r.deglitchTimer = none) : r.timerSafe := fun n => absurd h n

/-- A point in one of these states has its deglitch timer stopped. -/
theorem PointRuntime.timerSafe.stopped {r : PointRuntime} (h : r.timerSafe) (rest : ∀ e, r.state ≠ .rest e)
    (wait : ∀ e, r.state ≠ .waitRetry e) : r.deglitchTimer = none := by
  refine Classical.byContradiction fun n => ?_
  obtain ⟨e, h | h, -⟩ := h n
  · exact rest e h
  · exact wait e h

/-- Out of range a point has the runtime record of a reset. -/
theorem State.pt_outside (s : State) {p : Nat} (h : ¬(1 ≤ p ∧ p ≤ 63)) : s.pt p = .reset := readAt_outside _ _ h

/-- A point with a state other than UNKNOWN is one of the 63. -/
theorem State.pt_inside (s : State) {p : Nat} (h : (s.pt p).state ≠ .unknown) : 1 ≤ p ∧ p ≤ 63 :=
  Classical.byContradiction fun n => h (by rw [s.pt_outside n]; rfl)

/-- A write after a write of the same runtime record. -/
theorem State.setPt_setPt (s : State) (p : Nat) (a b : PointRuntime) : (s.setPt p a).setPt p b = s.setPt p b := by
  unfold State.setPt writeAt
  by_cases h : 1 ≤ p ∧ p ≤ 63
  · simp only [h, and_self, dite_true]
    congr 1
    exact Vector.ext fun i hi => by simp
  · simp [h]

section
variable {I : State → Prop} {R : CutRecord → Prop}

/-! ### The engine and the signal -/

theorem KeptByParts.recompute (P : KeptByParts I R) {s : State} (h : I s) : I s.recompute := by
  unfold State.recompute
  split
  · exact h
  · exact P.writeDemand (P.demand _ h)

theorem KeptByParts.reportEngine (P : KeptByParts I R) {s : State} (ev) (h : I s) : I (s.reportEngine ev) := P.offer _ h

theorem KeptByParts.changeCauses (P : KeptByParts I R) {s : State} (x ev) (h : I s) : I (s.changeCauses x ev) := by
  have settled : ({ s.engine with causes := x } : EngineControl).settledState = .config ↔ s.engine.state = .config := by
    unfold EngineControl.settledState
    cases s.engine.state <;> simp <;> split <;> simp
  unfold State.changeCauses
  split
  · exact h
  · simp only
    split
    · exact P.reportEngine ev (P.engine _ settled h)
    · exact P.recompute (P.reportEngine ev (P.engine _ settled h))

theorem KeptByParts.countTold (P : KeptByParts I R) {s : State} (h : I s) : I s.countTold := P.engine _ .rfl h

theorem KeptByParts.tellFailed (P : KeptByParts I R) {s : State} (h : I s) : I s.tellFailed :=
  P.changeCauses _ _ (P.countTold h)

theorem KeptByParts.tellViolation (P : KeptByParts I R) {s : State} (inStop) (h : I s) : I (s.tellViolation inStop) := by
  unfold State.tellViolation
  split
  · exact P.engine _ .rfl (P.countTold h)
  · exact P.changeCauses _ _ (P.countTold h)

theorem KeptByParts.enterEngine (P : KeptByParts I R) {s : State} (ev) (h : I s) : I (s.enterEngine ev) :=
  P.recompute (P.reportEngine ev h)

/-! ### Slots -/

theorem KeptByParts.updSlot (P : KeptByParts I R) {s : State} (i) (f : Slot → Slot) (hf : ∀ x, s.mayFollow x (f x)) (h : I s) :
    I (s.updSlot i f) := by
  unfold State.updSlot
  split
  · exact h
  · exact P.setSlot _ _ _ ‹_› (hf _) h

theorem KeptByParts.release (P : KeptByParts I R) {s : State} (i) (h : I s) : I (s.release i) :=
  P.updSlot i _ (fun _ => s.mayFollow_of_counts rfl rfl rfl rfl rfl id id (.inr rfl)) h

theorem KeptByParts.freeUp (P : KeptByParts I R) {s : State} (i) (h : I s) : I (s.freeUp i) := P.recompute (P.freeSlot i h)

/-- A fold of operations that keep `I`. -/
theorem foldl_kept {α : Type} {f : State → α → State} (hf : ∀ s a, I s → I (f s a)) (l : List α) {s : State} (h : I s) :
    I (l.foldl f s) := by
  induction l generalizing s with
  | nil => exact h
  | cons a l ih => exact ih (hf s a h)

/-! ### Point control -/

theorem KeptByParts.evaluateAtRest (P : KeptByParts I R) {s : State} (p) (h : I s) : I (s.evaluateAtRest p) := by
  unfold State.evaluateAtRest
  split
  · rename_i d hd
    unfold State.throwDue at hd
    split at hd
    · rename_i e he
      simp only [Option.ite_none_right_eq_some, Bool.and_eq_true, decide_eq_true_eq] at hd
      obtain ⟨⟨⟨⟨-, detected⟩, -⟩, -⟩, -⟩ := hd.1
      have stopped : (s.pt p).timerSafe → (s.pt p).deglitchTimer = none := fun t =>
        Classical.byContradiction fun n => by
          obtain ⟨e', h1 | h1, h2⟩ := t n <;> simp_all
      refine P.placeThrow _ _ _ (s.pt_inside (by simp [he])) (fun _ n => ?_) (State.mayPut_of_same ?_ ?_ rfl) h
      · obtain ⟨-, e', h1 | h1⟩ := n <;> simp [he] at h1
      · exact fun b => ⟨b.1, by simp⟩
      · exact fun t => PointRuntime.timerSafe_of_stopped (stopped t)
    · cases hd
  · exact h

theorem KeptByParts.withdraw (P : KeptByParts I R) {s : State} (p) (h : I s) : I (s.withdraw p) := by
  unfold State.withdraw
  split
  · rename_i e he
    refine P.dropPut _ _ (State.mayPut_of_same (fun b => ⟨b.1, by simp⟩) (fun t => ?_) rfl) h
    exact PointRuntime.timerSafe_of_stopped (t.stopped (by simp [he]) (by simp [he]))
  · exact h

theorem KeptByParts.reevaluate (P : KeptByParts I R) {s : State} (p) (h : I s) : I (s.reevaluate p) := by
  unfold State.reevaluate
  split
  · exact P.evaluateAtRest p h
  · split
    · exact P.evaluateAtRest p (P.withdraw p h)
    · exact h
  · exact h

theorem KeptByParts.reevaluateAll (P : KeptByParts I R) {s : State} (l) (h : I s) : I (s.reevaluateAll l) :=
  foldl_kept (fun _ p => P.reevaluate p) l h

theorem KeptByParts.withdrawn (P : KeptByParts I R) {s : State} (p) (h : I s) : I (s.withdrawn p) :=
  P.reevaluate p (P.withdraw p h)

theorem KeptByParts.markFailed (P : KeptByParts I R) {s : State} (p kind) (h : I s) : I (s.markFailed p kind) :=
  P.dropPut _ _ (State.mayPut_of_same (fun b => ⟨b.1, by simp⟩) (fun _ => PointRuntime.timerSafe_of_stopped rfl) rfl) h

theorem KeptByParts.failReported (P : KeptByParts I R) {s : State} (p kind) (h : I s) : I (s.failReported p kind) :=
  P.offer _ (P.tellFailed (P.markFailed p kind h))

theorem KeptByParts.becomeLost (P : KeptByParts I R) {s : State} (i cause reported) (h : I s) :
    I (s.becomeLost i cause reported) := by
  unfold State.becomeLost
  split
  · exact h
  · split
    · exact h
    · have lost (y) (hy : s.mayFollow _ y) := P.release i (P.reevaluateAll (s.standing i) (P.leaveAll i (P.setSlot i _ y ‹_› hy h)))
      simp only
      split
      · exact P.offer _ (lost _ (s.mayFollow_of_same rfl))
      · exact lost _ (s.mayFollow_of_same rfl)

theorem KeptByParts.violation (P : KeptByParts I R) {s : State} (p entry inStop) (h : I s) : I (s.violation p entry inStop) :=
  P.offer _ (foldl_kept (fun _ i => P.becomeLost i _ _) _ (P.tellViolation inStop (P.markFailed p _ h)))

theorem KeptByParts.guardEntry (P : KeptByParts I R) {s : State} (p t owner) (h : I s) : I (s.guardEntry p t owner) := by
  unfold State.guardEntry
  split
  · exact P.withdrawn p h
  · exact P.violation p _ _ h
  · exact P.violation p _ _ h
  all_goals exact h

theorem KeptByParts.guardOccupied (P : KeptByParts I R) {s : State} (p inStop) (h : I s) : I (s.guardOccupied p inStop) := by
  unfold State.guardOccupied
  split
  · exact P.withdrawn p h
  · split
    · exact P.violation p _ _ h
    · exact h
  all_goals exact h

theorem KeptByParts.guardChange (P : KeptByParts I R) {s : State} (p before) (h : I s) : I (s.guardChange p before) := by
  unfold State.guardChange
  split
  · exact h
  · split
    · exact P.reevaluate p h
    · exact P.guardOccupied p false h

theorem KeptByParts.refuseStart (P : KeptByParts I R) {s : State} (p) (h : I s) : I (s.refuseStart p) := by
  unfold State.refuseStart
  split
  · exact P.withdrawn p h
  · exact P.violation p _ _ h
  all_goals exact P.dropThrow p h

theorem KeptByParts.selectThrow (P : KeptByParts I R) (n) {s : State} (h : I s) : I (s.selectThrow n) := by
  induction n generalizing s with
  | zero => exact P.select .t h
  | succ n ih =>
    unfold State.selectThrow
    split
    · split
      · exact P.select .t h
      · exact ih (P.refuseStart _ h)
    · exact P.select .t h

theorem KeptByParts.selectWaiting (P : KeptByParts I R) {s : State} (p) (h : I s) : I (s.selectWaiting p) := by
  cases p with
  | y => exact P.select .y h
  | t => exact P.selectThrow _ h

/-! ### Faults and the reports of a point's machine -/

theorem KeptByParts.faultDecision (P : KeptByParts I R) {s : State} (p e kind) (he : (s.pt p).state = .moving e) (h : I s) :
    I (s.faultDecision p e kind) := by
  unfold State.faultDecision
  simp only
  split
  · rename_i c
    have hp := s.pt_inside (p := p) (by simp [he])
    simp only [Bool.and_eq_true, Option.any_eq_true, decide_eq_true_eq] at c
    obtain ⟨⟨rec, hrec, -, limit⟩, -⟩ := c
    refine P.offer _ (P.placeThrow _ _ _ hp (fun _ n => ?_) (fun records safe => ?_)
      (P.setPt _ _ (State.mayPut_of_same (fun b => ⟨b.1, b.2⟩) id rfl) (fun _ w => w) h))
    · obtain ⟨-, e', w⟩ := n
      simp [hp, he] at w
    · rw [State.pt_setPt_self _ _ _ hp] at safe ⊢
      obtain ⟨b, t, l⟩ := safe
      refine ⟨⟨b.1, fun _ => ?_⟩, PointRuntime.timerSafe_of_stopped (t.stopped (by simp [he]) (by simp [he])), l⟩
      have := (records rec hrec).2.2.2.2
      simp only
      omega
  · exact P.failReported p kind h

/-- A learned throw time lies within its record's limits (R73). -/
theorem learn_bounds {T : Nat} {m : Int} {a b : Nat} (h : a ≤ b) : a ≤ learn T m a b ∧ learn T m a b ≤ b := by
  simp only [learn, clamp]
  repeat' split
  all_goals omega

theorem KeptByParts.throwSuccess (P : KeptByParts I R) {s : State} (p e rec) (hrec : s.pointRecord p = some rec)
    (he : (s.pt p).state = .moving e) (h : I s) : I (s.throwSuccess p e rec) := by
  refine P.reevaluate p (P.setPt _ _ (fun records safe => ?_) (fun _ w => ?_) h)
  · obtain ⟨b, t, l⟩ := safe
    refine ⟨⟨by simp, by simp⟩, PointRuntime.timerSafe_of_stopped (t.stopped (by simp [he]) (by simp [he])), ?_⟩
    rintro T hT
    obtain ⟨-, h1, h2, -⟩ := records rec hrec
    cases hT
    exact ⟨rec, hrec, learn_bounds (h1.trans h2)⟩
  · obtain ⟨-, e', w⟩ := w
    simp [he] at w

theorem KeptByParts.statusMoving (P : KeptByParts I R) {s : State} (p e rec detected drive) (hrec : s.pointRecord p = some rec)
    (he : (s.pt p).state = .moving e) (h : I s) : I (s.statusMoving p e rec detected drive) := by
  unfold State.statusMoving
  split
  · exact P.failReported p _ h
  · exact P.faultDecision p e _ he h
  · split
    · exact h
    · split
      · exact P.throwSuccess p e rec hrec he h
      · exact P.faultDecision p e _ he h
  · split
    · exact P.throwSuccess p e rec hrec he h
    · exact h

theorem KeptByParts.returnComplete (P : KeptByParts I R) {s : State} (p origin rec) (he : (s.pt p).state = .returning origin)
    (sent : (s.pt p).command.isQueued = false) (h : I s) : I (s.returnComplete p origin rec) := by
  refine P.setPt _ _ (State.mayPut_of_same (fun b => ⟨?_, by simp⟩) (fun t => ?_) rfl) (fun _ w => ?_) h
  · have := b.2 ⟨origin, he⟩
    simp only
    omega
  · exact PointRuntime.timerSafe_of_stopped (t.stopped (by simp [he]) (by simp [he]))
  · rw [w.1] at sent
    cases sent

theorem KeptByParts.statusReturning (P : KeptByParts I R) {s : State} (p origin rec detected drive)
    (he : (s.pt p).state = .returning origin) (sent : (s.pt p).command.isQueued = false) (h : I s) :
    I (s.statusReturning p origin rec detected drive) := by
  unfold State.statusReturning
  split
  · exact P.failReported p _ h
  · exact P.failReported p _ h
  · split
    · exact h
    · split
      · exact P.returnComplete p origin rec he sent h
      · exact P.failReported p _ h
  · split
    · exact P.returnComplete p origin rec he sent h
    · exact h

/-- The deglitch timer of a point is stopped. -/
theorem KeptByParts.stopDeglitch (P : KeptByParts I R) {s : State} (p) (h : I s) :
    I (s.setPt p { s.pt p with deglitchTimer := none }) :=
  P.setPt _ _ (State.mayPut_of_same (fun b => b) (fun _ => PointRuntime.timerSafe_of_stopped rfl) rfl) (fun _ w => w) h

theorem KeptByParts.deglitchExpired (P : KeptByParts I R) {s : State} (p) (running : (s.pt p).deglitchTimer ≠ none) (h : I s) :
    I (s.deglitchExpired p) := by
  have hp : 1 ≤ p ∧ p ≤ 63 := Classical.byContradiction fun n => running (by rw [s.pt_outside n]; rfl)
  have h1 := P.stopDeglitch p h
  unfold State.deglitchExpired
  simp only
  split
  · exact h1
  · exact P.failReported p _ h1
  · split
    · exact h1
    · split
      · refine P.reevaluate p (P.offer _ ?_)
        rw [State.pt_setPt_self _ _ _ hp, State.setPt_setPt]
        refine P.setPt _ _ (State.mayPut_of_same (fun b => ⟨b.1, by simp⟩) (fun _ => PointRuntime.timerSafe_of_stopped rfl) rfl)
          (fun ⟨_, t, _⟩ w => ?_) h
        obtain ⟨e1, h2 | h2, -⟩ := t running <;> obtain ⟨-, e2, h3 | h3⟩ := w <;> simp [h2] at h3
      · exact P.violation p _ _ h1

theorem KeptByParts.deglitchStart (P : KeptByParts I R) {s : State} (p deglitch e)
    (he : (s.pt p).state = .rest e ∨ (s.pt p).state = .waitRetry e) (differs : (s.pt p).detected ≠ some e) (h : I s) :
    I (s.deglitchStart p deglitch) := by
  have hp := s.pt_inside (p := p) (by rcases he with he | he <;> simp [he])
  unfold State.deglitchStart
  split
  · exact h
  · have h1 : I (s.setPt p { s.pt p with deglitchTimer := some (after s.clock deglitch) }) :=
      P.setPt _ _ (State.mayPut_of_same (fun b => b) (fun _ _ => ⟨e, he, differs⟩) rfl) (fun _ w => w) h
    simp only
    split
    · exact P.deglitchExpired p (by simp [hp]) h1
    · exact h1

/-- A withdrawn THROW leaves the point at rest at the end it lay at (R109). -/
theorem State.pt_withdraw {s : State} {p : Nat} {e : Leg} (he : (s.pt p).state = .pending e) :
    (s.withdraw p).pt p = { s.pt p with state := .rest e.other, command := .none } := by
  have hp := s.pt_inside (p := p) (by simp [he])
  simp [State.withdraw, he, hp]

/-- A point whose machine does not report the end it lies at is not thrown (R107). -/
theorem State.evaluateAtRest_idle {s : State} {p : Nat} {e : Leg} (he : (s.pt p).state = .rest e)
    (differs : (s.pt p).detected ≠ some e) : s.evaluateAtRest p = s := by
  simp [State.evaluateAtRest, State.throwDue, he, differs]

@[simp] theorem Leg.other_other (e : Leg) : e.other.other = e := by cases e <;> rfl

@[simp] theorem Leg.other_ne (e : Leg) : e.other ≠ e := by cases e <;> simp [Leg.other]

theorem KeptByParts.statusAtRest (P : KeptByParts I R) {s : State} (p e rec detected)
    (he : (s.pt p).state = .rest e ∨ (s.pt p).state = .waitRetry e ∨ (s.pt p).state = .pending e.other)
    (differs : detected ≠ some e) (recorded : (s.pt p).detected = detected) (h : I s) :
    I (s.statusAtRest p e rec detected) := by
  subst recorded
  unfold State.statusAtRest
  rw [if_neg differs]
  rcases he with he | he | he
  · simp only [he]
    exact P.deglitchStart p _ e (.inl he) differs h
  · simp only [he]
    exact P.deglitchStart p _ e (.inr he) differs h
  · have rest := State.pt_withdraw he
    rw [Leg.other_other] at rest
    have still : s.withdrawn p = s.withdraw p := by
      simp only [State.withdrawn, State.reevaluate, rest]
      exact State.evaluateAtRest_idle (by rw [rest]) (by simpa [rest] using differs)
    simp only [he]
    rw [still]
    exact P.deglitchStart p _ e (.inl (by rw [rest])) (by simpa [rest] using differs) (P.withdraw p h)

theorem KeptByParts.statusTaken (P : KeptByParts I R) {s : State} (p rec detected drive) (hrec : s.pointRecord p = some rec)
    (h : I s) : I (s.statusTaken p rec detected drive) := by
  have hp : 1 ≤ p ∧ p ≤ 63 := Classical.byContradiction fun n => by
    rw [State.pointRecord, readAt_outside _ _ n] at hrec
    cases hrec
  -- the record of the status alone, where the point does not lie at the end detected
  have taken (differs : ∀ e, (s.pt p).state = .rest e ∨ (s.pt p).state = .waitRetry e → detected ≠ some e) :
      I (s.setPt p { s.pt p with detected := detected, drive := drive }) :=
    P.setPt _ _ (State.mayPut_of_same (fun b => b) (fun t n => by
      obtain ⟨e, he, -⟩ := t n
      exact ⟨e, he, differs e he⟩) rfl) (fun _ w => w) h
  -- the record of the status with the deglitch timer stopped
  have agrees : I (s.setPt p { s.pt p with detected := detected, drive := drive, deglitchTimer := none }) :=
    P.setPt _ _ (State.mayPut_of_same (fun b => b) (fun _ => PointRuntime.timerSafe_of_stopped rfl) rfl) (fun _ w => w) h
  have lying (e : Leg) (he : (s.pt p).state = .rest e ∨ (s.pt p).state = .waitRetry e ∨ (s.pt p).state = .pending e.other) :
      I ((s.setPt p { s.pt p with detected := detected, drive := drive }).statusAtRest p e rec detected) := by
    by_cases d : detected = some e
    · simp only [State.statusAtRest, d, if_true]
      rw [State.pt_setPt_self _ _ _ hp, State.setPt_setPt]
      simpa only [d] using agrees
    · refine P.statusAtRest p e rec detected (by simpa [hp] using he) d (by simp [hp]) (taken fun k hk => ?_)
      rcases he with he | he | he <;> rcases hk with hk | hk <;> rw [he] at hk <;> cases hk <;> exact d
  unfold State.statusTaken
  simp only
  split
  · rename_i he
    have h1 := taken fun e n => by simp [he] at n
    cases detected with
    | none => exact h1
    | some e =>
      refine P.reevaluate p (P.setPt _ _ (State.mayPut_of_same (fun b => ⟨b.1, by simp⟩) (fun t => ?_) rfl) (fun _ w => ?_) h1)
      · exact PointRuntime.timerSafe_of_stopped (t.stopped (by simp [hp, he]) (by simp [hp, he]))
      · obtain ⟨-, e', w⟩ := w
        simp [hp, he] at w
  · exact lying _ (.inl ‹_›)
  · rename_i e he
    exact lying _ (.inr (.inr (by rw [he, Leg.other_other])))
  · exact lying _ (.inr (.inl ‹_›))
  · rename_i e he
    exact P.statusMoving p e rec _ _ hrec (by simp [hp, he]) (taken fun e n => by simp [he] at n)
  · rename_i e he
    have h1 := taken fun e n => by simp [he] at n
    split
    · exact h1
    · rename_i sent
      exact P.statusReturning p e rec _ _ (by simp [hp, he]) (by simpa [hp] using sent) h1
  · rename_i he
    exact taken fun e n => by simp [he] at n

theorem KeptByParts.pointStatus (P : KeptByParts I R) {s : State} (src p detected drive) (h : I s) :
    I (s.pointStatus src p detected drive) := by
  unfold State.pointStatus
  split
  · split
    · exact P.statusTaken p _ _ _ ‹_› h
    · exact P.unknownPoint h
  · exact P.unknownPoint h

theorem KeptByParts.wrongLeg (P : KeptByParts I R) {s : State} (p) (h : I s) : I (s.wrongLeg p) := by
  unfold State.wrongLeg
  split
  · exact P.offer _ (P.setPt _ _ (State.mayPut_of_same id id rfl) (fun _ w => w) h)
  · exact P.failReported p _ h

/-! ### Cut tracking -/

theorem KeptByParts.alignAt (P : KeptByParts I R) {s : State} (i x base p) (h : I s) : I (s.alignAt i x base p) := by
  unfold State.alignAt
  split
  · exact P.leaveClaim p i h
  · split
    · exact P.changeClaim p i _ h
    · split
      · exact h
      · exact P.joinClaim p i _ h

theorem KeptByParts.alignClaims (P : KeptByParts I R) {s : State} (i base) (h : I s) : I (s.alignClaims i base) := by
  unfold State.alignClaims
  split
  · exact h
  · exact foldl_kept (fun _ p => P.alignAt i _ base p) _ h

theorem KeptByParts.joinPath (P : KeptByParts I R) {s : State} (i path) (h : I s) : I (s.joinPath i path) :=
  foldl_kept (fun _ x => P.joinClaim x.1 i _) _ h

theorem KeptByParts.takeRetarget (P : KeptByParts I R) {s : State} (i p leg result base) (h : I s) :
    I (s.takeRetarget i p leg result base) := by
  unfold State.takeRetarget
  split
  · exact h
  · exact P.offer _ (P.alignClaims i base (P.setSlot _ _ _ ‹_› (s.mayFollow_retargeted ..) h))

theorem KeptByParts.becomeUnresolved (P : KeptByParts I R) {s : State} (i p) (h : I s) : I (s.becomeUnresolved i p) := by
  unfold State.becomeUnresolved
  split
  · exact h
  · refine P.offer _ (P.alignClaims i p (P.setSlot _ _ _ ‹_› ⟨fun b => ?_, .inr (.inr (.inl ⟨p, rfl⟩))⟩ h))
    obtain ⟨h1, h2, h3, h4, h5⟩ := b
    exact ⟨h1, h2, h3, Nat.zero_le _, h5⟩

theorem KeptByParts.cornered (P : KeptByParts I R) {s : State} (i p pathLeg lying) (h : I s) :
    I (s.cornered i p pathLeg lying) := by
  unfold State.cornered
  split
  · exact h
  · rename_i x hx
    exact P.takeRetarget _ _ _ _ _ (P.offer _ (P.setSlot i x _ hx (s.mayFollow_of_same rfl) h))

theorem KeptByParts.settleBy (P : KeptByParts I R) {s : State} (i p pathLeg o) (h : I s) : I (s.settleBy i p pathLeg o) := by
  cases o with
  | none => exact P.becomeUnresolved i p h
  | some e =>
    simp only [State.settleBy]
    split
    · exact h
    · exact P.cornered i p _ _ h

theorem KeptByParts.settleOnPath (P : KeptByParts I R) {s : State} (i p pathLeg) (h : I s) : I (s.settleOnPath i p pathLeg) := by
  unfold State.settleOnPath
  split
  · exact P.becomeLost _ _ _ h
  · exact P.becomeLost _ _ _ h
  · exact P.settleBy _ _ _ _ (P.withdrawn p h)
  all_goals exact P.settleBy _ _ _ _ h

theorem KeptByParts.settle (P : KeptByParts I R) {s : State} (i p) (h : I s) : I (s.settle i p) := by
  unfold State.settle
  split
  · exact h
  · split
    · exact P.settleOnPath i p _ h
    · split
      · split
        · exact P.becomeLost _ _ _ h
        · exact P.becomeLost _ _ _ h
        all_goals exact h
      · exact P.becomeLost _ _ _ h

theorem KeptByParts.misrouted (P : KeptByParts I R) {s : State} (i p pathLeg observed) (h : I s) :
    I (s.misrouted i p pathLeg observed) := by
  have h1 := P.wrongLeg p h
  unfold State.misrouted
  simp only
  split
  · exact h1
  · rename_i x hx
    exact P.takeRetarget _ _ _ _ _ (P.offer _ (P.setSlot i x _ hx (State.mayFollow_of_same _ rfl) h1))

theorem KeptByParts.legCheck (P : KeptByParts I R) {s : State} (i p observed) (h : I s) : I (s.legCheck i p observed) := by
  unfold State.legCheck
  split
  · exact h
  · split
    · exact P.takeRetarget _ _ _ _ _ h
    · split
      · exact P.becomeLost _ _ _ h
      · split
        · exact h
        · exact P.misrouted _ _ _ _ h

theorem KeptByParts.divisionCheck (P : KeptByParts I R) {s : State} (i p observed) (h : I s) :
    I (s.divisionCheck i p observed) := by
  unfold State.divisionCheck
  split
  · exact h
  · split
    · exact h
    · split
      · exact P.becomeLost _ _ _ h
      · split
        · exact h
        · exact P.becomeLost _ _ _ h

theorem KeptByParts.reenter (P : KeptByParts I R) {s : State} (i p) (h : I s) : I (s.reenter i p) := by
  unfold State.reenter
  split
  · exact h
  · split
    · exact h
    · split
      · exact P.joinClaim p i _ h
      · exact P.becomeLost _ _ _ h

theorem KeptByParts.tailTest (P : KeptByParts I R) {s : State} (i) (h : I s) : I (s.tailTest i) := by
  unfold State.tailTest
  split
  · exact h
  · split
    · exact h
    · exact foldl_kept (fun _ p => P.leaveClaim p i) _ h

theorem KeptByParts.charge (P : KeptByParts I R) {s : State} (t n) (h : I s) : I (s.charge t n) := by
  unfold State.charge
  split
  · exact h
  · rename_i r hr
    refine P.putTrack t (some { r with room := r.room - n }) (fun b x e => ?_) (.inr ⟨r, _, hr, rfl, rfl, rfl, rfl⟩) h
    cases e
    obtain ⟨h1, h2⟩ := b r hr
    exact ⟨(Nat.sub_le _ _).trans h1, h2⟩

theorem KeptByParts.clearInto (P : KeptByParts I R) {s : State} (i t x) (h : I s) : I (s.clearInto i t x) :=
  P.freeUp i (P.reevaluateAll _ (P.leaveAll i (P.offer _ (P.release i (P.charge t _ h)))))

theorem KeptByParts.tryClear (P : KeptByParts I R) {s : State} (i) (h : I s) : I (s.tryClear i) := by
  unfold State.tryClear
  split
  · exact h
  · split
    · split
      · exact P.clearInto i _ _ h
      · exact h
    all_goals exact h

/-- One more cleared axle stays within its bound (R77). -/
theorem State.mayFollow_cleared (s : State) (x : Slot) (phase : SlotPhase) :
    s.mayFollow x { x.clearedOne with phase := phase } :=
  s.mayFollow_of_counts rfl rfl rfl rfl rfl id (fun _ => Nat.min_le_left _ _) (.inl rfl)

theorem KeptByParts.startClearing (P : KeptByParts I R) {s : State} (i t) (h : I s) : I (s.startClearing i t) := by
  unfold State.startClearing
  split
  · exact h
  · refine P.tryClear i (P.updSlot i _ (fun x => State.mayFollow_cleared _ x _) ?_)
    split
    · exact P.becomeLost _ _ _ h
    · exact h

theorem KeptByParts.clearedAxle (P : KeptByParts I R) {s : State} (i t) (h : I s) : I (s.clearedAxle i t) := by
  unfold State.clearedAxle
  split
  · exact h
  · refine P.tryClear i (P.updSlot i _ (fun x => State.mayFollow_cleared _ x x.phase) ?_)
    split
    · exact P.becomeLost _ _ _ h
    · exact h

theorem KeptByParts.roleStep (P : KeptByParts I R) {s : State} (i lost c) (h : I s) : I (s.roleStep i lost c) := by
  cases c with
  | lead => exact h
  | guardIn p =>
    simp only [State.roleStep]
    split
    · exact h
    · exact P.settle i p h
  | guardOut p x =>
    simp only [State.roleStep]
    split
    · exact h
    · exact P.legCheck i p x h
  | clearance t => exact P.startClearing i t h

theorem KeptByParts.stallExpired (P : KeptByParts I R) {s : State} (i) (h : I s) : I (s.stallExpired i) := by
  unfold State.stallExpired
  split
  · exact h
  · rename_i x hx
    exact P.offer _ (P.setSlot i x _ hx (s.mayFollow_of_same rfl) h)

theorem KeptByParts.stallAtOnce (P : KeptByParts I R) {s : State} (i) (h : I s) : I (s.stallAtOnce i) := by
  unfold State.stallAtOnce
  split
  · exact P.stallExpired i h
  · exact h

theorem KeptByParts.headCrossing (P : KeptByParts I R) {s : State} (i x c t) (hx : s.slot i = some x) (h : I s) :
    I (s.headCrossing i x c t) :=
  P.roleStep _ _ _ (P.stallAtOnce i (P.setSlot _ _ _ hx (s.mayFollow_headMoved x c t) h))

theorem KeptByParts.lateral (P : KeptByParts I R) {s : State} (i c) (h : I s) : I (s.lateral i c) := by
  cases c with
  | lead => exact h
  | guardIn p => exact P.reenter i p h
  | guardOut p leg => exact P.divisionCheck i p leg h
  | clearance t => exact P.clearedAxle i t h

theorem KeptByParts.unanchor (P : KeptByParts I R) {s : State} (i) (h : I s) : I (s.unanchor i) :=
  P.updSlot i _ (fun _ => s.mayFollow_of_same rfl) h

/-! ### The crest binder -/

theorem KeptByParts.giveSlot (P : KeptByParts I R) {s : State} (t i record n target mark) (run : s.engine.state ≠ .config)
    (hr : (record = none ∧ n = 1) ∨ ∃ r, record = some r ∧ n = r.expected ∧ R r) (h : I s) :
    I (s.giveSlot t i record n target mark) := by
  have h1 := P.binder ⟨(s.setSlot i (some (s.boundSlot t record n target mark))).recompute.binder.state,
    (s.setSlot i (some (s.boundSlot t record n target mark))).recompute.binder.gap, s.binder.nextOrdinal + 1⟩
    (P.recompute (P.bind t i record n target mark run hr h))
  exact P.binder _ (P.binder _ (P.offer _ (P.joinPath i _ h1)))

theorem KeptByParts.candidate (P : KeptByParts I R) {s : State} (r) (h : I s) : I (s.candidate r).2 := by
  unfold State.candidate
  split
  · exact h
  · split
    · refine P.patch _ _ (fun b => ?_) h
      obtain ⟨h1, h2, h3⟩ := b
      unfold Patch.drawn
      split
      · exact ⟨h1, h2, h3⟩
      · exact ⟨h1, h2, (Nat.sub_le _ _).trans h3⟩
    · exact h

theorem KeptByParts.bindListed (P : KeptByParts I R) {s : State} (t i r rest) (run : s.engine.state ≠ .config)
    (hl : s.cutList = r :: rest) (h : I s) : I (s.bindListed t i r rest) := by
  obtain ⟨h1, hr⟩ := P.popCut r rest hl h
  exact P.giveSlot _ _ _ _ _ _ (by simpa using run) (.inr ⟨r, rfl, rfl, hr⟩) (P.candidate r (P.recompute h1))

theorem KeptByParts.restartGap (P : KeptByParts I R) {s : State} (t) (h : I s) : I (s.restartGap t) := P.binder _ h

theorem KeptByParts.binderDown (P : KeptByParts I R) {s : State} (t) (run : s.engine.state ≠ .config) (h : I s) :
    I (s.binderDown t).1 := by
  unfold State.binderDown
  split
  · exact P.restartGap t (P.updSlot _ _ (fun x => s.mayFollow_of_counts rfl rfl rfl rfl rfl (fun _ => Nat.min_le_left _ _) id
      (.inl rfl)) h)
  · exact P.restartGap t h
  · split
    · exact P.restartGap t (P.binder _ (P.offer _ h))
    · exact P.bindListed t _ _ _ run ‹_› h
    · exact P.giveSlot _ _ _ _ _ _ run (.inl ⟨rfl, rfl⟩) h

theorem KeptByParts.closeSlot (P : KeptByParts I R) {s : State} (i) (h : I s) : I (s.closeSlot i) := by
  unfold State.closeSlot
  split
  · exact h
  · have h1 := P.setSlot i _ _ ‹_› (s.mayFollow_closed _) h
    simp only
    split
    · split
      · exact P.offer _ h1
      · exact h1
    · exact h1

theorem KeptByParts.shutBinder (P : KeptByParts I R) {s : State} (h : I s) : I s.shutBinder := P.binder _ h

theorem KeptByParts.closeCut (P : KeptByParts I R) {s : State} (h : I s) : I s.closeCut := by
  unfold State.closeCut
  split
  · exact P.tryClear _ (P.shutBinder (P.closeSlot _ h))
  all_goals exact P.shutBinder h

theorem KeptByParts.capClosure (P : KeptByParts I R) {s : State} (h : I s) : I s.capClosure := by
  unfold State.capClosure
  split
  · split
    · exact P.closeCut h
    · exact h
  all_goals exact h

theorem KeptByParts.gapExpiry (P : KeptByParts I R) {s : State} (h : I s) : I s.gapExpiry := by
  unfold State.gapExpiry
  split
  · exact P.closeCut h
  · exact h

theorem KeptByParts.gapAtOnce (P : KeptByParts I R) {s : State} (h : I s) : I s.gapAtOnce := P.gapExpiry h

theorem KeptByParts.returnRecord (P : KeptByParts I R) {s : State} (o : Option CutRecord) (ho : ∀ r, o = some r → R r)
    (h : I s) : I (s.returnRecord o) := by
  cases o with
  | none => exact h
  | some r =>
    simp only [State.returnRecord]
    split
    · exact P.recompute (P.pushCut r ‹_› (ho r rfl) h)
    · exact P.offer _ h

theorem KeptByParts.rollBack (P : KeptByParts I R) {s : State} (i x) (hx : s.slot i = some x) (h : I s) : I (s.rollBack i x) := by
  have h1 := P.returnRecord x.record (fun r hr => P.recordOf i x r hx hr h)
    (P.freeUp i (P.release i (P.reevaluateAll (s.standing i) (P.leaveAll i h))))
  unfold State.rollBack
  simp only
  split
  · exact P.shutBinder h1
  · exact h1

theorem KeptByParts.rollbackTest (P : KeptByParts I R) {s : State} (i) (h : I s) : I (s.rollbackTest i) := by
  unfold State.rollbackTest
  split
  · exact h
  · split
    · exact P.rollBack i _ ‹_› h
    · exact h

theorem KeptByParts.countDown (P : KeptByParts I R) {s : State} (i) (h : I s) : I (s.countDown i) :=
  P.updSlot i _ (fun _ => s.mayFollow_of_counts rfl rfl rfl rfl rfl (fun b => (Nat.sub_le _ _).trans b) id (.inl rfl)) h

theorem KeptByParts.binderLoses (P : KeptByParts I R) {s : State} (i) (h : I s) : I (s.binderLoses i) := by
  unfold State.binderLoses
  split
  · exact P.binder _ h
  · exact h

/-! ### Axle counting -/

theorem KeptByParts.disturb (P : KeptByParts I R) {s : State} (id cause d t owner) (h : I s) :
    I (s.disturb id cause d t owner) := by
  unfold State.disturb
  split
  · split
    · exact h
    · exact P.becomeLost _ _ _ h
  · refine P.offer _ (foldl_kept (fun _ i => P.becomeLost i _ _) _ (P.setSec id _ ?_ h))
    simp only [Section.bounded_iff]
    exact fun b => b

theorem KeptByParts.takeAxle (P : KeptByParts I R) {s : State} (id side d t) (h : I s) : I (s.takeAxle id side d t).1 := by
  unfold State.takeAxle
  split
  · refine P.setSec id _ ?_ h
    simp only [Section.bounded_iff]
    exact takeRun_bounded ‹_›
  · exact P.disturb id .emptySource (some d) (some t) .unknown h

theorem KeptByParts.enterAxle (P : KeptByParts I R) {s : State} (id side owner d t) (h : I s) :
    I (s.enterAxle id side owner d t).1 := by
  unfold State.enterAxle
  split
  · rename_i runs e
    have h1 : I (s.setSec id { s.sec id with runs := runs }) := by
      refine P.setSec id _ ?_ h
      simp only [Section.bounded_iff]
      exact addRun_bounded e
    simp only
    split
    · exact P.becomeLost _ _ _ h1
    · exact h1
  · exact P.disturb _ _ _ _ _ h

theorem KeptByParts.takeCrossing (P : KeptByParts I R) {s : State} (i c dir t discarded) (h : I s) :
    I (s.takeCrossing i c dir t discarded) := by
  unfold State.takeCrossing
  split
  · exact h
  · split
    · exact h
    · refine P.reevaluateAll _ (P.tailTest i ?_)
      unfold State.sortCrossing
      split
      · split
        · exact P.headCrossing i _ c t ‹_› h
        · exact P.lateral i c h
      · have h1 := P.unanchor i h
        cases c with
        | lead => exact P.rollbackTest i h1
        | guardOut p leg => exact P.reenter i p h1
        | guardIn p => exact h1
        | clearance t => exact h1

theorem KeptByParts.handOver (P : KeptByParts I R) {s : State} (owner c dir t discarded) (h : I s) :
    I (s.handOver owner c dir t discarded) := by
  cases owner with
  | unknown => exact h
  | slot i => exact P.takeCrossing i c dir t discarded h

theorem KeptByParts.crossBetween (P : KeptByParts I R) {s : State} (c u v dir d t) (h : I s) :
    I (s.crossBetween c u v dir d t).1 := by
  cases dir <;> exact P.handOver _ _ _ _ _ (P.enterAxle _ _ _ _ _ (P.takeAxle _ _ _ _ h))

theorem KeptByParts.crossGuard (P : KeptByParts I R) {s : State} (p c u v entry dir d t) (h : I s) :
    I (s.crossGuard p c u v entry dir d t) := by
  have h1 := P.crossBetween c u v dir d t h
  refine P.guardChange p _ ?_
  split
  · exact P.guardEntry _ _ _ h1
  · exact h1

theorem KeptByParts.crossLeadDown (P : KeptByParts I R) {s : State} (lead d t) (run : s.engine.state ≠ .config) (h : I s) :
    I (s.crossLeadDown lead d t) :=
  P.gapAtOnce (P.handOver _ _ _ _ _ (P.capClosure (P.enterAxle _ _ _ _ _ (P.binderDown t run h))))

theorem KeptByParts.crossLeadUp (P : KeptByParts I R) {s : State} (lead d t) (h : I s) : I (s.crossLeadUp lead d t) := by
  have h1 := P.takeAxle lead .tail d t h
  unfold State.crossLeadUp
  simp only
  split
  · exact h1
  · exact P.takeCrossing _ _ _ _ _ (P.countDown _ h1)

theorem KeptByParts.crossClearUp (P : KeptByParts I R) {s : State} (k d t) (h : I s) : I (s.crossClearUp k d t) := by
  refine P.handOver _ _ _ _ _ (P.enterAxle _ _ _ _ _ ?_)
  split
  · exact h
  · exact P.updSlot _ _ (fun _ => s.mayFollow_of_counts rfl rfl rfl rfl rfl id (fun b => (Nat.sub_le _ _).trans b) (.inl rfl)) h

theorem KeptByParts.cross (P : KeptByParts I R) {s : State} (j dir d t) (run : s.engine.state ≠ .config) (h : I s) :
    I (s.cross j dir d t) := by
  unfold State.cross
  split
  · exact P.crossLeadDown _ _ _ run h
  · exact P.crossLeadUp _ _ _ h
  · exact P.crossGuard _ _ _ _ _ _ _ _ h
  · exact P.crossGuard _ _ _ _ _ _ _ _ h
  · exact P.handOver _ _ _ _ _ (P.takeAxle _ _ _ _ h)
  · exact P.crossClearUp _ _ _ h
  · exact h

theorem KeptByParts.axle (P : KeptByParts I R) {s : State} (d dir age) (h : I s) : I (s.axle d dir age) := by
  unfold State.axle
  split
  · exact h
  all_goals
    rename_i e
    split
    · exact P.cross _ _ _ _ (by simp [e]) h
    · exact P.unmapped h

theorem KeptByParts.restore (P : KeptByParts I R) {s : State} (id) (h : I s) : I (s.restore id) := by
  have h1 : I (s.setSec id ⟨none, []⟩) := P.setSec id _ (fun _ => ⟨by simp, by simp, by simp⟩) h
  cases id with
  | guard p => exact P.guardChange p _ h1
  | pointLink p => exact h1
  | trackLink t => exact h1

theorem KeptByParts.removeRuns (P : KeptByParts I R) {s : State} (i) (h : I s) : I (s.removeRuns i) := by
  refine foldl_kept (fun _ p => P.guardChange p _) _ (foldl_kept (fun _ id => P.disturb id _ _ _ _) _
    (foldl_kept (fun a id ha => ?_) _ h))
  split
  · refine P.setSec id _ ?_ ha
    simp only [Section.bounded_iff]
    exact without_bounded i
  · exact ha

theorem KeptByParts.consume (P : KeptByParts I R) {s : State} (m) (h : I s) : I (s.consume m) := by
  unfold State.consume
  split
  · split
    · exact P.axle _ _ _ h
    · exact h
  · split
    · exact P.pointStatus _ _ _ _ h
    · exact h

theorem KeptByParts.takeCredits (P : KeptByParts I R) {s : State} (p n) (h : I s) : I (s.takeCredits p n) := by
  have h1 := P.addCredits p n h
  unfold State.takeCredits
  simp only
  split
  · exact P.selectWaiting p h1
  · exact h1

theorem KeptByParts.handleEarlier (P : KeptByParts I R) {s : State} (p) (h : I s) : I (s.handleEarlier p) := by
  have moves (n : Nat) : ∀ s, I s → I (s.movePasses p n) := by
    induction n with
    | zero => exact fun _ h => h
    | succ n ih => exact fun s h => ih _ (P.movePass p h)
  exact moves _ s h

theorem KeptByParts.endSending (P : KeptByParts I R) {s : State} (p) (h : I s) : I (s.endSending p) := by
  unfold State.endSending
  split
  · exact h
  · exact P.selectWaiting p (P.idlePort p h)

end

end Sys2Proof.Machine

/-! SUPPORT. The commands as compositions of the parts: a predicate that every part keeps, and that the carrying out of a request and
the taking of a frame keep, is kept by every step. -/

namespace Sys2Proof.Machine

/-! ### The records a write gives are in bounds -/

/-- A point record that passed its checks is in bounds (R2). -/
theorem pointRecordOf_bounded {p : Nat} {x : PointFields} {rec : PointRecord} (h : pointRecordOf p x = some rec) :
    rec.bounded := by
  unfold pointRecordOf at h
  split at h
  · simp only [Option.ite_none_right_eq_some, Bool.and_eq_true, PointFields.numbersOk, PointFields.conditionsOk, inRange,
      decide_eq_true_eq] at h
    obtain ⟨h, e⟩ := h
    cases e
    simp only [PointRecord.bounded]
    omega
  · cases h

/-- The register part of a track record that passed its checks is in bounds (R3). -/
theorem registerOk_bounded {t : Nat} {x : RegisterFields} (h : registerOk t x = true) :
    x.room ≤ 4095 ∧ x.alternates.length ≤ 3 ∧ x.alternates.Nodup ∧ ∀ a ∈ x.alternates, 1 ≤ a ∧ a ≤ 64 := by
  simp only [registerOk, Bool.and_eq_true, inRange, decide_eq_true_eq, List.all_eq_true] at h
  obtain ⟨⟨⟨⟨h1, h2⟩, h3⟩, h4⟩, -⟩ := h
  exact ⟨h1.2, h2, h4, h3⟩

theorem trackRecordOf_bounded {t : Nat} {x : TrackFields} {rec : TrackRecord} (h : trackRecordOf t x = some rec) :
    rec.bounded := by
  unfold trackRecordOf at h
  split at h
  · simp only [Option.ite_none_right_eq_some, Bool.and_eq_true] at h
    obtain ⟨⟨-, ok⟩, e⟩ := h
    cases e
    exact registerOk_bounded ok
  · cases h

/-- The parameters that a write gives: the entry speed in bounds, and item 1 changed by its own write alone (R5). -/
theorem Params.write_keeps {x y : Params} {item : Nat} {v : ParameterValue} (h : x.write item v = some y) :
    (20 ≤ x.entrySpeed ∧ x.entrySpeed ≤ 1200 → 20 ≤ y.entrySpeed ∧ y.entrySpeed ≤ 1200)
      ∧ (item = 1 ∨ y.leadDetector = x.leadDetector) := by
  cases v with
  | number n =>
    unfold Params.write at h
    simp only at h
    split at h
    all_goals
      first
        | simp only [guardOpt, Option.ite_none_right_eq_some, inRange, Bool.and_eq_true, decide_eq_true_eq,
            Option.some.injEq] at h
          obtain ⟨b, rfl⟩ := h
          simp only [true_or, or_true, and_true]
          omega
        | cases h
  | weights a b c d =>
    simp only [Params.write, guardOpt, Option.ite_none_right_eq_some, Option.some.injEq] at h
    obtain ⟨-, rfl⟩ := h
    exact ⟨id, .inr rfl⟩
  | thresholds a b =>
    simp only [Params.write, guardOpt, Option.ite_none_right_eq_some, Option.some.injEq] at h
    obtain ⟨-, rfl⟩ := h
    exact ⟨id, .inr rfl⟩
  | forwarding all =>
    cases all with
    | none => cases h
    | some a =>
      simp only [Params.write, guardOpt, Option.ite_none_right_eq_some, Option.some.injEq] at h
      obtain ⟨-, rfl⟩ := h
      exact ⟨id, .inr rfl⟩
  | level kind level =>
    cases kind <;> cases level <;> first
      | simp only [Params.write, guardOpt, Option.ite_none_right_eq_some, Option.some.injEq] at h
        obtain ⟨-, rfl⟩ := h
        exact ⟨id, .inr rfl⟩
      | cases h

theorem patchOf_bounded {x : PatchFields} {e : Patch} (h : patchOf x = some e) : e.bounded := by
  simp only [patchOf, Option.ite_none_right_eq_some, Bool.and_eq_true, inRange, decide_eq_true_eq, Option.some.injEq] at h
  obtain ⟨b, rfl⟩ := h
  simp only [Patch.bounded]
  omega

/-! ### Requests -/

/-- An effect of a request that is a composition of the parts. -/
def Effect.ofParts (f : Effect) : Prop :=
  ∀ (I : State → Prop) (R : CutRecord → Prop), KeptByParts I R → ∀ src s, I s → I (f src s).1

theorem controlled_ofParts {f : State → State × Answer}
    (hf : ∀ I R, KeptByParts I R → ∀ s, I s → I (f s).1) : (controlled f).ofParts := by
  intro I R P src s h
  unfold controlled
  split
  · exact hf I R P s h
  · exact h

section
variable {I : State → Prop} {R : CutRecord → Prop}

theorem State.inConfig_of_not {s : State} (h : ¬(!s.inConfig) = true) : s.engine.state = .config := by
  simpa [State.inConfig] using h

theorem KeptByParts.putPoint (P : KeptByParts I R) {s : State} (p) (rec : Option PointRecord) (config : s.engine.state = .config)
    (bounded : ∀ x, rec = some x → x.bounded) (h : I s) : I (s.putPoint p rec) :=
  P.tellFailed (P.rewriteRecord p rec config bounded h)

theorem KeptByParts.tableWritePoint (P : KeptByParts I R) (p x) (s : State) (h : I s) : I (tableWritePoint p x s).1 := by
  unfold Machine.tableWritePoint
  split
  · exact h
  · split
    · exact h
    · split
      · exact h
      · rename_i c _ rec hrec
        exact P.putPoint p _ (State.inConfig_of_not c) (fun y e => by cases e; exact pointRecordOf_bounded hrec) h

theorem KeptByParts.tableWritePointRemove (P : KeptByParts I R) (p) (s : State) (h : I s) : I (tableWritePointRemove p s).1 := by
  unfold Machine.tableWritePointRemove
  split
  · exact h
  · split
    · exact h
    · split
      · exact h
      · rename_i c _
        exact P.putPoint p none (State.inConfig_of_not c) (fun y e => nomatch e) h

theorem KeptByParts.tableWriteTrack (P : KeptByParts I R) (t x) (s : State) (h : I s) : I (tableWriteTrack t x s).1 := by
  unfold Machine.tableWriteTrack
  split
  · exact h
  · split
    · exact h
    · split
      · exact h
      · rename_i c _ rec hrec
        exact P.putTrack t (some rec) (fun _ y e => by cases e; exact trackRecordOf_bounded hrec)
          (.inl (State.inConfig_of_not c)) h

theorem KeptByParts.tableWriteTrackRegister (P : KeptByParts I R) (t x) (s : State) (h : I s) :
    I (tableWriteTrackRegister t x s).1 := by
  unfold Machine.tableWriteTrackRegister
  split
  · exact h
  · split
    · exact h
    · rename_i status hs
      split
      · exact h
      · rename_i rec hrec
        simp only [registerOf, Option.ite_none_right_eq_some] at hs
        exact P.putTrack t (some { rec with status := status, room := x.room, alternates := x.alternates })
          (fun _ y e => by cases e; exact registerOk_bounded hs.1) (.inr ⟨rec, _, hrec, rfl, rfl, rfl, rfl⟩) h

theorem KeptByParts.tableWriteTrackRemove (P : KeptByParts I R) (t) (s : State) (h : I s) : I (tableWriteTrackRemove t s).1 := by
  unfold Machine.tableWriteTrackRemove
  split
  · exact h
  · split
    · exact h
    · rename_i c
      exact P.putTrack t none (fun _ y e => nomatch e) (.inl (State.inConfig_of_not c)) h

theorem KeptByParts.tableWriteParameter (P : KeptByParts I R) (item v) (s : State) (h : I s) :
    I (tableWriteParameter item v s).1 := by
  unfold Machine.tableWriteParameter
  split
  · exact h
  · split
    · exact h
    · rename_i c
      split
      · exact h
      · rename_i x hx
        obtain ⟨speed, lead⟩ := Params.write_keeps hx
        have h1 := P.params x speed (lead.imp_left fun e => by simpa [e, State.inConfig] using c) h
        simp only [done, State.afterParameter]
        split
        · exact P.writeDemand h1
        · split
          · exact P.recompute h1
          · exact h1

theorem KeptByParts.tableWriteRoute (P : KeptByParts I R) (code value) (s : State) (h : I s) :
    I (tableWriteRoute code value s).1 := by
  unfold Machine.tableWriteRoute
  split
  · exact h
  · split
    · exact h
    · rename_i c
      split
      · exact h
      · exact P.route _ _ (by simpa [inRange] using c) h

theorem KeptByParts.tableWritePatch (P : KeptByParts I R) (k x) (s : State) (h : I s) : I (tableWritePatch k x s).1 := by
  unfold Machine.tableWritePatch
  split
  · exact h
  · split
    · exact h
    · split
      · exact h
      · exact P.patch _ _ (fun _ => patchOf_bounded ‹_›) h

theorem KeptByParts.withNewCut (n x) (s : State) (next : CutRecord → State × Answer)
    (hn : ∀ r, cutRecordOf n x = some r → s.cutList.length < Config.cutListRoom → I (next r).1) (h : I s) :
    I (s.withNewCut n x next).1 := by
  unfold State.withNewCut
  split
  · exact h
  · split
    · exact h
    · split
      · exact h
      · exact hn _ ‹_› (Nat.lt_of_not_le ‹_›)

theorem KeptByParts.cutAppend (P : KeptByParts I R) (n x) (s : State) (h : I s) : I (cutAppend n x s).1 :=
  KeptByParts.withNewCut n x s _ (fun r hr room => P.recompute (P.appendCut n x r hr room h)) h

theorem KeptByParts.cutInsertBefore (P : KeptByParts I R) (reference n x) (s : State) (h : I s) :
    I (cutInsertBefore reference n x s).1 := by
  refine KeptByParts.withNewCut n x s _ (fun r hr room => ?_) h
  split
  · exact P.recompute (P.insertCut reference n x r hr room h)
  · exact h

theorem KeptByParts.cutWithdraw (P : KeptByParts I R) (n) (s : State) (h : I s) : I (cutWithdraw n s).1 := by
  unfold Machine.cutWithdraw
  split
  · exact P.recompute (P.filterCut _ h)
  · exact h

theorem KeptByParts.cutAmend (P : KeptByParts I R) (n x) (s : State) (h : I s) : I (cutAmend n x s).1 := by
  unfold Machine.cutAmend
  split
  · exact h
  · split
    · exact h
    · split
      · exact P.recompute (P.amendCut n x _ ‹_› h)
      · exact h

theorem KeptByParts.cutListClear (P : KeptByParts I R) (s : State) (h : I s) : I (cutListClear s).1 := by
  have h1 := P.recompute (P.filterCut (fun _ => false) h)
  rwa [List.filter_false] at h1

theorem KeptByParts.slotDrop (P : KeptByParts I R) (i) (s : State) (h : I s) : I (slotDrop i s).1 := by
  unfold Machine.slotDrop
  split
  · exact h
  · split
    · exact h
    · split
      · exact P.offer _ (P.binderLoses i (P.freeUp i (P.removeRuns i (P.release i (P.reevaluateAll _ (P.leaveAll i h))))))
      · exact h

theorem KeptByParts.sectionRestore (P : KeptByParts I R) (id) (s : State) (h : I s) : I (sectionRestore id s).1 := by
  unfold Machine.sectionRestore
  split
  · exact h
  · split
    · exact h
    · split
      · exact h
      · exact P.restore _ h

theorem KeptByParts.restoreAll (P : KeptByParts I R) (s : State) (h : I s) : I (restoreAll s).1 :=
  foldl_kept (fun _ id => P.restore id) _ h

theorem KeptByParts.withPoint (p) (f : State → State × Answer) (s : State) (hf : 1 ≤ p ∧ p ≤ 63 → I (f s).1) (h : I s) :
    I (withPoint p f s).1 := by
  unfold Machine.withPoint
  split
  · exact h
  · rename_i c
    split
    · exact h
    · exact hf (by simp [inRange] at c; omega)

theorem KeptByParts.setMode (P : KeptByParts I R) {s : State} (p held) (h : I s) : I (s.setMode p held) :=
  P.setPt _ _ (State.mayPut_of_same id id rfl) (fun _ w => w) h

theorem KeptByParts.pointHold (P : KeptByParts I R) (p) (s : State) (h : I s) : I (pointHold p s).1 := by
  refine KeptByParts.withPoint p _ s (fun _ => ?_) h
  split
  · exact h
  · split
    · exact P.withdrawn p (P.setMode p true h)
    · exact P.setMode p true h

theorem KeptByParts.pointRelease (P : KeptByParts I R) (p) (s : State) (h : I s) : I (pointRelease p s).1 := by
  refine KeptByParts.withPoint p _ s (fun _ => ?_) h
  split
  · exact P.reevaluate p (P.setMode p false h)
  · exact h

theorem KeptByParts.pointSet (P : KeptByParts I R) (p leg) (s : State) (h : I s) : I (pointSet p leg s).1 := by
  unfold Machine.pointSet
  split
  · exact h
  · refine KeptByParts.withPoint p _ s (fun hp => ?_) h
    split
    · exact h
    · rename_i e he
      unfold PointRuntime.settable at he
      split at he
      · rename_i e' he'
        simp only [Option.ite_none_right_eq_some, Bool.and_eq_true, Option.isNone_iff_eq_none] at he
        split
        · exact h
        · split
          · exact h
          · refine P.placeThrow p _ .manual hp (fun _ w => ?_)
              (State.mayPut_of_same (fun b => ⟨b.1, by simp⟩) (fun _ => PointRuntime.timerSafe_of_stopped he.1.2) rfl) h
            obtain ⟨-, k, w⟩ := w
            simp [he'] at w
      · cases he

theorem KeptByParts.pointClearFault (P : KeptByParts I R) (p) (s : State) (h : I s) : I (pointClearFault p s).1 := by
  refine KeptByParts.withPoint p _ s (fun _ => ?_) h
  split
  · rename_i hf
    refine P.reevaluate p (P.tellFailed (P.setPt _ _ (State.mayPut_of_same (fun b => ⟨by simp, ?_⟩) (fun t => ?_) rfl)
      (fun _ w => ?_) h))
    · rintro ⟨e, he⟩
      cases hd : (s.pt p).detected <;> simp [hd, restState] at he
    · exact PointRuntime.timerSafe_of_stopped (t.stopped (by simp [hf]) (by simp [hf]))
    · obtain ⟨-, e, w⟩ := w
      simp [hf] at w
  · exact h

theorem KeptByParts.pointClearRetries (P : KeptByParts I R) (p) (s : State) (h : I s) : I (pointClearRetries p s).1 :=
  KeptByParts.withPoint p _ s (fun _ => P.setPt _ _ (State.mayPut_of_same (fun _ => ⟨by simp, by simp⟩) id rfl) (fun _ w => w) h) h

theorem KeptByParts.start (P : KeptByParts I R) (s : State) (h : I s) : I (start s).1 := by
  unfold Machine.start
  split
  · exact h
  · rename_i c
    split
    · exact h
    · rename_i table
      split
      · exact h
      · exact P.enterEngine _ (P.started (State.inConfig_of_not c) table h)

theorem KeptByParts.stopEngine (P : KeptByParts I R) (s : State) (h : I s) : I (stopEngine s).1 := by
  unfold Machine.stopEngine
  split
  · exact h
  · split
    · exact h
    · exact P.enterEngine _ (foldl_kept (fun _ p => P.guardOccupied p true) _ (P.halting (by omega) h))

theorem KeptByParts.halt (P : KeptByParts I R) (s : State) (h : I s) : I (halt s).1 := by
  unfold Machine.halt
  split
  · exact h
  · exact P.changeCauses _ _ h

theorem KeptByParts.resume (P : KeptByParts I R) (s : State) (h : I s) : I (resume s).1 := by
  unfold Machine.resume
  split
  · exact h
  · exact P.changeCauses _ _ h

theorem KeptByParts.claimControl (P : KeptByParts I R) (src) (s : State) (h : I s) : I (claimControl src s).1 := by
  unfold Machine.claimControl
  split
  · exact P.mgmt { s.mgmt with holder := some src, supervision := s.armed, phase := none } rfl h
  · split <;> exact h

theorem KeptByParts.releaseControl (P : KeptByParts I R) (s : State) (h : I s) : I (releaseControl s).1 :=
  P.mgmt { s.mgmt with holder := none, supervision := none, phase := none } rfl h

theorem KeptByParts.service (P : KeptByParts I R) (phase) (s : State) (h : I s) : I (service phase s).1 := by
  unfold Machine.service
  split
  · exact h
  · rename_i x _
    split
    · exact h
    · have h1 := P.mgmt { s.mgmt with supervision := s.armed, phase := some x } rfl h
      simp only [done]
      split
      · exact P.changeCauses _ _ h1
      · exact h1

theorem KeptByParts.fenceWrite (P : KeptByParts I R) (fence) (s : State) (h : I s) : I (fenceWrite fence s).1 := by
  unfold Machine.fenceWrite
  split
  · exact h
  · split
    · exact h
    · exact P.fence _ _ ‹_› h

theorem KeptByParts.warmReset (P : KeptByParts I R) (src) (s : State) (h : I s) : I (warmReset src s).1 := by
  unfold Machine.warmReset
  split
  · exact P.offer _ (P.writeDemand (P.warmState h))
  · exact h

theorem KeptByParts.lapse (P : KeptByParts I R) {s : State} (x) (h : I s) : I (s.lapse x) :=
  P.offer _ (P.changeCauses _ _ (P.mgmt { s.mgmt with holder := none, supervision := none, phase := none } rfl h))

/-! ### Timers and resets -/

theorem KeptByParts.stallExpiry (P : KeptByParts I R) {s : State} (i) (h : I s) : I (s.stallExpiry i) := P.stallAtOnce i h

/-- The supervision timer of a point is stopped. -/
theorem KeptByParts.stopSupervision (P : KeptByParts I R) {s : State} (p) (h : I s) :
    I (s.setPt p { s.pt p with supervision := none }) :=
  P.setPt _ _ (State.mayPut_of_same id id rfl) (fun _ w => w) h

theorem KeptByParts.supervisionExpiry (P : KeptByParts I R) {s : State} (p) (h : I s) : I (s.supervisionExpiry p) := by
  unfold State.supervisionExpiry
  split
  · unfold State.supervisionFault
    split
    · exact P.faultDecision _ _ _ ‹_› h
    · exact P.failReported p _ h
    all_goals exact P.stopSupervision p h
  · exact h

theorem KeptByParts.retryExpiry (P : KeptByParts I R) {s : State} (p) (h : I s) : I (s.retryExpiry p) := by
  have stopped : I (s.setPt p { s.pt p with retryTimer := none }) :=
    P.setPt _ _ (State.mayPut_of_same id id rfl) (fun _ w => w) h
  unfold State.retryExpiry
  split
  · unfold State.retryOver
    split
    · rename_i origin ho
      refine P.reevaluate p (P.setPt _ _ (State.mayPut_of_same (fun b => ⟨b.1, by simp⟩) (fun t n => ?_) rfl) (fun _ w => ?_) h)
      · obtain ⟨e, he, d⟩ := t n
        exact ⟨e, by simp_all, d⟩
      · obtain ⟨-, e, w⟩ := w
        simp [ho] at w
    all_goals exact stopped
  · exact h

theorem KeptByParts.deglitchExpiry (P : KeptByParts I R) {s : State} (p) (h : I s) : I (s.deglitchExpiry p) := by
  unfold State.deglitchExpiry
  split
  · exact P.deglitchExpired p (fun n => by simp_all [due]) h
  · exact h

theorem KeptByParts.controllerExpiry (P : KeptByParts I R) {s : State} (h : I s) : I s.controllerExpiry := by
  unfold State.controllerExpiry
  split
  · exact h
  · split
    · exact P.lapse _ h
    · exact h

theorem KeptByParts.refreshExpiry (P : KeptByParts I R) {s : State} (h : I s) : I s.refreshExpiry := by
  unfold State.refreshExpiry
  split
  · exact P.writeDemand h
  · exact h

theorem KeptByParts.deviceReset (P : KeptByParts I R) {s : State} (straps) (h : I s) : I (s.deviceReset straps) :=
  P.select .t (P.select .y (P.offer _ (P.cleared straps h)))

/-! ### The step -/

/-- A read changes nothing, LINK_READ part 0 apart. -/
theorem ofParts_of_unchanged {f : Effect} (h : ∀ src s, (f src s).1 = s) : f.ofParts := fun _ _ _ src s hs => by rwa [h src s]

theorem tableRead_unchanged (entry : TableEntry) (part : Nat) (s : State) : (tableRead entry part s).1 = s := by
  unfold tableRead
  split
  · unfold tableReadPoint
    repeat' split
    all_goals rfl
  · split <;> rfl

theorem unknownRequest_unchanged (code : RequestCode) (src : Nat) (s : State) : (unknownRequest code src s).1 = s := by
  unfold unknownRequest
  split
  · unfold controlled
    split <;> rfl
  · rfl

theorem linkRead_ofParts (part first : Nat) : Effect.ofParts fun _ => linkRead part first := by
  intro I R P src s h
  simp only
  unfold linkRead
  split
  · exact P.emptyErrors h
  · exact h
  · exact h

theorem reads_unchanged (s : State) :
    (∀ part, (statusRead part s).1 = s) ∧ (∀ first, (cutListRead first s).1 = s)
      ∧ (∀ i part first, (slotRead i part first s).1 = s) ∧ (∀ id part, (sectionRead id part s).1 = s)
      ∧ ∀ p part first, (pointRead p part first s).1 = s := by
  refine ⟨fun part => ?_, fun first => ?_, fun i part first => ?_, fun id part => ?_, fun p part first => ?_⟩
  · unfold statusRead
    split <;> rfl
  · unfold cutListRead
    split <;> rfl
  · unfold slotRead
    split
    · rfl
    · split <;> rfl
  · unfold sectionRead
    split
    · rfl
    · split
      · rfl
      · simp only
        split <;> rfl
  · unfold pointRead
    split
    · rfl
    · split <;> rfl

/-- What every part keeps, and with it the carrying out of a request and the taking of a frame, every command keeps. -/
theorem KeptByParts.exec (P : KeptByParts I R)
    (request : ∀ s q code f, Effect.ofParts f → I s → I (s.handle q code f))
    (frame : ∀ s p beganFull bytes, I s → I (s.receive p beganFull bytes)) (c : Instr) {s t : State} (e : exec c s = .next t)
    (h : I s) : I t := by
  have held (q code) (f : State → State × Answer) (hf : ∀ I R, KeptByParts I R → ∀ s, I s → I (f s).1) :
      I (s.handle q code (controlled f)) := request s q code _ (controlled_ofParts hf) h
  cases c <;> cases e
  case deviceReset straps => exact P.deviceReset straps h
  case telegramReceived => exact frame _ _ _ _ h
  case passTelegramMove p => exact P.movePass p h
  case unknownRequest q code => exact request _ _ _ _ (ofParts_of_unchanged (unknownRequest_unchanged code)) h
  case statusRead => exact request _ _ _ _ (ofParts_of_unchanged fun _ s => (reads_unchanged s).1 _) h
  case tableRead => exact request _ _ _ _ (ofParts_of_unchanged fun _ s => tableRead_unchanged _ _ s) h
  case cutListRead => exact request _ _ _ _ (ofParts_of_unchanged fun _ s => (reads_unchanged s).2.1 _) h
  case slotRead => exact request _ _ _ _ (ofParts_of_unchanged fun _ s => (reads_unchanged s).2.2.1 _ _ _) h
  case sectionRead => exact request _ _ _ _ (ofParts_of_unchanged fun _ s => (reads_unchanged s).2.2.2.1 _ _) h
  case pointRead => exact request _ _ _ _ (ofParts_of_unchanged fun _ s => (reads_unchanged s).2.2.2.2 _ _ _) h
  case linkRead => exact request _ _ _ _ (linkRead_ofParts _ _) h
  case claimControl => exact request _ _ _ _ (fun _ _ P src s => P.claimControl src s) h
  case releaseControl => exact held _ _ _ fun _ _ P => P.releaseControl
  case tableWritePoint => exact held _ _ _ fun _ _ P => P.tableWritePoint _ _
  case tableWritePointRemove => exact held _ _ _ fun _ _ P => P.tableWritePointRemove _
  case tableWriteTrack => exact held _ _ _ fun _ _ P => P.tableWriteTrack _ _
  case tableWriteTrackRegister => exact held _ _ _ fun _ _ P => P.tableWriteTrackRegister _ _
  case tableWriteTrackRemove => exact held _ _ _ fun _ _ P => P.tableWriteTrackRemove _
  case tableWriteParameter => exact held _ _ _ fun _ _ P => P.tableWriteParameter _ _
  case tableWriteRoute => exact held _ _ _ fun _ _ P => P.tableWriteRoute _ _
  case tableWritePatch => exact held _ _ _ fun _ _ P => P.tableWritePatch _ _
  case cutAppend => exact held _ _ _ fun _ _ P => P.cutAppend _ _
  case cutInsertBefore => exact held _ _ _ fun _ _ P => P.cutInsertBefore _ _ _
  case cutWithdraw => exact held _ _ _ fun _ _ P => P.cutWithdraw _
  case cutAmend => exact held _ _ _ fun _ _ P => P.cutAmend _ _
  case cutListClear => exact held _ _ _ fun _ _ P => P.cutListClear
  case slotDrop => exact held _ _ _ fun _ _ P => P.slotDrop _
  case sectionRestore => exact held _ _ _ fun _ _ P => P.sectionRestore _
  case restoreAll => exact held _ _ _ fun _ _ P => P.restoreAll
  case pointHold => exact held _ _ _ fun _ _ P => P.pointHold _
  case pointRelease => exact held _ _ _ fun _ _ P => P.pointRelease _
  case pointSet => exact held _ _ _ fun _ _ P => P.pointSet _ _
  case pointClearFault => exact held _ _ _ fun _ _ P => P.pointClearFault _
  case pointClearRetries => exact held _ _ _ fun _ _ P => P.pointClearRetries _
  case start => exact held _ _ _ fun _ _ P => P.start
  case stopEngine => exact held _ _ _ fun _ _ P => P.stopEngine
  case halt => exact held _ _ _ fun _ _ P => P.halt
  case resume => exact held _ _ _ fun _ _ P => P.resume
  case service => exact held _ _ _ fun _ _ P => P.service _
  case fenceWrite => exact held _ _ _ fun _ _ P => P.fenceWrite _
  case warmReset => exact request _ _ _ _ (fun _ _ P src s => P.warmReset src s) h
  case endOfTransmission p => exact P.endSending p h
  case gapTimerExpiry => exact P.gapExpiry h
  case stallDeadlineExpiry i => exact P.stallExpiry i h
  case supervisionTimerExpiry p => exact P.supervisionExpiry p h
  case retryTimerExpiry p => exact P.retryExpiry p h
  case deglitchTimerExpiry p => exact P.deglitchExpiry p h
  case refreshTimerExpiry => exact P.refreshExpiry h
  case controllerSupervisionExpiry => exact P.controllerExpiry h

/-- Taking a frame: what holds beside a free receive buffer of the port, `J`, becomes `I` again when a telegram stays in that
buffer (R149, R152). -/
theorem KeptByParts.receive {J : State → Prop} (P : KeptByParts I R) (Q : KeptByParts J R) (p : Port) (weaken : ∀ s, J s → I s)
    (room : ∀ s, I s → (s.port p).waiting.length < Config.receiveBuffers → J s) (keep : ∀ s own m, J s → I (s.keep p own m))
    (beganFull : Bool) (frame : List Byte) {s : State} (h : I s) : I (s.receive p beganFull frame) := by
  have earlier := P.handleEarlier p h
  unfold State.receive State.receiveFrame
  split
  · exact P.lineError p _ earlier
  · rename_i free
    have free : ((s.handleEarlier p).port p).waiting.length < Config.receiveBuffers := by
      simp only [Bool.or_eq_true, decide_eq_true_eq, not_or, Nat.not_le] at free
      exact free.2
    split
    · exact P.freeBuffer p (P.lineError p _ earlier)
    · rename_i r _
      have taken := Q.takeCredits p r.credits (room _ earlier free)
      unfold State.classify
      split
      · exact P.freeBuffer p (weaken _ taken)
      · split
        · exact weaken _ (Q.freeBuffer p (Q.forward _ (Q.consume _ taken)))
        · split
          · exact keep _ _ _ taken
          · exact P.movePass p (keep _ _ _ taken)

/-- And so every step keeps it. -/
theorem KeptByParts.step (P : KeptByParts I R)
    (request : ∀ s q code f, Effect.ofParts f → I s → I (s.handle q code f))
    (frame : ∀ s p beganFull bytes, I s → I (s.receive p beganFull bytes)) {s t : State} (e : step s = .next t) (h : I s) :
    I t := by
  unfold Machine.step at e
  split at e
  · cases e
    exact P.select .t (P.select .y (P.tick h))
  · exact P.exec request frame _ e (P.pending _ h)

end

end Sys2Proof.Machine

/-! SUPPORT. The ladder: the walk up that START makes is the walk down of R12, and the checks of START answer the first fault of their
order (R10 to R12, R42). -/

namespace Sys2Proof.Machine

/-! ### Ascending scans -/

theorem ids_ascending (n : Nat) : (ids n).Pairwise (· < ·) := by
  unfold ids
  rw [List.pairwise_map]
  exact List.pairwise_lt_range.imp fun h => Nat.add_lt_add_right h 1

/-- What a scan of a list answers whose elements stand in the order of `key`: the first element that meets the test. -/
theorem find?_ascending {α : Type} {key : α → Nat} {l : List α} {P : α → Bool} {a : α}
    (h : l.Pairwise fun x y => key x < key y) (e : l.find? P = some a) :
    a ∈ l ∧ P a = true ∧ ∀ b ∈ l, P b = true → key a ≤ key b := by
  obtain ⟨hp, xs, ys, rfl, before⟩ := List.find?_eq_some_iff_append.mp e
  refine ⟨by simp, hp, fun b hb hPb => ?_⟩
  rw [List.pairwise_append] at h
  obtain ⟨-, h2, -⟩ := h
  rcases List.mem_append.mp hb with hb | hb
  · have := before b hb
    simp [hPb] at this
  · rcases List.mem_cons.mp hb with rfl | hb
    · exact Nat.le_refl _
    · exact Nat.le_of_lt ((List.pairwise_cons.mp h2).1 b hb)

/-! ### Present records -/

theorem State.pointRecord_range {s : State} {p : Nat} {r : PointRecord} (h : s.pointRecord p = some r) : 1 ≤ p ∧ p ≤ 63 :=
  Classical.byContradiction fun n => Option.some_ne_none r (h.symm.trans (readAt_outside _ _ n))

theorem State.trackRecord_range {s : State} {t : Nat} {r : TrackRecord} (h : s.trackRecord t = some r) : 1 ≤ t ∧ t ≤ 64 :=
  Classical.byContradiction fun n => Option.some_ne_none r (h.symm.trans (readAt_outside _ _ n))

theorem State.mem_presentPoints {s : State} {p : Nat} : p ∈ s.presentPoints ↔ ∃ r, s.pointRecord p = some r := by
  simp only [State.presentPoints, List.mem_filter, mem_ids, Option.isSome_iff_exists]
  exact ⟨fun h => h.2, fun ⟨r, hr⟩ => ⟨State.pointRecord_range hr, r, hr⟩⟩

theorem State.mem_presentTracks {s : State} {t : Nat} : t ∈ s.presentTracks ↔ ∃ r, s.trackRecord t = some r := by
  simp only [State.presentTracks, List.mem_filter, mem_ids, Option.isSome_iff_exists]
  exact ⟨fun h => h.2, fun ⟨r, hr⟩ => ⟨State.trackRecord_range hr, r, hr⟩⟩

theorem State.mem_roots {s : State} {p : Nat} : p ∈ s.roots ↔ ∃ r, s.pointRecord p = some r ∧ r.upstream = .lead := by
  simp only [State.roots, List.mem_filter, mem_ids, Option.any_eq_true, decide_eq_true_eq]
  exact ⟨fun h => h.2, fun ⟨r, hr, up⟩ => ⟨State.pointRecord_range hr, r, hr, up⟩⟩

theorem State.presentPoints_ascending (s : State) : s.presentPoints.Pairwise (· < ·) := (ids_ascending 63).filter _

theorem State.presentTracks_ascending (s : State) : s.presentTracks.Pairwise (· < ·) := (ids_ascending 64).filter _

theorem State.roots_ascending (s : State) : s.roots.Pairwise (· < ·) := (ids_ascending 63).filter _

/-! ### Walks (R12) -/

/-- Every branch of a present point names what names it back (R10 step 2). -/
def State.branchesFit (s : State) : Prop := ∀ p r leg, s.pointRecord p = some r → BranchFits s p leg (r.branch leg)

/-- Every parent named by a present point has the point on that leg (R10 step 2). -/
def State.upstreamsFit (s : State) : Prop :=
  ∀ p r q leg, s.pointRecord p = some r → r.upstream = .parent q leg → ∃ x, s.pointRecord q = some x ∧ x.branch leg = .point p

/-- Every present track stands on the leg of the parent it names (R10 step 3). -/
def State.parentsFit (s : State) : Prop :=
  ∀ t r, s.trackRecord t = some r → ∃ x, s.pointRecord r.parent = some x ∧ x.branch r.leg = .track t

/-- The record a branch names is present. -/
def State.hasBranch (s : State) : Branch → Prop
  | .point p => ∃ r, s.pointRecord p = some r
  | .track t => ∃ r, s.trackRecord t = some r

/-- A walk down ends at a present record, where branches name it back. -/
theorem DownTo.present {s : State} (fit : s.branchesFit) {path : Path} {b : Branch} (h : DownTo s path b) : s.hasBranch b := by
  cases h with
  | root p r hr _ => exact ⟨r, hr⟩
  | leg path p r leg hd hr =>
    have f := fit p r leg hr
    generalize r.branch leg = b at f
    cases b with
    | point q =>
      obtain ⟨y, hy, -⟩ := f
      exact ⟨y, hy⟩
    | track t =>
      obtain ⟨y, hy, -⟩ := f
      exact ⟨y, hy⟩

/-- What a walk down passed last is what its end names above it. -/
theorem DownTo.unique {s : State} (fit : s.branchesFit) {a b : Path} {x : Branch} (h : DownTo s a x) (k : DownTo s b x) : a = b := by
  induction h generalizing b with
  | root p r hr up =>
    generalize hx : Branch.point p = x at k
    cases k with
    | root => rfl
    | leg path q r' leg hd hr' =>
      have := fit q r' leg hr'
      rw [← hx] at this
      obtain ⟨y, hy, hup⟩ := this
      rw [hr] at hy
      cases hy
      rw [up] at hup
      cases hup
  | leg path p r leg hd hr ih =>
    have f := fit p r leg hr
    generalize hx : r.branch leg = x at k f
    cases k with
    | root q r' hr' up =>
      obtain ⟨y, hy, hup⟩ := f
      rw [hr'] at hy
      cases hy
      rw [up] at hup
      cases hup
    | leg path' p' r' leg' hd' hr' =>
      have g := fit p' r' leg' hr'
      generalize r'.branch leg' = x' at f g
      cases x' with
      | point q =>
        obtain ⟨y, hy, hup⟩ := f
        obtain ⟨z, hz, kup⟩ := g
        rw [hy] at hz
        cases hz
        rw [hup] at kup
        cases kup
        rw [ih hd']
      | track t =>
        obtain ⟨y, hy, rfl, rfl⟩ := f
        obtain ⟨z, hz, rfl, rfl⟩ := g
        rw [hy] at hz
        cases hz
        rw [ih hd']

/-- The walk to a point that a walk passes. -/
theorem DownTo.front {s : State} {path : Path} {x : Branch} (h : DownTo s path x) {a b : Path} {q : Nat} {leg : Leg}
    (e : path = a ++ (q, leg) :: b) : DownTo s a (.point q) := by
  induction h generalizing b with
  | root => simp at e
  | leg path p r leg' hd hr ih =>
    rcases List.eq_nil_or_concat b with rfl | ⟨b', y, rfl⟩
    · obtain ⟨front, last⟩ := List.append_inj' e rfl
      subst front
      cases last
      exact hd
    · refine ih (b := b') ?_
      have : path ++ [(p, leg')] = (a ++ (q, leg) :: b') ++ [y] := by simpa using e
      exact (List.append_inj' this rfl).1

/-- A walk down passes no point twice. -/
theorem DownTo.nodup {s : State} (fit : s.branchesFit) {path : Path} {x : Branch} (h : DownTo s path x) :
    (path.map Prod.fst).Nodup := by
  induction h with
  | root => exact .nil
  | leg path p r leg hd hr ih =>
    rw [List.map_append, List.nodup_append]
    refine ⟨ih, by simp, fun q hq k hk e => ?_⟩
    obtain ⟨⟨q', leg'⟩, hmem, rfl⟩ := List.mem_map.mp hq
    simp only [List.map_cons, List.map_nil, List.mem_singleton] at hk
    obtain ⟨a, b, rfl⟩ := List.append_of_mem hmem
    have := (hd.front rfl).unique fit (b := a ++ (q', leg') :: b) (by rw [← hk, ← e] at hd; exact hd)
    simp at this

/-- The points a walk passes are present. -/
theorem DownTo.passed {s : State} (fit : s.branchesFit) {path : Path} {x : Branch} (h : DownTo s path x) {q : Nat} {leg : Leg}
    (m : (q, leg) ∈ path) : ∃ r, s.pointRecord q = some r := by
  obtain ⟨a, b, rfl⟩ := List.append_of_mem m
  exact (h.front rfl).present fit

/-- A walk down passes at most the 63 points of the yard. -/
theorem DownTo.length_le {s : State} (fit : s.branchesFit) {path : Path} {x : Branch} (h : DownTo s path x) : path.length ≤ 63 := by
  have sub : (path.map Prod.fst) ⊆ ids 63 := by
    intro q hq
    obtain ⟨⟨q', leg⟩, hmem, rfl⟩ := List.mem_map.mp hq
    obtain ⟨r, hr⟩ := h.passed fit hmem
    exact mem_ids.mpr (State.pointRecord_range hr)
  have := (List.subperm_of_subset (h.nodup fit) sub).length_le
  simpa [ids] using this

/-- The walk up that START makes is a walk down (R12). -/
theorem State.downTo_of_walkTo {s : State} (fit : s.upstreamsFit) {n p : Nat} {path : Path} (e : s.walkTo n p = some path) :
    DownTo s path (.point p) := by
  induction n generalizing p path with
  | zero => cases e
  | succ n ih =>
    unfold State.walkTo at e
    split at e
    · cases e
    · rename_i r hr
      split at e
      · rename_i up
        cases e
        exact .root p r hr up
      · rename_i q leg up
        obtain ⟨path', e', rfl⟩ := Option.map_eq_some_iff.mp e
        obtain ⟨x, hx, hb⟩ := fit p r q leg hr up
        rw [← hb]
        exact .leg path' q x leg (ih e') hx

/-- A walk down is found by the walk up, given fuel for its points. -/
theorem State.walkTo_of_downTo {s : State} (fit : s.branchesFit) {path : Path} {p n : Nat} (h : DownTo s path (.point p))
    (fuel : path.length < n) : s.walkTo n p = some path := by
  generalize hx : Branch.point p = x at h
  induction h generalizing p n with
  | root q r hr up =>
    cases hx
    obtain ⟨n, rfl⟩ := Nat.exists_eq_succ_of_ne_zero (Nat.ne_of_gt (Nat.lt_of_le_of_lt (Nat.zero_le _) fuel))
    simp [State.walkTo, hr, up]
  | leg path q r leg hd hr ih =>
    have f := fit q r leg hr
    rw [← hx] at f
    obtain ⟨y, hy, up⟩ := f
    obtain ⟨n, rfl⟩ := Nat.exists_eq_succ_of_ne_zero (Nat.ne_of_gt (Nat.lt_of_le_of_lt (Nat.zero_le _) fuel))
    have := ih (n := n) (by simp at fuel; omega) rfl
    simp [State.walkTo, hy, up, this]

/-- The walk START makes to a point finds the walk down to it, and nothing else (R12). -/
theorem State.walkTo_iff {s : State} (branches : s.branchesFit) (upstreams : s.upstreamsFit) (p : Nat) (path : Path) :
    s.walkTo 64 p = some path ↔ DownTo s path (.point p) :=
  ⟨State.downTo_of_walkTo upstreams, fun h => State.walkTo_of_downTo branches h (Nat.lt_succ_of_le (h.length_le branches))⟩

/-- The walk START makes to a track finds the walk down to it, and nothing else (R12). -/
theorem State.walkToTrack_iff {s : State} (branches : s.branchesFit) (upstreams : s.upstreamsFit) (parents : s.parentsFit)
    (t : Nat) (path : Path) : s.walkToTrack t = some path ↔ DownTo s path (.track t) := by
  constructor
  · intro e
    obtain ⟨r, hr, walk⟩ := Option.bind_eq_some_iff.mp e
    obtain ⟨path', found, rfl⟩ := Option.map_eq_some_iff.mp walk
    obtain ⟨x, hx, hb⟩ := parents t r hr
    rw [← hb]
    exact .leg path' r.parent x r.leg ((State.walkTo_iff branches upstreams _ _).mp found) hx
  · intro h
    generalize hx : Branch.track t = x at h
    cases h with
    | root => cases hx
    | leg path p r leg hd hr =>
      have f := branches p r leg hr
      rw [← hx] at f
      obtain ⟨y, hy, rfl, rfl⟩ := f
      simp [State.walkToTrack, hy, (State.walkTo_iff branches upstreams _ _).mpr hd]

/-! ### Numbers of the ladder's counters (R10 step 7, R11) -/

/-- A point's three counters with their detector numbers. -/
def PointRecord.numbered (r : PointRecord) (p : Nat) : List (Nat × Counter) :=
  [(r.guardIn, .guardIn p), (r.leftOut, .guardOut p .left), (r.rightOut, .guardOut p .right)]

/-- Every counter of the ladder with its detector number. -/
def State.numbered (s : State) : List (Nat × Counter) :=
  (s.tables.params.leadDetector, .lead)
    :: (ids 63).flatMap (fun p => ((s.pointRecord p).map fun r => r.numbered p).getD [])
    ++ (ids 64).filterMap fun t => (s.trackRecord t).map fun r => (r.clearance, .clearance t)

theorem State.mem_numbered {s : State} {d : Nat} {c : Counter} : (d, c) ∈ s.numbered ↔ DetectorAt s d c := by
  simp only [State.numbered, List.cons_append, List.mem_cons, List.mem_append, List.mem_flatMap, mem_ids, List.mem_filterMap,
    Option.map_eq_some_iff, Prod.mk.injEq]
  constructor
  · rintro (⟨rfl, rfl⟩ | ⟨p, -, m⟩ | ⟨t, -, r, hr, rfl, rfl⟩)
    · rfl
    · cases hr : s.pointRecord p with
      | none => simp [hr] at m
      | some r =>
        simp only [hr, Option.map_some, Option.getD_some, PointRecord.numbered, List.mem_cons, Prod.mk.injEq, List.not_mem_nil,
          or_false] at m
        rcases m with ⟨rfl, rfl⟩ | ⟨rfl, rfl⟩ | ⟨rfl, rfl⟩ <;> exact ⟨r, hr, rfl⟩
    · exact ⟨r, hr, rfl⟩
  · cases c with
    | lead => exact fun h => .inl ⟨h, rfl⟩
    | guardIn p =>
      rintro ⟨r, hr, rfl⟩
      exact .inr (.inl ⟨p, State.pointRecord_range hr, by simp [hr, PointRecord.numbered]⟩)
    | guardOut p leg =>
      cases leg <;> rintro ⟨r, hr, rfl⟩ <;>
        exact .inr (.inl ⟨p, State.pointRecord_range hr, by simp [hr, PointRecord.numbered]⟩)
    | clearance t =>
      rintro ⟨r, hr, rfl⟩
      exact .inr (.inr ⟨t, State.trackRecord_range hr, r, hr, rfl, rfl⟩)

/-- The numbers START counts are those of the ladder's counters (R10 step 7). -/
theorem State.detectors_eq (s : State) : s.detectors = s.numbered.map Prod.fst := by
  have points (l : List Nat) : (l.filterMap s.pointRecord).flatMap (fun r => [r.guardIn, r.leftOut, r.rightOut])
      = (l.flatMap fun p => ((s.pointRecord p).map fun r => r.numbered p).getD []).map Prod.fst := by
    induction l with
    | nil => rfl
    | cons p l ih =>
      cases h : s.pointRecord p with
      | none => simpa [h] using ih
      | some r => simpa [h, PointRecord.numbered] using ih
  have tracks (l : List Nat) : (l.filterMap s.trackRecord).map TrackRecord.clearance
      = (l.filterMap fun t => (s.trackRecord t).map fun r => (r.clearance, Counter.clearance t)).map Prod.fst := by
    induction l with
    | nil => rfl
    | cons t l ih =>
      cases h : s.trackRecord t with
      | none => simpa [h] using ih
      | some r => simpa [h] using ih
  simp only [State.detectors, State.numbered, List.map_cons, List.map_append, List.cons_append, points, tracks]

/-- The point or track of a counter. -/
def Counter.subject : Counter → Nat
  | .lead => 0
  | .guardIn p => p
  | .guardOut p _ => p
  | .clearance t => t

/-- No counter of the ladder is numbered twice. -/
theorem State.numbered_nodup (s : State) : (s.numbered.map Prod.snd).Nodup := by
  have onPoint (p : Nat) (c : Counter) (m : c ∈ (((s.pointRecord p).map fun r => r.numbered p).getD []).map Prod.snd) :
      c.subject = p ∧ c ≠ .lead ∧ ∀ t, c ≠ .clearance t := by
    cases h : s.pointRecord p with
    | none => simp [h] at m
    | some r =>
      simp only [h, Option.map_some, Option.getD_some, PointRecord.numbered, List.map_cons, List.map_nil, List.mem_cons,
        List.not_mem_nil, or_false] at m
      rcases m with rfl | rfl | rfl <;> simp [Counter.subject]
  have points (l : List Nat) (hl : l.Nodup) :
      ((l.flatMap fun p => ((s.pointRecord p).map fun r => r.numbered p).getD []).map Prod.snd).Nodup := by
    induction l with
    | nil => exact .nil
    | cons p l ih =>
      obtain ⟨hp, hl⟩ := List.nodup_cons.mp hl
      rw [List.flatMap_cons, List.map_append, List.nodup_append]
      refine ⟨?_, ih hl, fun a ha b hb e => ?_⟩
      · cases h : s.pointRecord p <;> simp [PointRecord.numbered]
      · subst e
        rw [List.map_flatMap, List.mem_flatMap] at hb
        obtain ⟨q, hq, hb⟩ := hb
        rw [← (onPoint p a ha).1, (onPoint q a hb).1] at hp
        exact hp hq
  have tracks (l : List Nat) (hl : l.Nodup) :
      ((l.filterMap fun t => (s.trackRecord t).map fun r => (r.clearance, Counter.clearance t)).map Prod.snd).Nodup := by
    induction l with
    | nil => exact .nil
    | cons t l ih =>
      obtain ⟨ht, hl⟩ := List.nodup_cons.mp hl
      cases h : s.trackRecord t with
      | none => simpa [h] using ih hl
      | some r =>
        simp only [List.filterMap_cons, h, Option.map_some, List.map_cons, List.nodup_cons]
        refine ⟨fun m => ht ?_, ih hl⟩
        simp only [List.mem_map, List.mem_filterMap, Option.map_eq_some_iff] at m
        obtain ⟨x, ⟨t', ht', r', -, rfl⟩, e⟩ := m
        cases e
        exact ht'
  have ascends (n : Nat) : (ids n).Nodup := (ids_ascending n).imp Nat.ne_of_lt
  simp only [State.numbered, List.cons_append, List.map_cons, List.map_append, List.nodup_cons, List.mem_append, List.nodup_append]
  refine ⟨?_, points _ (ascends 63), tracks _ (ascends 64), fun a ha b hb e => ?_⟩
  · rintro (m | m)
    · rw [List.map_flatMap, List.mem_flatMap] at m
      obtain ⟨p, -, m⟩ := m
      exact (onPoint p _ m).2.1 rfl
    · simp at m
  · subst e
    rw [List.map_flatMap, List.mem_flatMap] at ha
    obtain ⟨p, -, ha⟩ := ha
    simp only [List.mem_map, List.mem_filterMap, Option.map_eq_some_iff] at hb
    obtain ⟨x, ⟨t, -, r, -, rfl⟩, rfl⟩ := hb
    exact (onPoint p _ ha).2.2 t rfl

/-- A number stands twice in a list of numbered things, each once, exactly when two of them have it. -/
theorem two_le_count_iff {α : Type} {l : List (Nat × α)} (h : (l.map Prod.snd).Nodup) (d : Nat) :
    2 ≤ (l.map Prod.fst).count d ↔ ∃ a b, (d, a) ∈ l ∧ (d, b) ∈ l ∧ a ≠ b := by
  induction l with
  | nil => simp
  | cons x l ih =>
    obtain ⟨e, c⟩ := x
    obtain ⟨hc, hl⟩ := List.nodup_cons.mp h
    have fresh (n : Nat) : (n, c) ∉ l := fun m => hc (List.mem_map.mpr ⟨_, m, rfl⟩)
    have one : 1 ≤ (l.map Prod.fst).count d ↔ ∃ a, (d, a) ∈ l := by
      rw [Nat.one_le_iff_ne_zero, ← Nat.pos_iff_ne_zero, List.count_pos_iff]
      simp
    by_cases hd : e = d
    · subst hd
      rw [List.map_cons, List.count_cons_self, Nat.succ_le_succ_iff, one]
      constructor
      · rintro ⟨a, m⟩
        exact ⟨a, c, by simp [m], by simp, fun e => fresh _ (e ▸ m)⟩
      · rintro ⟨a, b, ha, hb, n⟩
        simp only [List.mem_cons, Prod.mk.injEq, true_and] at ha hb
        rcases ha with rfl | ha
        · exact ⟨b, hb.resolve_left n.symm⟩
        · exact ⟨a, ha⟩
    · rw [List.map_cons, List.count_cons_of_ne (by simpa using hd), ih hl]
      simp [Ne.symm hd]

end Sys2Proof.Machine

/-! The table check of START answers the first fault of R10, its section check the first DISTURBED section of R42. -/

namespace Sys2Proof.Machine

/-! ### Scans -/

/-- A scan answers the first of the faults `F`, which stand at their indices, and none when there is none. -/
def Scans {α : Type} (F : Nat → α → Prop) (c : Option α) : Prop :=
  (c = none → ∀ i x, ¬F i x) ∧ ∀ x, c = some x → ∃ i, F i x ∧ ∀ j y, F j y → i ≤ j

/-- A search of a list whose elements ascend scans for what it looks for. -/
theorem Scans.find {α β : Type} {F : Nat → β → Prop} {l : List α} {key : α → Nat} {P : α → Bool} {f : α → β}
    (ascends : l.Pairwise fun a b => key a < key b) (faults : ∀ i x, F i x ↔ ∃ a ∈ l, P a = true ∧ key a = i ∧ f a = x) :
    Scans F ((l.find? P).map f) := by
  refine ⟨fun none i x fault => ?_, fun x found => ?_⟩
  · obtain ⟨a, ha, hP, -, -⟩ := (faults i x).mp fault
    exact List.find?_eq_none.mp (Option.map_eq_none_iff.mp none) a ha hP
  · obtain ⟨a, first, rfl⟩ := Option.map_eq_some_iff.mp found
    obtain ⟨ha, hP, least⟩ := find?_ascending ascends first
    refine ⟨key a, (faults _ _).mpr ⟨a, ha, hP, rfl, rfl⟩, fun j y fault => ?_⟩
    obtain ⟨b, hb, hPb, rfl, -⟩ := (faults j y).mp fault
    exact least b hb hPb

/-- The indices of a list ascend. -/
theorem zipIdx_ascending {α : Type} (l : List α) (n : Nat) : (l.zipIdx n).Pairwise fun a b => a.2 < b.2 := by
  induction l generalizing n with
  | nil => exact .nil
  | cons x l ih =>
    rw [List.zipIdx_cons, List.pairwise_cons]
    exact ⟨fun y hy => List.le_snd_of_mem_zipIdx hy, ih (n + 1)⟩

/-- The step of the table check from which it scans, and the first fault of this step and the later ones. -/
def State.scansFrom (s : State) (k : Nat) (c : Option (TableName × Nat)) : Prop :=
  (c = none → ∀ n i x, k ≤ n → ¬TableFault s n i x)
    ∧ ∀ x, c = some x → ∃ n i, TableFault s n i x
      ∧ ∀ m j y, k ≤ m → TableFault s m j y → n < m ∨ (n = m ∧ i ≤ j)

/-- A step is scanned before the later ones, which are looked at only when it finds no fault. -/
theorem State.scansFrom.before {s : State} {k : Nat} {c d : Option (TableName × Nat)} (here : Scans (TableFault s k) c)
    (later : (∀ i x, ¬TableFault s k i x) → s.scansFrom (k + 1) d) : s.scansFrom k (c.or d) := by
  cases c with
  | none =>
    have clear := here.1 rfl
    refine ⟨fun e n i x hk fault => ?_, fun x e => ?_⟩
    · rcases Nat.eq_or_lt_of_le hk with rfl | hlt
      · exact clear i x fault
      · exact (later clear).1 e n i x hlt fault
    · obtain ⟨n, i, fault, first⟩ := (later clear).2 x e
      refine ⟨n, i, fault, fun m j y hk other => ?_⟩
      rcases Nat.eq_or_lt_of_le hk with rfl | hlt
      · exact absurd other (clear j y)
      · exact first m j y hlt other
  | some x =>
    refine ⟨nofun, fun y e => ?_⟩
    cases e
    obtain ⟨i, fault, least⟩ := here.2 x rfl
    refine ⟨k, i, fault, fun m j y hk other => ?_⟩
    rcases Nat.eq_or_lt_of_le hk with rfl | hlt
    · exact .inr ⟨rfl, least j y other⟩
    · exact .inl hlt

/-- A fault's place in the scan tells what the refusal names. -/
theorem TableFault.unique {s : State} {n i : Nat} {x y : TableName × Nat} (h : TableFault s n i x) (k : TableFault s n i y) :
    x = y := by
  cases h <;> cases k <;> rfl

theorem TableFault.step_le {s : State} {n i : Nat} {x : TableName × Nat} (h : TableFault s n i x) : 1 ≤ n ∧ n ≤ 12 := by
  cases h <;> decide

/-! ### The steps of the table check (R10) -/

theorem State.checkParameters_scans (s : State) : Scans (TableFault s 1) s.checkParameters := by
  have at1 {j : Nat} {y : TableName × Nat} (h : TableFault s 1 j y) : 1 ≤ j := by cases h <;> decide
  unfold State.checkParameters
  refine ⟨fun none i x fault => ?_, fun x found => ?_⟩
  · split at none
    · cases none
    · split at none
      · cases none
      · split at none
        · cases none
        · cases fault <;> contradiction
  · split at found
    · cases found
      exact ⟨1, .leadDetector ‹_›, fun j y => at1⟩
    · rename_i lead
      split at found
      · cases found
        refine ⟨2, .rejectTrack ‹_›, fun j y fault => ?_⟩
        cases fault with
        | leadDetector h => exact absurd h lead
        | rejectTrack => decide
        | signalStation => decide
      · rename_i reject
        split at found
        · cases found
          refine ⟨3, .signalStation ‹_›, fun j y fault => ?_⟩
          cases fault with
          | leadDetector h => exact absurd h lead
          | rejectTrack h => exact absurd h reject
          | signalStation => decide
        · cases found

theorem State.branchOk_iff {s : State} {p : Nat} {leg : Leg} {b : Branch} : s.branchOk p leg b = true ↔ BranchFits s p leg b := by
  cases b <;> simp [State.branchOk, BranchFits, Option.any_eq_true]

theorem State.upstreamOk_iff {s : State} {p : Nat} {u : Upstream} :
    s.upstreamOk p u = true ↔ ∀ q leg, u = .parent q leg → ∃ x, s.pointRecord q = some x ∧ x.branch leg = .point p := by
  cases u <;> simp [State.upstreamOk, Option.any_eq_true]

theorem State.checkPoints_scans (s : State) : Scans (TableFault s 2) s.checkPoints := by
  refine Scans.find (key := id) s.presentPoints_ascending fun i x => ?_
  have legs {p : Nat} {r : PointRecord} :
      (∀ leg, BranchFits s p leg (r.branch leg)) ↔ BranchFits s p .left r.left ∧ BranchFits s p .right r.right :=
    ⟨fun h => ⟨h .left, h .right⟩, fun h leg => by cases leg <;> [exact h.1; exact h.2]⟩
  constructor
  · intro fault
    cases fault with
    | branch p r leg hr unfit =>
      refine ⟨i, State.mem_presentPoints.mpr ⟨r, hr⟩, ?_, rfl, rfl⟩
      simp only [hr, Option.any_some, Bool.not_eq_true', ← Bool.not_eq_true, Bool.and_eq_true, State.branchOk_iff, ← legs]
      exact fun h => unfit (h.1 leg)
    | upstream p q r leg hr up unfit =>
      refine ⟨i, State.mem_presentPoints.mpr ⟨r, hr⟩, ?_, rfl, rfl⟩
      simp only [hr, Option.any_some, Bool.not_eq_true', ← Bool.not_eq_true, Bool.and_eq_true, State.upstreamOk_iff]
      intro h
      obtain ⟨x, hx, hb⟩ := h.2 q leg up
      exact unfit x hx hb
  · rintro ⟨p, hp, bad, rfl, rfl⟩
    obtain ⟨r, hr⟩ := State.mem_presentPoints.mp hp
    simp only [hr, Option.any_some, Bool.not_eq_true', ← Bool.not_eq_true, Bool.and_eq_true, State.branchOk_iff,
      State.upstreamOk_iff, ← legs, Classical.not_and_iff_not_or_not] at bad
    rcases bad with bad | bad
    · obtain ⟨leg, unfit⟩ := Classical.not_forall.mp bad
      exact .branch p r leg hr unfit
    · simp only [Classical.not_forall] at bad
      obtain ⟨q, leg, up, unfit⟩ := bad
      exact .upstream p q r leg hr up fun x hx hb => unfit ⟨x, hx, hb⟩

theorem State.checkTracks_scans (s : State) : Scans (TableFault s 3) s.checkTracks := by
  refine Scans.find (key := id) s.presentTracks_ascending fun i x => ?_
  constructor
  · intro fault
    cases fault with
    | parent t r hr unfit =>
      refine ⟨i, State.mem_presentTracks.mpr ⟨r, hr⟩, ?_, rfl, rfl⟩
      simpa [hr, ← Bool.not_eq_true, Option.any_eq_true] using unfit
  · rintro ⟨t, ht, bad, rfl, rfl⟩
    obtain ⟨r, hr⟩ := State.mem_presentTracks.mp ht
    exact .parent t r hr (by simpa [hr, ← Bool.not_eq_true, Option.any_eq_true] using bad)

theorem State.checkRoot_scans (s : State) : Scans (TableFault s 4) s.checkRoot := by
  have ascends := s.roots_ascending
  have isRoot : ∀ {p r}, s.pointRecord p = some r → r.upstream = .lead → p ∈ s.roots := fun hr up => State.mem_roots.mpr ⟨_, hr, up⟩
  unfold State.checkRoot
  split
  · rename_i none
    have noRoot : ∀ p r, s.pointRecord p = some r → r.upstream ≠ .lead := fun p r hr up => by
      have := isRoot hr up
      rw [none] at this
      cases this
    refine ⟨nofun, fun x e => ?_⟩
    cases e
    exact ⟨0, .noRoot noRoot, fun _ _ _ => Nat.zero_le _⟩
  · rename_i p one
    refine ⟨fun _ i x fault => ?_, nofun⟩
    cases fault with
    | noRoot no =>
      obtain ⟨r, hr, up⟩ := State.mem_roots.mp (one ▸ List.mem_singleton_self p)
      exact no p r hr up
    | twoRoots a b r x hr up hx xup lt =>
      have ha := isRoot hr up
      have hb := isRoot hx xup
      rw [one, List.mem_singleton] at ha hb
      omega
  · rename_i p q rest two
    rw [two] at ascends
    obtain ⟨first, ascends⟩ := List.pairwise_cons.mp ascends
    obtain ⟨second, -⟩ := List.pairwise_cons.mp ascends
    obtain ⟨r, hr, up⟩ := State.mem_roots.mp (two ▸ List.mem_cons_self : p ∈ s.roots)
    obtain ⟨x, hx, xup⟩ := State.mem_roots.mp (two ▸ List.mem_cons_of_mem _ List.mem_cons_self : q ∈ s.roots)
    have place : ∀ k y, s.pointRecord k = some y → y.upstream = .lead → k = p ∨ q ≤ k := fun k y hy yup => by
      have := isRoot hy yup
      rw [two, List.mem_cons, List.mem_cons] at this
      rcases this with h | h | h
      · exact .inl h
      · exact .inr (Nat.le_of_eq h.symm)
      · exact .inr (Nat.le_of_lt (second k h))
    refine ⟨nofun, fun z e => ?_⟩
    cases e
    refine ⟨q, .twoRoots p q r x hr up hx xup (first q List.mem_cons_self) place, fun j y fault => ?_⟩
    cases fault with
    | noRoot no => exact absurd up (no p r hr)
    | twoRoots a b ra rb ha aup hb bup lt other =>
      have := place a ra ha aup
      have := place _ rb hb bup
      have := other p r hr up
      omega

theorem State.unreachedPoints_scans {s : State} (branches : s.branchesFit) (upstreams : s.upstreamsFit) :
    Scans (TableFault s 5) ((s.presentPoints.find? fun p => (s.walkTo 64 p).isNone).map fun p => (.point, p)) := by
  have none (p : Nat) : (s.walkTo 64 p).isNone = true ↔ ∀ path, ¬DownTo s path (.point p) := by
    simp only [Option.isNone_iff_eq_none, Option.eq_none_iff_forall_ne_some, ne_eq, State.walkTo_iff branches upstreams]
  refine Scans.find (key := id) s.presentPoints_ascending fun i x => ?_
  simp only [none, State.mem_presentPoints, ← Option.ne_none_iff_exists']
  constructor
  · intro fault
    cases fault with
    | unreachedPoint p hp unreached => exact ⟨i, hp, unreached, rfl, rfl⟩
  · rintro ⟨p, hp, unreached, rfl, rfl⟩
    exact .unreachedPoint p hp unreached

theorem State.unreachedTracks_scans {s : State} (branches : s.branchesFit) (upstreams : s.upstreamsFit) (parents : s.parentsFit) :
    Scans (TableFault s 6) ((s.presentTracks.find? fun t => (s.walkToTrack t).isNone).map fun t => (.track, t)) := by
  have none (t : Nat) : (s.walkToTrack t).isNone = true ↔ ∀ path, ¬DownTo s path (.track t) := by
    simp only [Option.isNone_iff_eq_none, Option.eq_none_iff_forall_ne_some, ne_eq,
      State.walkToTrack_iff branches upstreams parents]
  refine Scans.find (key := id) s.presentTracks_ascending fun i x => ?_
  simp only [none, State.mem_presentTracks, ← Option.ne_none_iff_exists']
  constructor
  · intro fault
    cases fault with
    | unreachedTrack t ht unreached => exact ⟨i, ht, unreached, rfl, rfl⟩
  · rintro ⟨t, ht, unreached, rfl, rfl⟩
    exact .unreachedTrack t ht unreached

theorem State.checkPathLength_scans {s : State} (branches : s.branchesFit) (upstreams : s.upstreamsFit) (parents : s.parentsFit) :
    Scans (TableFault s 7) s.checkPathLength := by
  have long (t : Nat) : Config.pathCap < ((s.walkToTrack t).getD []).length ↔ ∃ path, DownTo s path (.track t) ∧ 12 < path.length := by
    simp only [← State.walkToTrack_iff branches upstreams parents]
    cases s.walkToTrack t <;> simp [Config.pathCap]
  refine Scans.find (key := id) s.presentTracks_ascending fun i x => ?_
  simp only [decide_eq_true_eq, long, State.mem_presentTracks, ← Option.ne_none_iff_exists']
  constructor
  · intro fault
    cases fault with
    | longPath t path ht down length => exact ⟨i, ht, ⟨path, down, length⟩, rfl, rfl⟩
  · rintro ⟨t, ht, ⟨path, down, length⟩, rfl, rfl⟩
    exact .longPath t path ht down length

theorem State.checkDetectors_scans (s : State) : Scans (TableFault s 8) s.checkDetectors := by
  refine Scans.find (key := id) (ids_ascending 254) fun i x => ?_
  simp only [decide_eq_true_eq, State.detectors_eq, two_le_count_iff s.numbered_nodup, State.mem_numbered, mem_ids]
  constructor
  · intro fault
    cases fault with
    | detector d c k low high hc hk differ => exact ⟨i, ⟨low, high⟩, ⟨c, k, hc, hk, differ⟩, rfl, rfl⟩
  · rintro ⟨d, ⟨low, high⟩, ⟨c, k, hc, hk, differ⟩, rfl, rfl⟩
    exact .detector d c k low high hc hk differ

theorem State.checkReject_scans (s : State) : Scans (TableFault s 9) s.checkReject := by
  unfold State.checkReject
  split
  · rename_i absent
    refine ⟨nofun, fun x e => ?_⟩
    cases e
    exact ⟨0, .noReject (Option.isNone_iff_eq_none.mp absent), fun _ _ _ => Nat.zero_le _⟩
  · rename_i present
    refine ⟨fun _ i x fault => ?_, nofun⟩
    cases fault with
    | noReject absent => exact present (Option.isNone_iff_eq_none.mpr absent)

theorem State.routes_scan (s : State) :
    Scans (TableFault s 10) ((s.tables.routes.toList.zipIdx.find? fun x => decide (x.1 ≠ 0) && (s.trackRecord x.1).isNone).map
      fun x => (.route, x.2)) := by
  refine Scans.find (key := Prod.snd) (zipIdx_ascending _ 0) fun i x => ?_
  have entry (n code : Nat) (named : n ≠ 0) : (n, code) ∈ s.tables.routes.toList.zipIdx ↔ s.routeEntry code = n := by
    rw [List.mk_mem_zipIdx_iff_getElem?, State.routeEntry]
    cases s.tables.routes.toList[code]? <;> simp [named.symm]
  constructor
  · intro fault
    cases fault with
    | route code named absent =>
      exact ⟨(s.routeEntry i, i), (entry _ _ named).mpr rfl, by simp [named, absent], rfl, rfl⟩
  · rintro ⟨⟨n, code⟩, mem, bad, rfl, rfl⟩
    simp only [Bool.and_eq_true, decide_eq_true_eq, Option.isNone_iff_eq_none] at bad
    obtain ⟨named, absent⟩ := bad
    have := (entry n code named).mp mem
    exact .route code (this ▸ named) (this ▸ absent)

theorem State.patches_scan (s : State) :
    Scans (TableFault s 11) ((s.tables.patches.toList.zipIdx.find? fun x => x.1.enabled && (s.trackRecord x.1.track).isNone).map
      fun x => (.patch, x.2 + 1)) := by
  refine Scans.find (key := fun x => x.2 + 1) ((zipIdx_ascending _ 0).imp Nat.succ_lt_succ) fun i x => ?_
  have entry (e : Patch) (k : Nat) : (e, k) ∈ s.tables.patches.toList.zipIdx
      ↔ k + 1 ≤ 8 ∧ e = readAt s.tables.patches ⟨false, 0, 0, 0⟩ (k + 1) := by
    rw [List.mk_mem_zipIdx_iff_getElem?]
    unfold readAt
    by_cases hk : k < 8
    · have size : k + 1 ≤ 8 := hk
      simp [hk, size, eq_comm]
    · have size : ¬k + 1 ≤ 8 := hk
      simp [hk, size]
  constructor
  · intro fault
    cases fault with
    | patch k e low high he enabled absent =>
      obtain ⟨k, rfl⟩ := Nat.exists_eq_succ_of_ne_zero (Nat.ne_of_gt low)
      exact ⟨(e, k), (entry e k).mpr ⟨high, he⟩, by simp [enabled, absent], rfl, rfl⟩
  · rintro ⟨⟨e, k⟩, mem, bad, rfl, rfl⟩
    simp only [Bool.and_eq_true, Option.isNone_iff_eq_none] at bad
    obtain ⟨high, he⟩ := (entry e k).mp mem
    exact .patch (k + 1) e (Nat.succ_pos k) high he bad.1 bad.2

theorem State.alternates_scan (s : State) :
    Scans (TableFault s 12) ((s.presentTracks.find? fun t => (s.trackRecord t).any fun r =>
      r.alternates.any fun a => (s.trackRecord a).isNone).map fun t => (.track, t)) := by
  refine Scans.find (key := id) s.presentTracks_ascending fun i x => ?_
  constructor
  · intro fault
    cases fault with
    | alternate t a r hr ha absent =>
      refine ⟨i, State.mem_presentTracks.mpr ⟨r, hr⟩, ?_, rfl, rfl⟩
      simp only [hr, Option.any_some, List.any_eq_true, Option.isNone_iff_eq_none]
      exact ⟨a, ha, absent⟩
  · rintro ⟨t, ht, bad, rfl, rfl⟩
    obtain ⟨r, hr⟩ := State.mem_presentTracks.mp ht
    simp only [hr, Option.any_some, List.any_eq_true, Option.isNone_iff_eq_none] at bad
    obtain ⟨a, ha, absent⟩ := bad
    exact .alternate t a r hr ha absent

/-! ### The two checks -/

/-- No fault of step 2: the branches and the upstreams fit. -/
theorem State.fit_of_noFault {s : State} (clear : ∀ i x, ¬TableFault s 2 i x) : s.branchesFit ∧ s.upstreamsFit := by
  refine ⟨fun p r leg hr => Classical.byContradiction fun unfit => clear _ _ (.branch p r leg hr unfit),
    fun p r q leg hr up => Classical.byContradiction fun unfit => clear _ _ (.upstream p q r leg hr up fun x hx hb => unfit ⟨x, hx, hb⟩)⟩

/-- No fault of step 3: the parents of the tracks fit. -/
theorem State.parentsFit_of_noFault {s : State} (clear : ∀ i x, ¬TableFault s 3 i x) : s.parentsFit :=
  fun t r hr => Classical.byContradiction fun unfit => clear _ _ (.parent t r hr fun x hx hb => unfit ⟨x, hx, hb⟩)

/-- The table check answers the first fault in the order of R10. -/
theorem State.tableCheck_scans (s : State) : s.scansFrom 1 s.tableCheck := by
  unfold State.tableCheck State.checkReached State.checkReferences
  refine .before s.checkParameters_scans fun _ => .before s.checkPoints_scans fun clear2 => .before s.checkTracks_scans fun clear3 =>
    .before s.checkRoot_scans fun _ => ?_
  obtain ⟨branches, upstreams⟩ := State.fit_of_noFault clear2
  have parents := State.parentsFit_of_noFault clear3
  rw [Option.or_assoc]
  refine .before (State.unreachedPoints_scans branches upstreams) fun _ =>
    .before (State.unreachedTracks_scans branches upstreams parents) fun _ =>
    .before (State.checkPathLength_scans branches upstreams parents) fun _ => .before s.checkDetectors_scans fun _ =>
    .before s.checkReject_scans fun _ => .before s.routes_scan fun _ => .before s.patches_scan fun _ => ?_
  rw [← Option.or_none (o := Option.map _ _)]
  refine .before s.alternates_scan fun _ => ⟨fun _ n i x later fault => ?_, nofun⟩
  have := fault.step_le
  omega

/-- START passes the table check exactly when no fault stands (R10). -/
theorem State.tableCheck_eq_none (s : State) : s.tableCheck = none ↔ ∀ step index fault, ¬TableFault s step index fault := by
  refine ⟨fun e n i x fault => s.tableCheck_scans.1 e n i x fault.step_le.1 fault, fun clear => ?_⟩
  rw [Option.eq_none_iff_forall_ne_some]
  intro x e
  obtain ⟨n, i, fault, -⟩ := s.tableCheck_scans.2 x e
  exact clear n i x fault

/-- START's table check answers the fault that stands first in the scan (R10). -/
theorem State.tableCheck_eq_some (s : State) (fault : TableName × Nat) : s.tableCheck = some fault ↔ ∃ step index,
    TableFault s step index fault ∧ ∀ n i x, TableFault s n i x → step < n ∨ (step = n ∧ index ≤ i) := by
  constructor
  · intro e
    obtain ⟨n, i, here, first⟩ := s.tableCheck_scans.2 fault e
    exact ⟨n, i, here, fun m j y other => first m j y other.step_le.1 other⟩
  · rintro ⟨n, i, here, first⟩
    cases e : s.tableCheck with
    | none => exact absurd here (s.tableCheck_eq_none.mp e n i fault)
    | some x =>
      obtain ⟨m, j, other, least⟩ := s.tableCheck_scans.2 x e
      have before := least n i fault here.step_le.1 here
      have after := first m j x other
      obtain ⟨rfl, rfl⟩ : m = n ∧ j = i := by omega
      rw [other.unique here]

theorem State.mem_presentSections {s : State} {id : SectionId} : id ∈ s.presentSections ↔ SectionPresent s id := by
  cases id <;> simp [State.presentSections, State.mem_presentPoints, State.mem_presentTracks, SectionPresent, Option.ne_none_iff_exists']

/-- START examines the sections in the order of R42. -/
theorem State.presentSections_ascending (s : State) : s.presentSections.Pairwise fun a b => sectionPlace a < sectionPlace b := by
  have bound {p : Nat} (h : p ∈ s.presentPoints) : p ≤ 63 := (State.pointRecord_range (State.mem_presentPoints.mp h).choose_spec).2
  have from1 {t : Nat} (h : t ∈ s.presentTracks) : 1 ≤ t := (State.trackRecord_range (State.mem_presentTracks.mp h).choose_spec).1
  have point1 {p : Nat} (h : p ∈ s.presentPoints) : 1 ≤ p := (State.pointRecord_range (State.mem_presentPoints.mp h).choose_spec).1
  simp only [State.presentSections, List.pairwise_append, List.pairwise_map, List.mem_append, List.mem_map]
  refine ⟨⟨s.presentPoints_ascending, s.presentPoints_ascending.imp fun h => Nat.add_lt_add_left h 63, ?_⟩,
    s.presentTracks_ascending.imp fun h => Nat.add_lt_add_left h 126, ?_⟩
  · rintro _ ⟨p, hp, rfl⟩ _ ⟨q, hq, rfl⟩
    have := bound hp
    have := point1 hq
    simp only [sectionPlace]
    omega
  · rintro _ (⟨p, hp, rfl⟩ | ⟨p, hp, rfl⟩) _ ⟨t, ht, rfl⟩ <;>
    · have := bound hp
      have := from1 ht
      simp only [sectionPlace]
      omega

/-- No two sections of the present records have one place. -/
theorem State.sectionPlace_inj {s : State} {a b : SectionId} (ha : SectionPresent s a) (hb : SectionPresent s b)
    (same : sectionPlace a = sectionPlace b) : a = b :=
  List.inj_on_of_nodup_map (List.pairwise_map.mpr (s.presentSections_ascending.imp Nat.ne_of_lt))
    (State.mem_presentSections.mpr ha) (State.mem_presentSections.mpr hb) same

/-- START's section check answers the DISTURBED section that stands first (R42). -/
theorem State.sectionCheck_scans (s : State) :
    Scans (fun i id => SectionPresent s id ∧ (s.sec id).disturbance ≠ none ∧ sectionPlace id = i) s.sectionCheck := by
  have := Scans.find (F := fun i id => SectionPresent s id ∧ (s.sec id).disturbance ≠ none ∧ sectionPlace id = i)
    (P := fun id => (s.sec id).disturbance.isSome) (f := id) s.presentSections_ascending fun i id => by
      simp [State.mem_presentSections, Option.isSome_iff_ne_none]
  simpa [State.sectionCheck] using this

/-- Settles O24: the checks are scans, step by step. -/
theorem startChecksFindTheFirstFault : Obligations.StartChecksFindTheFirstFault := by
  unfold Obligations.StartChecksFindTheFirstFault
  intro s
  obtain ⟨-, first⟩ := s.sectionCheck_scans
  have none : s.sectionCheck = none ↔ ∀ id, SectionPresent s id → (s.sec id).disturbance = none := by
    simp [State.sectionCheck, List.find?_eq_none, State.mem_presentSections]
  refine ⟨s.tableCheck_eq_none, s.tableCheck_eq_some, none, fun id => ⟨fun found => ?_, fun ⟨present, disturbed, least⟩ => ?_⟩⟩
  · obtain ⟨_, ⟨present, disturbed, rfl⟩, least⟩ := first id found
    exact ⟨present, disturbed, fun x hx dx => least _ x ⟨hx, dx, rfl⟩⟩
  · cases found : s.sectionCheck with
    | none => exact absurd (none.mp found id present) disturbed
    | some x =>
      obtain ⟨_, ⟨hx, dx, rfl⟩, leastx⟩ := first x found
      rw [State.sectionPlace_inj hx present (Nat.le_antisymm (leastx _ id ⟨present, disturbed, rfl⟩) (least x hx dx))]

end Sys2Proof.Machine

/-! What START derives of a table that passes its check (R11, R12), and the ladder of a run as an invariant (R10 to R12, R78). -/

namespace Sys2Proof.Machine

/-! ### The paths that START derives (R12) -/

/-- A keyed list built by a function reads as that function on its keys. -/
theorem lookup_filterMap_keyed {β : Type} (f : Nat → Option β) (l : List Nat) (a : Nat) :
    (l.filterMap fun x => (f x).map fun b => (x, b)).lookup a = if a ∈ l then f a else none := by
  induction l with
  | nil => rfl
  | cons x l ih =>
    cases h : f x with
    | none =>
      simp only [List.filterMap_cons, h, Option.map_none, ih, List.mem_cons]
      by_cases e : a = x
      · subst e
        simp [h]
      · simp [e]
    | some b =>
      simp only [List.filterMap_cons, h, Option.map_some, List.lookup_cons, List.mem_cons]
      by_cases e : a = x
      · subst e
        simp [h]
      · simp [beq_eq_false_iff_ne.mpr e, e, ih]

/-- What a lookup answers stands in the list. -/
theorem mem_of_lookup {β : Type} {l : List (Nat × β)} {a : Nat} {b : β} (h : l.lookup a = some b) : (a, b) ∈ l := by
  induction l with
  | nil => cases h
  | cons x l ih =>
    obtain ⟨k, c⟩ := x
    rw [List.lookup_cons] at h
    by_cases e : a = k
    · subst e
      simp only [beq_self_eq_true, Option.some.injEq] at h
      simp [h]
    · rw [beq_eq_false_iff_ne.mpr e] at h
      exact List.mem_cons_of_mem _ (ih h)

/-- A lookup of a key that stands in the list answers. -/
theorem lookup_of_mem {β : Type} {l : List (Nat × β)} {a : Nat} {b : β} (h : (a, b) ∈ l) : ∃ c, l.lookup a = some c := by
  induction l with
  | nil => cases h
  | cons x l ih =>
    obtain ⟨k, c⟩ := x
    rw [List.lookup_cons]
    by_cases e : a = k
    · simp [e]
    · rw [beq_eq_false_iff_ne.mpr e]
      rcases List.mem_cons.mp h with h | h
      · cases h
        exact absurd rfl e
      · exact ih h

theorem State.derive_pointPath (s : State) (p : Nat) :
    s.derive.pointPath p = ((if p ∈ s.presentPoints then s.walkTo 64 p else none).getD []) := by
  simp only [State.pointPath, State.derive, lookup_filterMap_keyed]

theorem State.derive_trackPath (s : State) (t : Nat) :
    s.derive.trackPath t = ((if t ∈ s.presentTracks then s.walkToTrack t else none).getD []) := by
  simp only [State.trackPath, State.derive, lookup_filterMap_keyed]

section
variable {s : State} (clear : s.tableCheck = none)
include clear

theorem State.passed_fit : s.branchesFit ∧ s.upstreamsFit ∧ s.parentsFit := by
  have none := s.tableCheck_eq_none.mp clear
  obtain ⟨branches, upstreams⟩ := State.fit_of_noFault (none 2)
  exact ⟨branches, upstreams, State.parentsFit_of_noFault (none 3)⟩

/-- The path START derives for a present point is the walk down to it. -/
theorem State.derive_pointPath_downTo {p : Nat} (present : s.pointRecord p ≠ none) : DownTo s (s.derive.pointPath p) (.point p) := by
  obtain ⟨branches, upstreams, -⟩ := State.passed_fit clear
  obtain ⟨path, down⟩ : ∃ path, DownTo s path (.point p) := Classical.byContradiction fun unreached =>
    s.tableCheck_eq_none.mp clear _ _ _ (.unreachedPoint p present fun path h => unreached ⟨path, h⟩)
  have walk := (State.walkTo_iff branches upstreams p path).mpr down
  rw [State.derive_pointPath, if_pos (State.mem_presentPoints.mpr (Option.ne_none_iff_exists'.mp present)), walk]
  exact down

/-- The path START derives for a present track is the walk down to it. -/
theorem State.derive_trackPath_downTo {t : Nat} (present : s.trackRecord t ≠ none) : DownTo s (s.derive.trackPath t) (.track t) := by
  obtain ⟨branches, upstreams, parents⟩ := State.passed_fit clear
  obtain ⟨path, down⟩ : ∃ path, DownTo s path (.track t) := Classical.byContradiction fun unreached =>
    s.tableCheck_eq_none.mp clear _ _ _ (.unreachedTrack t present fun path h => unreached ⟨path, h⟩)
  have walk := (State.walkToTrack_iff branches upstreams parents t path).mpr down
  rw [State.derive_trackPath, if_pos (State.mem_presentTracks.mpr (Option.ne_none_iff_exists'.mp present)), walk]
  exact down

/-- Every walk of a table that passes has at most 12 pairs: some track lies below its end, and that track's path is no shorter. -/
theorem DownTo.length_le_twelve {path : Path} {b : Branch} (down : DownTo s path b) : path.length ≤ 12 := by
  obtain ⟨branches, -, -⟩ := State.passed_fit clear
  induction n : 63 - path.length generalizing path b with
  | zero =>
    cases b with
    | track t =>
      have present := down.present branches
      exact Nat.le_of_not_lt fun long =>
        s.tableCheck_eq_none.mp clear _ _ _ (.longPath t path (Option.ne_none_iff_exists'.mpr present) down long)
    | point p =>
      obtain ⟨r, hr⟩ := down.present branches
      have := (DownTo.leg path p r .left down hr).length_le branches
      simp at this
      omega
  | succ n ih =>
    cases b with
    | track t =>
      have present := down.present branches
      exact Nat.le_of_not_lt fun long =>
        s.tableCheck_eq_none.mp clear _ _ _ (.longPath t path (Option.ne_none_iff_exists'.mpr present) down long)
    | point p =>
      obtain ⟨r, hr⟩ := down.present branches
      have := ih (DownTo.leg path p r .left down hr) (by simp; omega)
      simp at this
      omega

end

/-! ### The detector map that START builds (R11) -/

/-- An entry of the map gives the counter with its number, and the places a crossing joins. -/
theorem State.buildMap_sound {s : State} {d : Nat} {j : Joint} (h : (d, j) ∈ s.buildMap) :
    DetectorAt s d j.counter ∧ Joins s j.up j.down j.counter := by
  have legJoins {p : Nat} {r : PointRecord} (leg : Leg) (hr : s.pointRecord p = some r) :
      Joins s (.sec (.guard p)) (.sec (r.branch leg).sec) (.guardOut p leg) := by
    refine ⟨rfl, r, hr, ?_⟩
    cases r.branch leg with
    | point q => exact .inl ⟨q, rfl, rfl⟩
    | track t => exact .inr ⟨t, rfl, rfl⟩
  simp only [State.buildMap, List.mem_append, List.mem_map, List.mem_flatMap, List.mem_filterMap, Option.map_eq_some_iff,
    Prod.mk.injEq, State.mem_roots] at h
  rcases h with (⟨p, ⟨r, hr, up⟩, rfl, rfl⟩ | ⟨p, -, m⟩) | ⟨t, -, r, hr, rfl, rfl⟩
  · exact ⟨rfl, rfl, p, r, hr, up, rfl⟩
  · cases hr : s.pointRecord p with
    | none => simp [hr] at m
    | some r =>
      simp only [hr, Option.map_some, Option.getD_some, PointRecord.joints, List.mem_cons, Prod.mk.injEq, List.not_mem_nil,
        or_false] at m
      rcases m with ⟨rfl, rfl⟩ | ⟨rfl, rfl⟩ | ⟨rfl, rfl⟩
      · exact ⟨⟨r, hr, rfl⟩, rfl, rfl⟩
      · exact ⟨⟨r, hr, rfl⟩, legJoins .left hr⟩
      · exact ⟨⟨r, hr, rfl⟩, legJoins .right hr⟩
  · exact ⟨⟨r, hr, rfl⟩, rfl, rfl⟩

/-- Every counter of the ladder with a root has an entry in the map. -/
theorem State.buildMap_complete {s : State} (root : ∃ p r, s.pointRecord p = some r ∧ r.upstream = .lead) {d : Nat} {c : Counter}
    (h : DetectorAt s d c) : ∃ j, (d, j) ∈ s.buildMap := by
  simp only [State.buildMap, List.mem_append, List.mem_map, List.mem_flatMap, List.mem_filterMap, Option.map_eq_some_iff,
    Prod.mk.injEq, State.mem_roots, mem_ids]
  have onPoint {p : Nat} {r : PointRecord} {d : Nat} {j : Joint} (hr : s.pointRecord p = some r) (hj : (d, j) ∈ r.joints p) :
      ∃ a, (1 ≤ a ∧ a ≤ 63) ∧ (d, j) ∈ ((s.pointRecord a).map fun r => r.joints a).getD [] :=
    ⟨p, State.pointRecord_range hr, by simpa [hr] using hj⟩
  cases c with
  | lead =>
    obtain ⟨p, r, hr, up⟩ := root
    exact ⟨_, .inl (.inl ⟨p, ⟨r, hr, up⟩, Eq.symm h, rfl⟩)⟩
  | guardIn p =>
    obtain ⟨r, hr, rfl⟩ := h
    exact ⟨_, .inl (.inr (onPoint hr (List.mem_cons_self ..)))⟩
  | guardOut p leg =>
    cases leg with
    | left =>
      obtain ⟨r, hr, rfl⟩ := h
      exact ⟨_, .inl (.inr (onPoint hr (List.mem_cons_of_mem _ (List.mem_cons_self ..))))⟩
    | right =>
      obtain ⟨r, hr, rfl⟩ := h
      exact ⟨_, .inl (.inr (onPoint hr (List.mem_cons_of_mem _ (List.mem_cons_of_mem _ (List.mem_cons_self ..)))))⟩
  | clearance t =>
    obtain ⟨r, hr, rfl⟩ := h
    exact ⟨_, .inr ⟨t, State.trackRecord_range hr, r, hr, rfl, rfl⟩⟩

/-- What the derived map says of a number. -/
theorem State.derive_joint_sound {s : State} {d : Nat} {j : Joint} (h : s.derive.joint d = some j) :
    DetectorAt s d j.counter ∧ Joins s j.up j.down j.counter :=
  State.buildMap_sound (mem_of_lookup h)

/-- The derived map gives every number of a table that passes its counter. -/
theorem State.derive_joint_complete {s : State} (clear : s.tableCheck = none) {d : Nat} {c : Counter} (low : 1 ≤ d) (high : d ≤ 254)
    (h : DetectorAt s d c) : ∃ up down, s.derive.joint d = some ⟨c, up, down⟩ ∧ Joins s up down c := by
  have root : ∃ p r, s.pointRecord p = some r ∧ r.upstream = .lead := Classical.byContradiction fun no =>
    s.tableCheck_eq_none.mp clear _ _ _ (.noRoot fun p r hr up => no ⟨p, r, hr, up⟩)
  obtain ⟨j, mem⟩ := State.buildMap_complete root h
  obtain ⟨⟨k, up, down⟩, found⟩ := lookup_of_mem mem
  obtain ⟨at_, joins⟩ := State.derive_joint_sound found
  have same : k = c := Classical.byContradiction fun differ =>
    s.tableCheck_eq_none.mp clear _ _ _ (.detector d k c low high at_ h differ)
  subst same
  exact ⟨up, down, found, joins⟩

/-! ### The ladder of two states with the same records -/

theorem DownTo.of_records {s t : State} (records : ∀ p, t.pointRecord p = s.pointRecord p) {path : Path} {b : Branch}
    (h : DownTo s path b) : DownTo t path b := by
  induction h with
  | root p r hr up => exact .root p r (records p ▸ hr) up
  | leg path p r leg _ hr ih => exact .leg path p r leg ih (records p ▸ hr)

theorem DownTo.records_iff {s t : State} (records : ∀ p, t.pointRecord p = s.pointRecord p) {path : Path} {b : Branch} :
    DownTo t path b ↔ DownTo s path b :=
  ⟨.of_records fun p => (records p).symm, .of_records records⟩

theorem Joins.of_records {s t : State} (records : ∀ p, t.pointRecord p = s.pointRecord p) {up down : Place} {c : Counter}
    (h : Joins s up down c) : Joins t up down c := by
  cases c <;> simpa only [Joins, records] using h

/-- What the ladder's statement reads of the tables is the same in two states, both of a run or both in CONFIG. -/
structure State.SameLadder (s t : State) : Prop where
  config : t.engine.state = .config ↔ s.engine.state = .config
  points : ∀ p, t.pointRecord p = s.pointRecord p
  tracks : ∀ k, (t.trackRecord k).map TrackRecord.clearance = (s.trackRecord k).map TrackRecord.clearance
  lead : t.engine.state ≠ .config → t.tables.params.leadDetector = s.tables.params.leadDetector
  pointPaths : ∀ p, t.pointPath p = s.pointPath p
  trackPaths : ∀ k, t.trackPath k = s.trackPath k
  joints : ∀ d, t.joint d = s.joint d

theorem State.SameLadder.detectorAt {s t : State} (same : s.SameLadder t) (run : t.engine.state ≠ .config) {d : Nat} {c : Counter}
    (h : DetectorAt s d c) : DetectorAt t d c := by
  cases c with
  | lead => exact Eq.trans h (same.lead run).symm
  | guardIn p => simpa only [DetectorAt, same.points] using h
  | guardOut p leg => cases leg <;> simpa only [DetectorAt, same.points] using h
  | clearance k =>
    obtain ⟨r, hr, rfl⟩ := h
    have := same.tracks k
    rw [hr, Option.map_some, Option.map_eq_some_iff] at this
    obtain ⟨x, hx, e⟩ := this
    exact ⟨x, hx, e.symm⟩

theorem State.SameLadder.trackAbsent {s t : State} (same : s.SameLadder t) (k : Nat) :
    t.trackRecord k = none ↔ s.trackRecord k = none := by
  rw [← Option.map_eq_none_iff (f := TrackRecord.clearance), same.tracks, Option.map_eq_none_iff]

theorem State.ladderSound.of_same {s t : State} (h : s.ladderSound) (same : s.SameLadder t)
    (free : t.engine.state = .config → ∀ i, t.slot i = none) (short : ∀ i x, t.slot i = some x → x.path.length ≤ 12) :
    t.ladderSound where
  config := free
  walks run path b down := h.walks (mt same.config.mpr run) path b ((DownTo.records_iff same.points).mp down)
  points run p := by simpa only [same.points, same.pointPaths, DownTo.records_iff same.points] using h.points (mt same.config.mpr run) p
  tracks run k := by
    simpa only [same.trackAbsent, same.trackPaths, DownTo.records_iff same.points] using h.tracks (mt same.config.mpr run) k
  map run d j e := by
    obtain ⟨at_, joins⟩ := h.map (mt same.config.mpr run) d j (same.joints d ▸ e)
    exact ⟨same.detectorAt run at_, joins.of_records same.points⟩
  slots := short

/-- The slots stay as well. -/
theorem State.ladderSound.of_sameSlots {s t : State} (h : s.ladderSound) (same : s.SameLadder t) (slots : t.slots = s.slots) :
    t.ladderSound :=
  have slot : ∀ i, t.slot i = s.slot i := fun i => by rw [State.slot, slots, State.slot]
  h.of_same same (fun c i => (slot i).trans (h.config (same.config.mp c) i)) fun i x e => h.slots i x (slot i ▸ e)

/-- The tables and the engine's state are untouched. -/
theorem State.SameLadder.of_blocks {s t : State} (tables : t.tables = s.tables)
    (config : t.engine.state = .config ↔ s.engine.state = .config) : s.SameLadder t where
  config
  points p := by rw [State.pointRecord, tables, State.pointRecord]
  tracks k := by rw [State.trackRecord, tables, State.trackRecord]
  lead _ := by rw [tables]
  pointPaths p := by rw [State.pointPath, tables, State.pointPath]
  trackPaths k := by rw [State.trackPath, tables, State.trackPath]
  joints d := by rw [State.joint, tables, State.joint]

/-- The tables, the slots and the engine's state are untouched. -/
theorem State.ladderSound.of_blocks {s t : State} (h : s.ladderSound) (tables : t.tables = s.tables) (slots : t.slots = s.slots)
    (config : t.engine.state = .config ↔ s.engine.state = .config) : t.ladderSound :=
  h.of_sameSlots (.of_blocks tables config) slots

/-- The tables change apart from the records, the lead's detector and what START derived. -/
theorem State.ladderSound.of_tables {s : State} {x : Tables} (h : s.ladderSound) (points : x.points = s.tables.points)
    (tracks : x.tracks = s.tables.tracks) (map : x.detectorMap = s.tables.detectorMap) (pointPaths : x.pointPaths = s.tables.pointPaths)
    (trackPaths : x.trackPaths = s.tables.trackPaths) (lead : x.params.leadDetector = s.tables.params.leadDetector) :
    ({ s with tables := x } : State).ladderSound :=
  h.of_sameSlots {
    config := .rfl
    points := fun p => by simp only [State.pointRecord, points]
    tracks := fun k => by simp only [State.trackRecord, tracks]
    lead := fun _ => lead
    pointPaths := fun p => by simp only [State.pointPath, pointPaths]
    trackPaths := fun k => by simp only [State.trackPath, trackPaths]
    joints := fun d => by simp only [State.joint, map] } rfl

/-- In CONFIG the ladder asks only that no slot is in use. -/
theorem State.ladderSound.of_config {s : State} (config : s.engine.state = .config) (free : ∀ i, s.slot i = none) : s.ladderSound where
  config _ := free
  walks run := absurd config run
  points run := absurd config run
  tracks run := absurd config run
  map run := absurd config run
  slots i x e := by rw [free i] at e; cases e

/-! ### Paths of slots have at most 12 pairs (R78) -/

theorem State.ladderSound.pointPath_le {s : State} (h : s.ladderSound) (run : s.engine.state ≠ .config) (p : Nat) :
    (s.pointPath p).length ≤ 12 := by
  have := h.points run p
  split at this
  · simp [this]
  · exact h.walks run _ _ this

theorem State.ladderSound.trackPath_le {s : State} (h : s.ladderSound) (run : s.engine.state ≠ .config) (t : Nat) :
    (s.trackPath t).length ≤ 12 := by
  have := h.tracks run t
  split at this
  · simp [this]
  · exact h.walks run _ _ this

/-- The lie walk from the end of a walk down goes on as a walk down (R12, R19). -/
theorem State.lieWalk_downTo {s : State} {front : Path} {n : Nat} {b : Branch} {pairs : Path} {q : Nat} {found : Path}
    (down : DownTo s (front ++ pairs) b) (e : s.lieWalk n b pairs = .stopped q found) : DownTo s (front ++ found) (.point q) := by
  induction n generalizing b pairs with
  | zero =>
    cases b with
    | track t => simp [State.lieWalk] at e
    | point p =>
      simp only [State.lieWalk, Walk.stopped.injEq] at e
      obtain ⟨rfl, rfl⟩ := e
      exact down
  | succ n ih =>
    cases b with
    | track t => simp [State.lieWalk] at e
    | point p =>
      unfold State.lieWalk at e
      split at e
      · rename_i leg r hleg hr
        refine ih ?_ e
        rw [← List.append_assoc]
        exact .leg _ p r leg down hr
      · simp only [Walk.stopped.injEq] at e
        obtain ⟨rfl, rfl⟩ := e
        exact down

/-- The path of a slot made UNRESOLVED is a walk down, where its point is present. -/
theorem State.walkedPath_downTo {s : State} {p : Nat} {leg : Leg} {r : PointRecord} (hr : s.pointRecord p = some r)
    (down : DownTo s (s.pointPath p) (.point p)) : ∃ b, DownTo s (s.walkedPath p leg) b := by
  have step : DownTo s ((s.pointPath p ++ [(p, leg)]) ++ []) (r.branch leg) := by
    rw [List.append_nil]
    exact .leg _ p r leg down hr
  have branch : s.branch p leg = some (r.branch leg) := by simp [State.branch, hr]
  unfold State.walkedPath State.lieWalkFrom
  rw [branch]
  simp only
  split
  · exact ⟨_, by simpa using step⟩
  · rename_i q pairs e
    exact ⟨_, by simpa using State.lieWalk_downTo step e⟩

theorem State.ladderSound.walkedPath_le {s : State} (h : s.ladderSound) (run : s.engine.state ≠ .config) (p : Nat) (leg : Leg) :
    (s.walkedPath p leg).length ≤ 12 := by
  have point := h.points run p
  cases hr : s.pointRecord p with
  | none =>
    rw [if_pos hr] at point
    simp [State.walkedPath, State.lieWalkFrom, State.branch, hr, point]
  | some r =>
    rw [if_neg (by simp [hr])] at point
    obtain ⟨b, down⟩ := State.walkedPath_downTo (leg := leg) hr point
    exact h.walks run _ _ down

/-! ### The invariant, part by part -/

/-- What a table reads after a write: what it read, or what was written there. -/
theorem readAt_writeAt_cases {α : Type} {n : Nat} (v : Vector α n) (d a : α) (i k : Nat) :
    readAt (writeAt v i a) d k = readAt v d k ∨ (k = i ∧ readAt (writeAt v i a) d k = a) := by
  by_cases e : k = i
  · subst e
    by_cases range : 1 ≤ k ∧ k ≤ n
    · exact .inr ⟨rfl, readAt_writeAt_self v d a k range⟩
    · exact .inl (by rw [writeAt_outside v a range])
  · exact .inl (readAt_writeAt_ne v d a e)

theorem State.slot_setSlot_cases (s : State) (i k : Nat) (x : Option Slot) :
    (s.setSlot i x).slot k = s.slot k ∨ (k = i ∧ (s.setSlot i x).slot k = x) :=
  readAt_writeAt_cases _ _ _ _ _

/-- A slot is set outside CONFIG, to one whose path is short enough, or freed. -/
theorem State.ladderSound.setSlot {s : State} (h : s.ladderSound) (i : Nat) (x : Option Slot)
    (short : ∀ y, x = some y → s.engine.state ≠ .config ∧ y.path.length ≤ 12) : (s.setSlot i x).ladderSound := by
  refine h.of_same (.of_blocks rfl .rfl) (fun c k => ?_) fun k y e => ?_
  · rcases s.slot_setSlot_cases i k x with same | ⟨-, new⟩
    · exact same.trans (h.config c k)
    · rw [new, Option.eq_none_iff_forall_ne_some]
      exact fun y e => (short y e).1 c
  · rcases s.slot_setSlot_cases i k x with same | ⟨-, new⟩
    · exact h.slots k y (same ▸ e)
    · exact (short y (new ▸ e)).2

theorem State.ladderSound.mayFollow {s : State} (h : s.ladderSound) {i : Nat} {x y : Slot} (hx : s.slot i = some x)
    (follows : s.mayFollow x y) : s.engine.state ≠ .config ∧ y.path.length ≤ 12 := by
  have run : s.engine.state ≠ .config := fun c => by
    rw [h.config c i] at hx
    cases hx
  refine ⟨run, ?_⟩
  rcases follows.2 with e | ⟨t, e⟩ | ⟨p, e⟩ | ⟨p, leg, e⟩ <;> rw [e]
  · exact h.slots i x hx
  · exact h.trackPath_le run t
  · exact h.pointPath_le run p
  · exact h.walkedPath_le run p leg

/-- START leaves the ladder sound: what it derives is what the statement asks (R11, R12). -/
theorem State.started_ladderSound {s : State} (clear : s.tableCheck = none)
    (h : s.ladderSound) : s.started.ladderSound where
  config c := by
    have : s.started.engine.state ≠ .config := by
      simp only [State.started]
      split <;> simp
    exact absurd c this
  walks _ path b down := DownTo.length_le_twelve clear ((DownTo.records_iff (s := s) (t := s.started) fun _ => rfl).mp down)
  points _ p := by
    split
    · rename_i absent
      have : p ∉ s.presentPoints := fun m => by
        obtain ⟨r, hr⟩ := State.mem_presentPoints.mp m
        exact Option.some_ne_none r (hr.symm.trans absent)
      rw [show s.started.pointPath p = s.derive.pointPath p from rfl, State.derive_pointPath, if_neg this]
      rfl
    · exact (DownTo.records_iff (s := s) (t := s.started) fun _ => rfl).mpr (State.derive_pointPath_downTo clear ‹_›)
  tracks _ t := by
    split
    · rename_i absent
      have : t ∉ s.presentTracks := fun m => by
        obtain ⟨r, hr⟩ := State.mem_presentTracks.mp m
        exact Option.some_ne_none r (hr.symm.trans absent)
      rw [show s.started.trackPath t = s.derive.trackPath t from rfl, State.derive_trackPath, if_neg this]
      rfl
    · exact (DownTo.records_iff (s := s) (t := s.started) fun _ => rfl).mpr (State.derive_trackPath_downTo clear ‹_›)
  map _ d j e := by
    obtain ⟨at_, joins⟩ := State.derive_joint_sound e
    refine ⟨?_, joins.of_records fun _ => rfl⟩
    cases hc : j.counter with
    | lead | guardIn | clearance => rw [hc] at at_; exact at_
    | guardOut p leg => cases leg <;> (rw [hc] at at_; exact at_)
  slots i x e := h.slots i x e

/-- No slot counts as in use: none is. -/
theorem State.slot_of_slotsInUse {s : State} (unused : s.slotsInUse = 0) (i : Nat) : s.slot i = none := by
  refine readAt_all (P := fun x => x = none) (fun x mem => ?_) rfl i
  simpa using List.countP_eq_zero.mp unused x mem

/-- A register write leaves the clearance counters (R3). -/
theorem State.clearance_putTrack {s : State} {t : Nat} {old new : TrackRecord} (hold : s.trackRecord t = some old)
    (same : new.clearance = old.clearance) (k : Nat) :
    ((s.putTrack t (some new)).trackRecord k).map TrackRecord.clearance = (s.trackRecord k).map TrackRecord.clearance := by
  rcases readAt_writeAt_cases s.tables.tracks none (some new) t k with other | ⟨rfl, written⟩
  · exact congrArg _ other
  · rw [hold, show (s.putTrack k (some new)).trackRecord k = some new from written, Option.map_some, same, Option.map_some]

theorem State.armStall_path (s : State) (x : Slot) : (s.armStall x).path = x.path := rfl

theorem State.boundSlot_path (s : State) (t : Clock) (record : Option CutRecord) (n target : Nat) (mark : Bool) :
    (s.boundSlot t record n target mark).path = s.trackPath target := by
  rw [State.boundSlot, State.armStall_path]

theorem ladderSound_kept : KeptByParts State.ladderSound fun _ => True where
  select p h := h.of_blocks (by simp) (by simp) (by simp)
  offer b h := h.of_blocks (by simp) (by simp) (by simp)
  freeBuffer p h := h.of_blocks (by simp) (by simp) (by simp)
  addCredits p n h := h.of_blocks (by simp) (by simp) (by simp)
  movePass p h := h.of_blocks (by simp) (by simp) (by simp)
  forward m h := h.of_blocks (by simp) (by simp) (by simp)
  lineError p cls h := h.of_blocks (by simp) (by simp) (by simp)
  idlePort p h := h.of_blocks (by simp) (by simp) (by simp)
  unmapped h := h.of_blocks rfl rfl .rfl
  unknownPoint h := h.of_blocks rfl rfl .rfl
  emptyErrors h := h.of_blocks rfl rfl .rfl
  writeDemand h := h.of_blocks (by simp) (by simp) (by simp)
  demand a h := h.of_blocks rfl rfl .rfl
  engine e same h := h.of_blocks rfl rfl same
  binder b h := h.of_blocks rfl rfl .rfl
  mgmt m _ h := h.of_blocks rfl rfl .rfl
  fence f g _ h := h.of_blocks rfl rfl .rfl
  dropThrow p h := h.of_blocks rfl rfl .rfl
  setPt p r _ _ h := h.of_blocks rfl rfl .rfl
  dropPut p r _ h := h.of_blocks rfl rfl .rfl
  placeThrow p leg reason _ _ _ h := h.of_blocks (by simp) (by simp) (by simp)
  joinClaim p i want h := h.of_blocks (by simp) (by simp) (by simp)
  changeClaim p i want h := h.of_blocks rfl rfl .rfl
  leaveClaim p i h := h.of_blocks rfl rfl .rfl
  leaveAll i h := h.of_blocks rfl rfl .rfl
  setSlot i x y hx follows h := h.setSlot i _ fun z e => Option.some.inj e ▸ h.mayFollow hx follows
  freeSlot i h := h.setSlot i none fun _ e => absurd e.symm (Option.some_ne_none _)
  bind t i record n target mark run _ h := h.setSlot i _ fun z e => by
    rw [← Option.some.inj e, State.boundSlot_path]
    exact ⟨run, h.trackPath_le run target⟩
  setSec id x _ h := h.of_blocks (by cases id <;> rfl) (by cases id <;> rfl) (by cases id <;> rfl)
  popCut r rest _ h := ⟨h.of_blocks rfl rfl .rfl, trivial⟩
  recordOf _ _ _ _ _ _ := trivial
  pushCut r _ _ h := h.of_blocks rfl rfl .rfl
  appendCut n x r _ _ h := h.of_blocks rfl rfl .rfl
  insertCut reference n x r _ _ h := h.of_blocks rfl rfl .rfl
  filterCut f h := h.of_blocks rfl rfl .rfl
  amendCut n x r _ h := h.of_blocks rfl rfl .rfl
  rewriteRecord p rec config _ h := .of_config config (h.config config)
  putTrack t rec _ fits h := by
    rcases fits with config | ⟨old, new, hold, rfl, -, -, clearance⟩
    · exact .of_config config (h.config config)
    · exact h.of_sameSlots { config := .rfl, points := fun _ => rfl, tracks := State.clearance_putTrack hold clearance,
                             lead := fun _ => rfl, pointPaths := fun _ => rfl, trackPaths := fun _ => rfl, joints := fun _ => rfl } rfl
  params x _ lead h := by
    rcases lead with config | lead
    · exact .of_config config (h.config config)
    · exact h.of_tables rfl rfl rfl rfl rfl lead
  route code value _ h := h.of_tables rfl rfl rfl rfl rfl rfl
  patch k e _ h := h.of_tables rfl rfl rfl rfl rfl rfl
  started config clear h := State.started_ladderSound clear h
  halting free h := .of_config rfl (State.slot_of_slotsInUse free)
  warmState h := .of_config rfl reset_slot
  cleared straps _ := .of_config rfl reset_slot
  tick h := h.of_blocks rfl rfl .rfl
  pending l h := h.of_blocks rfl rfl .rfl

/-- A response in place and a buffer freed leave what the parts keep. -/
theorem handle_ladderSound (s : State) (q : Req) (code : RequestCode) (f : Effect) (parts : Effect.ofParts f) (h : s.ladderSound) :
    (s.handle q code f).ladderSound := by
  unfold State.handle
  split
  · exact h
  · split
    · exact h
    · rename_i m _ _
      have carried := parts _ _ ladderSound_kept m.src.toNat s h
      exact carried.of_blocks (by simp) (by simp) (by simp)

theorem receive_ladderSound (s : State) (p : Port) (beganFull : Bool) (frame : List Byte) (h : s.ladderSound) :
    (s.receive p beganFull frame).ladderSound :=
  ladderSound_kept.receive ladderSound_kept p (fun _ h => h) (fun _ h _ => h)
    (fun _ _ _ h => h.of_blocks (by simp) (by simp) (by simp)) beganFull frame h

/-- Settles O56: every part of a command leaves the ladder sound. -/
theorem ladderStaysSound : Obligations.LadderStaysSound := by
  unfold Obligations.LadderStaysSound
  exact fun s t h e => ladderSound_kept.step handle_ladderSound receive_ladderSound e h

end Sys2Proof.Machine

/-! The bounds of the part's queues, lists and counts as an invariant (R2, R3, R6, R7, R23, R24, R41, R61, R63, R64, R73, R77, R101,
R104, R149, R150, R153 to R156, R159, R170, R178, R180). The bounds on the response queue and the receive buffers are parameters, so that
one family of invariants serves the states before and after an entry joins. -/

namespace Sys2Proof.Machine

/-! ### The invariant -/

/-- A port is within its bounds, with at most `n` telegrams in its receive buffers. -/
structure PortState.Within (n : Nat) (x : PortState) : Prop where
  waiting : x.waiting.length ≤ n
  credits : x.credits ≤ 15
  owed : x.owed ≤ 8
  fairness : x.fairness ≤ 4
  passQueue : x.passQueue.length ≤ 16
  errors : x.errors ≤ 65535

/-- The bounds of the part, with at most `k` responses, at most `w p` telegrams in the receive buffers of port `p`, one THROW of a
point in the command queue, and slots of the part in the claim lists. -/
structure State.InBounds (k : Nat) (w : Port → Nat) (s : State) : Prop where
  ports : ∀ p, (s.port p).Within (w p)
  responses : s.link.responses.length ≤ k
  counts : s.link.unmapped ≤ 65535 ∧ s.link.unknownPoint ≤ 65535 ∧ s.link.forwardingLoss ≤ 65535
  reports : s.reports.bounded
  distinct : (s.link.commands.map Throw.point).Nodup
  queued : ∀ c ∈ s.link.commands, 1 ≤ c.point ∧ c.point ≤ 63 ∧ (s.pt c.point).waits
  cutList : s.cutList.length ≤ 32 ∧ ∀ r ∈ s.cutList, r.bounded
  sections : ∀ id, (s.sec id).bounded
  slots : ∀ i x, s.slot i = some x → x.bounded
  claims : ∀ p, ((s.claimList p).map Claim.slot).Nodup ∧ ∀ c ∈ s.claimList p, 1 ≤ c.slot ∧ c.slot ≤ 16
  points : ∀ p, (s.pt p).safeFor (s.pointRecord p)
  records : ∀ p r, s.pointRecord p = some r → r.bounded
  tracks : ∀ t r, s.trackRecord t = some r → r.bounded
  patches : ∀ k, (readAt s.tables.patches ⟨false, 0, 0, 0⟩ k).bounded
  routes : ∀ code, s.routeEntry code ≤ 64
  fence : fenceBounded s.mgmt.fence
  entrySpeed : 20 ≤ s.tables.params.entrySpeed ∧ s.tables.params.entrySpeed ≤ 1200

/-- The bounds of a state between commands. -/
abbrev State.InBoundsNow (s : State) : Prop := s.InBounds 4 (fun _ => 8)

/-! ### Lists without repeats -/

/-- A list without repeats of ids 1..n has at most n entries. -/
theorem length_le_of_ids {l : List Nat} {n : Nat} (distinct : l.Nodup) (range : ∀ a ∈ l, 1 ≤ a ∧ a ≤ n) : l.length ≤ n := by
  have := (List.subperm_of_subset distinct fun a ha => mem_ids.mpr (range a ha)).length_le
  simpa [ids] using this

/-! ### From and to the statement's bounds -/

theorem State.bounded.inBounds {s : State} (h : s.bounded) (throws : s.throwsSound) (claims : s.claimsSound) : s.InBoundsNow where
  ports p := by
    have port (x : PortState) (b : x.bounded) : x.Within 8 := ⟨b.1, b.2.1, b.2.2.1, b.2.2.2.1, b.2.2.2.2.1, b.2.2.2.2.2⟩
    cases p
    · exact port _ h.ports.1
    · exact port _ h.ports.2
  responses := h.responses
  counts := h.counts
  reports := h.reports
  distinct := throws.distinct
  queued c m := by
    obtain ⟨low, high, queued, state⟩ := throws.queued c m
    exact ⟨low, high, queued, c.leg, state⟩
  cutList := h.cutList
  sections := h.sections
  slots := h.slots
  claims p := by
    refine ⟨(claims p).1, fun c m => ?_⟩
    obtain ⟨x, hx, -⟩ := (claims p).2 c m
    exact Classical.byContradiction fun out => Option.some_ne_none x (hx.symm.trans (readAt_outside _ _ out))
  points p := ⟨h.points p, (throws.points p).2, h.learned p⟩
  records := h.records
  tracks := h.tracks
  patches := h.patches
  routes := h.routes
  fence := h.fence
  entrySpeed := h.entrySpeed

theorem State.InBounds.bounded {s : State} (h : s.InBoundsNow) : s.bounded where
  ports := by
    have port (x : PortState) (b : x.Within 8) : x.bounded := ⟨b.waiting, b.credits, b.owed, b.fairness, b.passQueue, b.errors⟩
    exact ⟨port _ (h.ports .y), port _ (h.ports .t)⟩
  commands := by
    have := length_le_of_ids h.distinct (n := 63) fun p m => by
      obtain ⟨c, hc, rfl⟩ := List.mem_map.mp m
      exact ⟨(h.queued c hc).1, (h.queued c hc).2.1⟩
    rw [List.length_map] at this
    omega
  responses := h.responses
  counts := h.counts
  reports := h.reports
  cutList := h.cutList
  sections := h.sections
  slots := h.slots
  claims p := by
    have := length_le_of_ids (h.claims p).1 (n := 16) fun i m => by
      obtain ⟨c, hc, rfl⟩ := List.mem_map.mp m
      exact (h.claims p).2 c hc
    rwa [List.length_map] at this
  points p := (h.points p).1
  records := h.records
  learned p := (h.points p).2.2
  tracks := h.tracks
  patches := h.patches
  routes := h.routes
  fence := h.fence
  entrySpeed := h.entrySpeed

/-! ### Counts and ports -/

theorem raise_le {n : Nat} : raise n ≤ 65535 := Nat.min_le_left _ _

section
variable {k : Nat} {w : Port → Nat} {s : State}

/-- The ports are untouched. -/
theorem State.InBounds.portsOf (h : s.InBounds k w) {t : State} (y : t.link.y = s.link.y) (t' : t.link.t = s.link.t) (p : Port) :
    (t.port p).Within (w p) := by
  cases p
  · rw [show t.port .y = s.port .y from y]
    exact h.ports .y
  · rw [show t.port .t = s.port .t from t']
    exact h.ports .t

/-- Larger bounds on the response queue and the receive buffers. -/
theorem State.InBounds.weaken {k' : Nat} {w' : Port → Nat} (h : s.InBounds k w) (hk : k ≤ k') (hw : ∀ p, w p ≤ w' p) :
    s.InBounds k' w' :=
  { h with
    ports := fun p => { h.ports p with waiting := (h.ports p).waiting.trans (hw p) }
    responses := h.responses.trans hk }

/-- One port is replaced; its bound on the receive buffers may change. -/
theorem State.InBounds.setPort {w' : Port → Nat} (h : s.InBounds k w) (p : Port) {x : PortState} (hx : x.Within (w' p))
    (others : ∀ q, q ≠ p → w q ≤ w' q) : (s.setPort p x).InBounds k w' := by
  have ports (q : Port) : ((s.setPort p x).port q).Within (w' q) := by
    by_cases e : q = p
    · subst e
      rwa [State.port_setPort_self]
    · rw [State.port_setPort_ne _ _ e]
      exact { h.ports q with waiting := (h.ports q).waiting.trans (others q e) }
  cases p <;> exact { h with ports }

theorem State.InBounds.setPort_same (h : s.InBounds k w) (p : Port) {x : PortState} (hx : x.Within (w p)) :
    (s.setPort p x).InBounds k w :=
  h.setPort p hx fun _ _ => Nat.le_refl _

theorem PortState.Within.startFill {n : Nat} {x : PortState} (h : x.Within n) (src : Nat) : (x.startFill src).Within n :=
  { h with owed := Nat.zero_le 8 }

theorem PortState.Within.startOwn {n : Nat} {x : PortState} (h : x.Within n) (dest src : Nat) (body : SentBody) :
    (x.startOwn dest src body).Within n :=
  { h with
    credits := (Nat.sub_le _ _).trans h.credits
    owed := Nat.zero_le 8
    fairness := by
      simp only [PortState.startOwn]
      split
      · exact h.fairness
      · exact Nat.min_le_left _ _ }

theorem PortState.Within.startPass {n : Nat} {x : PortState} (h : x.Within n) (m : Telegram) : (x.startPass m).Within n :=
  { h with
    credits := (Nat.sub_le _ _).trans h.credits
    owed := Nat.zero_le 8
    fairness := Nat.zero_le 4
    passQueue := by
      have := h.passQueue
      simp only [PortState.startPass, List.length_tail]
      omega }

/-! ### The command queue -/

/-- THROWs leave the command queue. -/
theorem State.InBounds.fewerCommands (h : s.InBounds k w) {l : List Throw} (fewer : l.Sublist s.link.commands) :
    ({ s with link := { s.link with commands := l } } : State).InBounds k w :=
  { h with
    ports := h.portsOf rfl rfl
    distinct := h.distinct.sublist (fewer.map _)
    queued := fun c m => h.queued c (fewer.mem m) }

/-- A point's runtime record is replaced, and the THROWs that wait still may. -/
theorem State.InBounds.setPt (h : s.InBounds k w) (p : Nat) {r : PointRuntime} (put : s.mayPut p r)
    (waits : ∀ c ∈ s.link.commands, c.point = p → r.waits) : (s.setPt p r).InBounds k w := by
  have read (q : Nat) : (s.setPt p r).pt q = s.pt q ∨ (q = p ∧ (s.setPt p r).pt q = r) := readAt_writeAt_cases _ _ _ _ _
  exact { h with
    ports := h.portsOf rfl rfl
    queued := fun c m => by
      obtain ⟨low, high, waiting⟩ := h.queued c m
      refine ⟨low, high, ?_⟩
      rcases read c.point with e | ⟨same, e⟩ <;> rw [e]
      · exact waiting
      · exact waits c m same
    points := fun q => by
      change ((s.setPt p r).pt q).safeFor (s.pointRecord q)
      rcases read q with e | ⟨rfl, e⟩ <;> rw [e]
      · exact h.points q
      · exact put (h.records q) (h.points q) }

/-- No THROW of a point stands in the command queue once it is dropped. -/
theorem State.dropThrow_none (p : Nat) : ∀ c ∈ (s.dropThrow p).link.commands, c.point ≠ p := fun c m => by
  simpa using (List.mem_filter.mp m).2

theorem State.InBounds.dropThrow (h : s.InBounds k w) (p : Nat) : (s.dropThrow p).InBounds k w :=
  h.fewerCommands List.filter_sublist

/-- The start of transmission leaves a runtime record in bounds (R75, R110). -/
theorem PointRuntime.safeFor.started {r : PointRuntime} {rec : Option PointRecord} (h : r.safeFor rec) (now : Clock) (T A : Nat) :
    (r.started now T A).safeFor rec := by
  obtain ⟨⟨retries, returning⟩, timer, learned⟩ := h
  refine ⟨⟨retries, ?_⟩, ?_, learned⟩
  · rintro ⟨e, he⟩
    refine returning ⟨e, ?_⟩
    cases hs : r.state <;> simp [PointRuntime.started, hs] at he ⊢
    exact he
  · intro n
    obtain ⟨e, he, hd⟩ := timer n
    refine ⟨e, ?_, hd⟩
    rcases he with he | he <;> simp [PointRuntime.started, he]

/-! ### Selection (R158) -/

/-- A selection of a THROW is Port T's, of the command queue's first (R155). -/
theorem State.choice_throw {p : Port} {c : Throw} (h : s.choice p = .throw c) : p = .t ∧ ∃ rest, s.link.commands = c :: rest := by
  have own : s.ownChoice p = some (.throw c) := by
    simp only [State.choice] at h
    repeat' split at h
    all_goals cases h
    all_goals assumption
  unfold State.ownChoice at own
  cases p <;> simp only at own <;> repeat' split at own
  all_goals simp_all

theorem State.InBounds.startThrow (h : s.InBounds k w) {c : Throw} {rest : List Throw} (first : s.link.commands = c :: rest) :
    (s.startThrow c).InBounds k w := by
  have distinct := h.distinct
  rw [first, List.map_cons, List.nodup_cons] at distinct
  have others : ∀ x ∈ s.link.commands.tail, x.point ≠ c.point := fun x m e => by
    rw [first] at m
    exact distinct.1 (e ▸ List.mem_map_of_mem m)
  have begun := (h.fewerCommands (List.tail_sublist _)).setPt c.point
    (r := (s.pt c.point).started s.clock ((s.pt c.point).throwTime c.point) s.tables.params.allowance)
    (fun _ safe => safe.started _ _ _) fun x m e => absurd e (others x m)
  exact begun.setPort_same .t ((begun.ports .t).startOwn _ _ _)

theorem State.InBounds.begin (h : s.InBounds k w) (p : Port) (c : Choice)
    (first : ∀ x, c = .throw x → ∃ rest, s.link.commands = x :: rest) : (s.begin p c).InBounds k w := by
  cases c with
  | nothing => exact h
  | fill => exact h.setPort_same p ((h.ports p).startFill _)
  | throw x =>
    simp only [State.begin]
    split
    · exact h.startThrow (first x rfl).choose_spec
    · exact h
  | signal m =>
    have sent : ({ s with link := { s.link with signalSlot := none } } : State).InBounds k w :=
      { h with ports := h.portsOf rfl rfl }
    exact sent.setPort_same p ((h.ports p).startOwn _ _ _)
  | response r =>
    have sent : ({ s with link := { s.link with responses := s.link.responses.eraseP fun x => decide (x.port = p) } } : State).InBounds
        k w :=
      { h with
        ports := h.portsOf rfl rfl
        responses := List.length_eraseP_le.trans h.responses }
    exact sent.setPort_same p ((h.ports p).startOwn _ _ _)
  | report r =>
    have sent : ({ s with reports := ⟨s.reports.queue.tail, 0⟩ } : State).InBounds k w :=
      { h with
        ports := h.portsOf rfl rfl
        reports := by
          refine ⟨?_, h.reports.2.1.sublist (List.tail_sublist _), Nat.zero_le _⟩
          have := h.reports.1
          simp only [List.length_tail]
          omega }
    exact sent.setPort_same p ((h.ports p).startOwn _ _ _)
  | pass m => exact h.setPort_same p ((h.ports p).startPass m)

theorem State.InBounds.select (h : s.InBounds k w) (p : Port) : (s.select p).InBounds k w :=
  h.begin p _ fun _ e => (State.choice_throw e).2

/-! ### Reports (R178, R179) -/

/-- A record placed in a queue in level order leaves it so (R178). -/
theorem placeReport_ordered (r : Report) {q : List Report} (h : q.Pairwise fun a b => b.level.rank ≤ a.level.rank) :
    (placeReport r q).Pairwise fun a b => b.level.rank ≤ a.level.rank := by
  unfold placeReport
  have split := h
  rw [← List.takeWhile_append_dropWhile (p := fun x : Report => decide (r.level.rank ≤ x.level.rank)) (l := q)] at split
  have before : ∀ x ∈ q.takeWhile (fun x => decide (r.level.rank ≤ x.level.rank)), r.level.rank ≤ x.level.rank :=
    fun x m => by simpa using List.mem_takeWhile_imp m
  obtain ⟨front, back, cross⟩ := List.pairwise_append.mp split
  have after : ∀ x ∈ q.dropWhile (fun x => decide (r.level.rank ≤ x.level.rank)), x.level.rank ≤ r.level.rank := by
    intro x m
    cases hd : q.dropWhile (fun x => decide (r.level.rank ≤ x.level.rank)) with
    | nil => simp [hd] at m
    | cons y l =>
      have low : y.level.rank < r.level.rank := by
        have := List.head_dropWhile_not (fun x : Report => decide (r.level.rank ≤ x.level.rank)) (l := q) (by simp [hd])
        simpa [hd] using this
      rw [hd] at m back
      rcases List.mem_cons.mp m with rfl | m
      · omega
      · have := (List.pairwise_cons.mp back).1 x m
        omega
  refine List.pairwise_append.mpr ⟨front, List.pairwise_cons.mpr ⟨after, back⟩, fun a ha b hb => ?_⟩
  rcases List.mem_cons.mp hb with rfl | hb
  · exact before a ha
  · exact cross a ha b hb

theorem placeReport_length (r : Report) (q : List Report) : (placeReport r q).length = q.length + 1 := by
  have := congrArg List.length (List.takeWhile_append_dropWhile (p := fun x : Report => decide (r.level.rank ≤ x.level.rank)) (l := q))
  simp only [List.length_append] at this
  simp only [placeReport, List.length_append, List.length_cons]
  omega

theorem ReportQueue.bounded.offer {x : ReportQueue} (h : x.bounded) (r : Report) : (x.offer r).bounded := by
  obtain ⟨room, ordered, discards⟩ := h
  unfold ReportQueue.offer
  split
  · rename_i free
    refine ⟨?_, placeReport_ordered r ordered, discards⟩
    rw [placeReport_length]
    exact free
  · split
    · rename_i none
      rw [List.getLast?_eq_none_iff] at none
      refine ⟨?_, placeReport_ordered r ordered, discards⟩
      rw [placeReport_length, none]
      decide
    · split
      · refine ⟨?_, placeReport_ordered r (ordered.sublist (List.dropLast_sublist _)), raise_le⟩
        rw [placeReport_length, List.length_dropLast]
        omega
      · exact ⟨room, ordered, raise_le⟩

theorem State.InBounds.offer (h : s.InBounds k w) (b : ReportBody) : (s.offer b).InBounds k w := by
  simp only [State.offer]
  split
  · exact h
  · refine State.InBounds.select ?_ .y
    exact { h with
      ports := h.portsOf rfl rfl
      reports := h.reports.offer _ }

/-! ### The port's other operations -/

theorem State.InBounds.freeBuffer (h : s.InBounds k w) (p : Port) : (s.freeBuffer p).InBounds k w :=
  State.InBounds.select (h.setPort_same p (x := { s.port p with owed := min Config.receiveBuffers ((s.port p).owed + 1) })
    { h.ports p with owed := Nat.min_le_left _ _ }) p

theorem State.InBounds.addCredits (h : s.InBounds k w) (p : Port) (n : Nat) : (s.addCredits p n).InBounds k w :=
  h.setPort_same p { h.ports p with credits := Nat.min_le_left _ _ }

theorem State.InBounds.dropWaiting (h : s.InBounds k w) (p : Port) (own : Bool) : (s.dropWaiting p own).InBounds k w :=
  h.setPort_same p { h.ports p with waiting := List.length_eraseP_le.trans (h.ports p).waiting }

theorem State.InBounds.movePass (h : s.InBounds k w) (p : Port) : (s.movePass p).InBounds k w := by
  simp only [State.movePass]
  split
  · exact h
  · split
    · exact h
    · rename_i m _ room
      have free : (s.port (other p)).passQueue.length < 16 := Nat.lt_of_not_le room
      refine State.InBounds.freeBuffer (State.InBounds.select ((h.dropWaiting p false).setPort_same (other p) ?_) _) p
      exact { h.ports (other p) with passQueue := by simpa using free }

theorem State.InBounds.forward (h : s.InBounds k w) (m : Telegram) : (s.forward m).InBounds k w := by
  unfold State.forward
  split
  · exact h
  · split
    · rename_i room
      refine State.InBounds.select (h.setPort_same .y ?_) .y
      have free : s.link.y.passQueue.length < 16 := room
      exact { h.ports .y with passQueue := by simpa using free }
    · exact { h with
        ports := h.portsOf rfl rfl
        counts := ⟨h.counts.1, h.counts.2.1, raise_le⟩ }

theorem State.InBounds.lineError (h : s.InBounds k w) (p : Port) (cls : ErrorClass) : (s.lineError p cls).InBounds k w := by
  simp only [State.lineError]
  split
  · exact h.setPort_same p { h.ports p with errors := raise_le }
  · exact (h.setPort_same p (x := { s.port p with errors := raise (s.port p).errors, firstError := some (cls, s.clock) })
      { h.ports p with errors := raise_le }).offer _

theorem State.InBounds.writeDemand (h : s.InBounds k w) : s.writeDemand.InBounds k w := by
  unfold State.writeDemand
  split
  · exact h
  · refine State.InBounds.select ?_ .t
    exact { h with ports := h.portsOf rfl rfl }

/-! ### Point control -/

theorem State.InBounds.placeThrow (h : s.InBounds k w) {p : Nat} (leg : Leg) (reason : ThrowReason) (range : 1 ≤ p ∧ p ≤ 63)
    (none : s.noneWaits p) (put : s.mayPut p { s.pt p with
      state := if reason = .return then .returning leg else .pending leg, command := .queued reason }) :
    (s.placeThrow p leg reason).InBounds k w := by
  have fresh : ∀ c ∈ s.link.commands, c.point ≠ p := fun c m e => none (h.points p) (e ▸ (h.queued c m).2.2)
  have placed := h.setPt p put fun c m e => absurd e (fresh c m)
  refine State.InBounds.select ?_ .t
  refine { placed with
    ports := placed.portsOf rfl rfl
    distinct := ?_
    queued := ?_ }
  · simp only [State.setPt_frame, List.map_append, List.map_cons, List.map_nil]
    refine List.nodup_append.mpr ⟨h.distinct, by simp, fun a ha b hb e => ?_⟩
    obtain ⟨c, hc, rfl⟩ := List.mem_map.mp ha
    exact fresh c hc (by simpa using e.trans (List.mem_singleton.mp hb))
  · intro c m
    rcases List.mem_append.mp m with m | m
    · exact placed.queued c m
    · obtain rfl := List.mem_singleton.mp m
      refine ⟨range.1, range.2, ?_⟩
      change ((s.setPt p _).pt p).waits
      rw [State.pt_setPt_self _ _ _ range]
      refine ⟨rfl, leg, ?_⟩
      by_cases r : reason = .return <;> simp [r]

/-- One claim list is replaced. -/
theorem State.InBounds.setClaims (h : s.InBounds k w) (p : Nat) {l : List Claim} (distinct : (l.map Claim.slot).Nodup)
    (range : ∀ c ∈ l, 1 ≤ c.slot ∧ c.slot ≤ 16) : (s.setClaims p l).InBounds k w :=
  { h with
    ports := h.portsOf rfl rfl
    claims := fun q => by
      rcases readAt_writeAt_cases s.claims [] l p q with e | ⟨-, e⟩
      · rw [show (s.setClaims p l).claimList q = s.claimList q from e]
        exact h.claims q
      · rw [show (s.setClaims p l).claimList q = l from e]
        exact ⟨distinct, range⟩ }

theorem State.InBounds.joinClaim (h : s.InBounds k w) (p i : Nat) (want : Option Leg) : (s.joinClaim p i want).InBounds k w := by
  unfold State.joinClaim
  split
  · exact h
  · rename_i absent
    split
    · exact h
    · rename_i x hx
      have range : 1 ≤ i ∧ i ≤ 16 :=
        Classical.byContradiction fun out => Option.some_ne_none x (hx.symm.trans (readAt_outside _ _ out))
      have perm := (List.perm_middle (a := (⟨i, want⟩ : Claim)) (l₁ := (s.claimList p).takeWhile fun c => !s.youngerThan x.ordinal c)
        (l₂ := (s.claimList p).dropWhile fun c => !s.youngerThan x.ordinal c))
      rw [List.takeWhile_append_dropWhile] at perm
      have fresh : i ∉ (s.claimList p).map Claim.slot := fun m => absent (by simpa [State.stands] using m)
      refine h.setClaims p ((perm.map _).nodup_iff.mpr (List.nodup_cons.mpr ⟨fresh, (h.claims p).1⟩)) fun c m => ?_
      rcases List.mem_cons.mp (perm.mem_iff.mp m) with rfl | m
      · exact range
      · exact (h.claims p).2 c m

theorem State.InBounds.changeClaim (h : s.InBounds k w) (p i : Nat) (want : Option Leg) : (s.changeClaim p i want).InBounds k w := by
  have slots : ((s.claimList p).map fun c => if c.slot = i then { c with want := want } else c).map Claim.slot
      = (s.claimList p).map Claim.slot := by
    rw [List.map_map]
    refine List.map_congr_left fun c _ => ?_
    simp only [Function.comp]
    split <;> rfl
  refine h.setClaims p (slots ▸ (h.claims p).1) fun c m => ?_
  obtain ⟨d, hd, rfl⟩ := List.mem_map.mp m
  have := (h.claims p).2 d hd
  split <;> exact this

theorem State.InBounds.leaveClaim (h : s.InBounds k w) (p i : Nat) : (s.leaveClaim p i).InBounds k w :=
  h.setClaims p ((h.claims p).1.sublist (List.filter_sublist.map _)) fun c m => (h.claims p).2 c (List.mem_of_mem_filter m)

theorem State.InBounds.leaveAll (h : s.InBounds k w) (i : Nat) : (s.leaveAll i).InBounds k w :=
  { h with
    ports := h.portsOf rfl rfl
    claims := fun p => by
      have left : (s.leaveAll i).claimList p = (s.claimList p).filter fun c => decide (c.slot ≠ i) :=
        readAt_mapAll (fun l : List Claim => l.filter fun c : Claim => decide (c.slot ≠ i)) s.claims [] p
      rw [left]
      exact ⟨(h.claims p).1.sublist (List.filter_sublist.map _), fun c m => (h.claims p).2 c (List.mem_of_mem_filter m)⟩ }

/-! ### Slots, sections, records -/

theorem State.InBounds.setSlot (h : s.InBounds k w) (i : Nat) (x : Option Slot) (fits : ∀ y, x = some y → y.bounded) :
    (s.setSlot i x).InBounds k w :=
  { h with
    ports := h.portsOf rfl rfl
    slots := fun j y e => by
      rcases s.slot_setSlot_cases i j x with same | ⟨-, new⟩
      · exact h.slots j y (same ▸ e)
      · exact fits y (new ▸ e) }

/-- A newly bound slot is in bounds (R32, R33). -/
theorem State.boundSlot_bounded (t : Clock) (record : Option CutRecord) (n target : Nat) (mark : Bool)
    (speed : 20 ≤ s.tables.params.entrySpeed ∧ s.tables.params.entrySpeed ≤ 1200)
    (counts : (record = none ∧ n = 1) ∨ ∃ r, record = some r ∧ n = r.expected ∧ r.bounded) :
    (s.boundSlot t record n target mark).bounded := by
  have expected : n ≤ 127 := by
    rcases counts with ⟨-, rfl⟩ | ⟨r, -, rfl, b⟩
    · decide
    · exact b.2.trans (by decide)
  have record' : ∀ r, record = some r → r.bounded := fun r e => by
    rcases counts with ⟨e', -⟩ | ⟨x, e', -, b⟩
    · rw [e'] at e
      cases e
    · rw [e', Option.some.injEq] at e
      exact e ▸ b
  exact ⟨show 1 ≤ 127 by decide, Nat.zero_le 127, expected, expected, Nat.zero_le 4, fun v m => (List.not_mem_nil m).elim, speed.1, speed.2, record'⟩

theorem State.InBounds.setSec (h : s.InBounds k w) (id : SectionId) {x : Section} (fits : x.bounded) : (s.setSec id x).InBounds k w := by
  have read (y : SectionId) : ((s.setSec id x).sec y).bounded := by
    by_cases e : y = id
    · subst e
      by_cases range : y.inRange = true
      · rwa [State.sec_setSec_self _ _ _ range]
      · have := h.sections y
        cases y <;> simp only [SectionId.inRange, decide_eq_true_eq] at range <;>
          simpa [State.sec, State.setSec, writeAt_outside _ _ range] using this
    · rw [State.sec_setSec_ne _ _ e]
      exact h.sections y
  cases id <;> exact { h with ports := h.portsOf rfl rfl, sections := read }

/-- The cut list is replaced. -/
theorem State.InBounds.setCuts (h : s.InBounds k w) {l : List CutRecord} (room : l.length ≤ 32) (fits : ∀ r ∈ l, r.bounded) :
    ({ s with cutList := l } : State).InBounds k w :=
  { h with ports := h.portsOf rfl rfl, cutList := ⟨room, fits⟩ }

theorem cutRecordOf_bounded {n : Nat} {x : CutFields} {r : CutRecord} (e : cutRecordOf n x = some r) : r.bounded := by
  unfold cutRecordOf at e
  split at e
  · rename_i range
    simp only [Bool.and_eq_true, inRange, decide_eq_true_eq] at range
    repeat' split at e
    all_goals cases e
    all_goals exact range.2
  · cases e

theorem insertBefore_perm (reference : Nat) (r : CutRecord) (l : List CutRecord) : (insertBefore reference r l).Perm (r :: l) := by
  have := List.perm_middle (a := r) (l₁ := l.takeWhile fun y => decide (y.number ≠ reference))
    (l₂ := l.dropWhile fun y => decide (y.number ≠ reference))
  rwa [List.takeWhile_append_dropWhile] at this

/-- A point that has not been thrown since its runtime record was set anew is in bounds, where its learned throw time is. -/
theorem PointRuntime.safeFor_of_unknown {r : PointRuntime} {rec : Option PointRecord} (state : r.state = .unknown) (retries : r.retries = 0)
    (timer : r.deglitchTimer = none) (learned : ∀ T, r.learned = some T → ∃ x, rec = some x ∧ x.tMin ≤ T ∧ T ≤ x.tMax) :
    r.safeFor rec :=
  ⟨⟨by rw [retries]; decide, fun ⟨e, he⟩ => by rw [state] at he; cases he⟩, PointRuntime.timerSafe_of_stopped timer, learned⟩

/-- A point's records after a write of its point record are in bounds (R2, R102). -/
theorem State.rewriteRecord_safeFor (p : Nat) {rec : Option PointRecord} (fits : ∀ x, rec = some x → x.bounded) :
    ((s.rewriteRecord p rec).pt p).safeFor ((s.rewriteRecord p rec).pointRecord p) := by
  by_cases range : 1 ≤ p ∧ p ≤ 63
  · rw [show (s.rewriteRecord p rec).pointRecord p = rec from readAt_writeAt_self _ _ _ _ range, State.rewriteRecord,
      State.pt_setPt_self _ _ _ range]
    refine PointRuntime.safeFor_of_unknown rfl rfl rfl fun T e => ?_
    obtain ⟨x, rfl, rfl⟩ := Option.map_eq_some_iff.mp e
    obtain ⟨-, low, high, -, -⟩ := fits x rfl
    exact ⟨x, rfl, low, high⟩
  · rw [State.pt_outside _ range]
    exact PointRuntime.safeFor_of_unknown rfl rfl rfl nofun

theorem fenceOf_bounded {f : Option Fence} {g : Fence} (e : fenceOf f = some g) : fenceBounded g := by
  unfold fenceOf at e
  split at e
  · cases e
  · cases e
    trivial
  · rename_i l
    simp only [guardOpt, Option.ite_none_right_eq_some, Bool.and_eq_true, decide_eq_true_eq, List.all_eq_true, inRange,
      Option.some.injEq] at e
    obtain ⟨⟨⟨⟨low, high⟩, range⟩, distinct⟩, rfl⟩ := e
    exact ⟨List.ne_nil_of_length_pos low, high, distinct, range⟩

theorem State.InBounds.rewriteRecord (h : s.InBounds k w) (p : Nat) (rec : Option PointRecord) (fits : ∀ x, rec = some x → x.bounded) :
    (s.rewriteRecord p rec).InBounds k w := by
  have dropped := h.dropThrow p
  have record (q : Nat) : (s.rewriteRecord p rec).pointRecord q = s.pointRecord q
      ∨ (q = p ∧ (s.rewriteRecord p rec).pointRecord q = rec) := readAt_writeAt_cases _ _ _ _ _
  have runtime (q : Nat) (other : q ≠ p) : (s.rewriteRecord p rec).pt q = s.pt q := readAt_writeAt_ne _ _ _ other
  exact { dropped with
    ports := h.portsOf rfl rfl
    queued := fun c m => by
      obtain ⟨low, high, waits⟩ := dropped.queued c m
      exact ⟨low, high, by rw [runtime _ (State.dropThrow_none p c m)]; exact waits⟩
    records := fun q x e => by
      rcases record q with same | ⟨-, new⟩
      · exact h.records q x (same ▸ e)
      · exact fits x (new ▸ e)
    points := fun q => by
      by_cases other : q = p
      · subst other
        exact State.rewriteRecord_safeFor q fits
      · have kept := h.points q
        rw [← runtime q other] at kept
        rcases record q with same | ⟨e, -⟩
        · rwa [same]
        · exact absurd e other }

theorem State.routeEntry_eq (code : Nat) : s.routeEntry code = readAt s.tables.routes 0 (code + 1) := by
  unfold State.routeEntry readAt
  by_cases hc : code < 1024
  · have : code + 1 ≤ 1024 := hc
    simp [hc, this]
  · have : ¬code + 1 ≤ 1024 := hc
    simp [hc, this]

theorem State.InBounds.putTrack (h : s.InBounds k w) (t : Nat) (rec : Option TrackRecord)
    (fits : (∀ x, s.trackRecord t = some x → x.bounded) → ∀ x, rec = some x → x.bounded) : (s.putTrack t rec).InBounds k w :=
  { h with
    ports := h.portsOf rfl rfl
    tracks := fun j y e => by
      rcases readAt_writeAt_cases s.tables.tracks none rec t j with same | ⟨-, new⟩
      · exact h.tracks j y (same.symm.trans e)
      · exact fits (h.tracks t) y (new.symm.trans e) }

/-- A table whose entries are images by id reads as the image. -/
theorem readAt_mapIds {α β : Type} {n : Nat} (f : Nat → α → β) (v : Vector α n) (d : α) (e : β) {i : Nat} (range : 1 ≤ i ∧ i ≤ n) :
    readAt (mapIds f v) e i = f i (readAt v d i) := by
  unfold readAt mapIds
  rw [dif_pos range, dif_pos range]
  have : i - 1 + 1 = i := Nat.sub_add_cancel range.1
  simp [ids, this]

/-- A warm reset keeps the bounds (R172). -/
theorem State.InBounds.warmState (h : s.InBounds k w) : s.warmState.InBounds k w :=
  { h with
    ports := h.portsOf rfl rfl
    reports := reset_bounded.reports
    distinct := .nil
    queued := fun c m => absurd m List.not_mem_nil
    cutList := reset_bounded.cutList
    sections := fun id => by
      cases id <;> simp only [State.sec, State.warmState, Sections.afterReset, readAt_replicate] <;> split <;>
        simp [Section.bounded, Section.afterReset]
    slots := reset_bounded.slots
    claims := fun p => by
      rw [show s.warmState.claimList p = [] from reset_claimList p]
      exact ⟨.nil, fun c m => absurd m List.not_mem_nil⟩
    points := fun p => by
      by_cases range : 1 ≤ p ∧ p ≤ 63
      · rw [show s.warmState.pt p = (s.pt p).warm (s.moments + p) from readAt_mapIds _ _ _ _ range]
        exact PointRuntime.safeFor_of_unknown rfl rfl rfl (h.points p).2.2
      · rw [State.pt_outside _ range]
        exact PointRuntime.safeFor_of_unknown rfl rfl rfl nofun }

/-- A device reset brings everything within its bounds (R173). -/
theorem State.cleared_inBounds (straps : Byte) : (s.cleared straps).InBounds k w :=
  { reset_bounded with
    ports := fun p => by
      have port : PortState.reset.Within (w p) :=
        ⟨Nat.zero_le _, Nat.zero_le _, Nat.le_refl 8, Nat.zero_le _, Nat.zero_le _, Nat.zero_le _⟩
      cases p <;> exact port
    responses := Nat.zero_le _
    distinct := .nil
    queued := fun c m => absurd m List.not_mem_nil
    claims := fun p => by
      rw [show (s.cleared straps).claimList p = [] from reset_claimList p]
      exact ⟨.nil, fun c m => absurd m List.not_mem_nil⟩
    points := fun p => by
      rw [show (s.cleared straps).pt p = .reset from reset_pt p]
      exact PointRuntime.safeFor_of_unknown rfl rfl rfl nofun }

/-- STOP_ENGINE disturbs sections, and leaves their runs (R42). -/
theorem State.halting_runs (id : SectionId) : (s.halting.sec id).runs = (s.sec id).runs := by
  have stop (x : Section) : x.stopped.runs = x.runs := by
    unfold Section.stopped
    split <;> rfl
  have read {n : Nat} (v : Vector Section n) (i : Nat) :
      (readAt (mapAll Section.stopped v) ⟨none, []⟩ i).runs = (readAt v ⟨none, []⟩ i).runs := by
    unfold readAt mapAll
    split
    · simp [stop]
    · rfl
  cases id <;> exact read _ _

/-- Every part of a command keeps the bounds. -/
theorem inBounds_kept : KeptByParts (State.InBounds k w) CutRecord.bounded where
  select p h := h.select p
  offer b h := h.offer b
  freeBuffer p h := h.freeBuffer p
  addCredits p n h := h.addCredits p n
  movePass p h := h.movePass p
  forward m h := h.forward m
  lineError p cls h := h.lineError p cls
  idlePort p h := h.setPort_same p { h.ports p with }
  unmapped h := { h with
    ports := h.portsOf rfl rfl, counts := ⟨raise_le, h.counts.2⟩ }
  unknownPoint h := { h with
    ports := h.portsOf rfl rfl, counts := ⟨h.counts.1, raise_le, h.counts.2.2⟩ }
  emptyErrors h := { h with
    ports := fun p => by cases p <;> [exact { h.ports .y with }; exact { h.ports .t with }] }
  writeDemand h := h.writeDemand
  demand a h := { h with ports := h.portsOf rfl rfl }
  engine e _ h := { h with ports := h.portsOf rfl rfl }
  binder b h := { h with ports := h.portsOf rfl rfl }
  mgmt m same h := { h with
    ports := h.portsOf rfl rfl
    fence := show fenceBounded m.fence from same ▸ h.fence }
  fence f g e h := { h with
    ports := h.portsOf rfl rfl
    fence := fenceOf_bounded e }
  dropThrow p h := h.dropThrow p
  setPt p r put waits h := h.setPt p put fun c m e => waits (h.points p) (e ▸ (h.queued c m).2.2)
  dropPut p r put h := (h.dropThrow p).setPt p put fun c m e => absurd e (State.dropThrow_none p c m)
  placeThrow p leg reason range none put h := h.placeThrow leg reason range none put
  joinClaim p i want h := h.joinClaim p i want
  changeClaim p i want h := h.changeClaim p i want
  leaveClaim p i h := h.leaveClaim p i
  leaveAll i h := h.leaveAll i
  setSlot i x y hx follows h := h.setSlot i _ fun z e => Option.some.inj e ▸ follows.1 (h.slots i x hx)
  freeSlot i h := h.setSlot i none fun _ e => absurd e.symm (Option.some_ne_none _)
  bind t i record n target mark _ counts h := h.setSlot i _ fun z e =>
    Option.some.inj e ▸ State.boundSlot_bounded t record n target mark h.entrySpeed counts
  setSec id x fits h := h.setSec id (fits (h.sections id))
  popCut r rest e h := by
    obtain ⟨room, fits⟩ := h.cutList
    rw [e] at room fits
    exact ⟨h.setCuts (Nat.le_of_succ_le room) fun x m => fits x (List.mem_cons_of_mem _ m), fits r (List.mem_cons_self ..)⟩
  recordOf i x r hx hr h := (h.slots i x hx).2.2.2.2.2.2.2.2 r hr
  pushCut r room fits h := h.setCuts room fun x m => by
    rcases List.mem_cons.mp m with rfl | m
    · exact fits
    · exact h.cutList.2 x m
  appendCut {s} n x r e room h := h.setCuts (by rw [List.length_append]; exact room) fun y m => by
    rcases List.mem_append.mp m with m | m
    · exact h.cutList.2 y m
    · exact List.mem_singleton.mp m ▸ cutRecordOf_bounded e
  insertCut {s} reference n x r e room h := h.setCuts ((insertBefore_perm reference r s.cutList).length_eq ▸ room) fun y m => by
    rcases List.mem_cons.mp ((insertBefore_perm reference r s.cutList).mem_iff.mp m) with rfl | m
    · exact cutRecordOf_bounded e
    · exact h.cutList.2 y m
  filterCut f h := h.setCuts ((List.length_filter_le _ _).trans h.cutList.1) fun y m => h.cutList.2 y (List.mem_of_mem_filter m)
  amendCut n x r e h := h.setCuts (by rw [List.length_map]; exact h.cutList.1) fun y m => by
    obtain ⟨z, hz, rfl⟩ := List.mem_map.mp m
    split
    · exact cutRecordOf_bounded e
    · exact h.cutList.2 z hz
  rewriteRecord p rec _ fits h := h.rewriteRecord p rec fits
  putTrack t rec fits _ h := h.putTrack t rec fits
  params x speed _ h := { h with
    ports := h.portsOf rfl rfl
    entrySpeed := speed h.entrySpeed }
  route {s} code value range h := { h with
    ports := h.portsOf rfl rfl
    routes := fun c => by
      rw [State.routeEntry_eq]
      rcases readAt_writeAt_cases s.tables.routes 0 value code (c + 1) with same | ⟨-, new⟩
      · exact same.symm ▸ State.routeEntry_eq (s := s) c ▸ h.routes c
      · exact new.symm ▸ range }
  patch {s} k e fits h := { h with
    ports := h.portsOf rfl rfl
    patches := fun j => by
      rcases readAt_writeAt_cases s.tables.patches ⟨false, 0, 0, 0⟩ e k j with same | ⟨-, new⟩
      · exact same.symm ▸ h.patches j
      · exact new.symm ▸ fits (h.patches k) }
  started _ _ h := { h with ports := h.portsOf rfl rfl }
  halting {s} _ h := { h with
    ports := h.portsOf rfl rfl
    sections := fun id => by
      rw [Section.bounded_iff, State.halting_runs, ← Section.bounded_iff]
      exact h.sections id }
  warmState h := h.warmState
  cleared straps _ := State.cleared_inBounds straps
  tick h := { h with ports := h.portsOf rfl rfl }
  pending l h := { h with ports := h.portsOf rfl rfl }

end

/-! ### The commands -/

/-- A request is carried out with room for its response, which then stands in the response queue (R152, R156). -/
theorem State.handle_inBounds (s : State) (q : Req) (code : RequestCode) (f : Effect) (parts : Effect.ofParts f) (h : s.InBoundsNow) :
    (s.handle q code f).InBoundsNow := by
  unfold State.handle
  split
  · exact h
  · split
    · exact h
    · rename_i m _ room
      have room : s.link.responses.length < 4 := Nat.lt_of_not_le room
      have carried := parts _ _ (inBounds_kept (k := 3) (w := fun _ => 8)) m.src.toNat s { h with responses := Nat.le_of_lt_succ room }
      refine State.InBounds.freeBuffer (State.InBounds.dropWaiting (State.InBounds.select ?_ _) _ _) _
      exact { carried.weaken (Nat.le_succ 3) fun _ => Nat.le_refl _ with
        ports := carried.portsOf rfl rfl
        responses := by simpa using Nat.lt_succ_of_le carried.responses }

/-- A telegram stays in a receive buffer only where one is free (R149, R152). -/
theorem State.receive_inBounds (s : State) (p : Port) (beganFull : Bool) (frame : List Byte) (h : s.InBoundsNow) :
    (s.receive p beganFull frame).InBoundsNow := by
  refine inBounds_kept.receive (J := State.InBounds 4 fun q => if q = p then 7 else 8) inBounds_kept p
    (fun s h => h.weaken (Nat.le_refl 4) fun q => ?_) (fun s h room => ?_) (fun s own m h => ?_) beganFull frame h
  · split <;> decide
  · refine { h with ports := fun q => ?_ }
    by_cases e : q = p
    · subst e
      rw [if_pos rfl]
      exact { h.ports q with waiting := Nat.le_of_lt_succ room }
    · rw [if_neg e]
      exact h.ports q
  · have port := h.ports p
    rw [if_pos rfl] at port
    refine h.setPort p (x := { s.port p with waiting := (s.port p).waiting ++ [⟨own, m⟩] }) { port with waiting := ?_ } fun q e => ?_
    · simpa using Nat.lt_succ_of_le port.waiting
    · rw [if_neg e]

/-- Settles O55: the bounds, strengthened by one THROW per point and one claim per slot, are kept by every part of a command. -/
theorem boundsAreKept : Obligations.BoundsAreKept := by
  unfold Obligations.BoundsAreKept
  intro s t bounds throws claims e
  exact (inBounds_kept.step State.handle_inBounds State.receive_inBounds e (bounds.inBounds throws claims)).bounded

end Sys2Proof.Machine

/-! SUPPORT. What an effect does to the queues, in a form that composes, and what a request that is carried out then does: its effect, one
answer, and what the ports send (R152 to R162). -/

namespace Sys2Proof.Machine

/-! ### Rules of the queues -/

/-- Reports of these bodies are offered; responses only leave their queue, and the receive buffers stay. -/
structure Queues (s t : State) (bodies : List ReportBody) : Prop extends Offers s t bodies where
  responses : t.link.responses.Sublist s.link.responses
  waiting : ∀ p, (t.port p).waiting = (s.port p).waiting

theorem Queues.trans {s t u : State} {a b : List ReportBody} (h : Queues s t a) (k : Queues t u b) : Queues s u (a ++ b) where
  toOffers := h.toOffers.trans k.toOffers
  responses := k.responses.trans h.responses
  waiting p := (k.waiting p).trans (h.waiting p)

/-- Nothing is offered before. -/
theorem Queues.after {s t u : State} {b : List ReportBody} (h : Queues s t []) (k : Queues t u b) : Queues s u b := h.trans k

/-- Nothing is offered after. -/
theorem Queues.before {s t u : State} {a : List ReportBody} (h : Queues s t a) (k : Queues t u []) : Queues s u a := by
  have := h.trans k
  rwa [List.append_nil] at this

/-- The ports, the responses, the report queue and what an offer reads stay. -/
theorem Queues.of_same {s t : State} (clock : t.clock = s.clock) (straps : t.straps = s.straps)
    (params : t.tables.params = s.tables.params) (y : t.link.y = s.link.y) (t' : t.link.t = s.link.t)
    (responses : t.link.responses = s.link.responses) (reports : t.reports = s.reports) : Queues s t [] where
  toOffers := .of_same clock straps params (by rw [y]) reports
  responses := by rw [responses]
  waiting p := by
    cases p
    · exact congrArg _ y
    · exact congrArg _ t'

theorem Queues.refl (s : State) : Queues s s [] := .of_same rfl rfl rfl rfl rfl rfl rfl

theorem State.select_queues (s : State) (p : Port) : Queues s (s.select p) [] where
  toOffers := s.select_offers p
  responses := by
    rcases s.select_responses p with e | ⟨r, -, -, e, -⟩ <;> rw [e]
    exact List.eraseP_sublist
  waiting k := by simp

theorem State.offer_queues (s : State) (b : ReportBody) : Queues s (s.offer b) [b] where
  toOffers := s.offer_offers b
  responses := by
    simp only [State.offer]
    split
    · exact .refl _
    · exact (State.select_queues _ .y).responses
  waiting k := by simp

theorem State.writeDemand_queues (s : State) : Queues s s.writeDemand [] := by
  unfold State.writeDemand
  split
  · exact .refl s
  · refine Queues.after ?_ (State.select_queues _ .t)
    exact .of_same rfl rfl rfl rfl rfl rfl rfl

theorem State.recompute_queues (s : State) : Queues s s.recompute [] := by
  unfold State.recompute
  split
  · exact .refl s
  · refine Queues.after ?_ (State.writeDemand_queues _)
    exact .of_same rfl rfl rfl rfl rfl rfl rfl

theorem State.enterEngine_queues (s : State) (ev : EngineEvent) :
    Queues s (s.enterEngine ev) [.engineState s.engine.state s.engine.causes ev] :=
  (State.offer_queues s _).before (State.recompute_queues _)

/-! ### Requests carried out -/

/-- A request from the holder of the claim is carried out (R163). -/
theorem controlled_holder {s : State} {src : Nat} {f : State → State × Answer} (h : s.mgmt.holder = some src) :
    controlled f src s = f s := if_pos h

section
variable {s u : State} {q : Req} {m : Telegram} {code : RequestCode} {a : Answer} {bodies : List ReportBody}

/-- A request that is carried out is answered; beside its effect the ports send, and the effect's reports are offered. -/
theorem State.handle_done {f : Effect} (may : s.mayAnswer q m) (effect : f m.src.toNat s = (u, a)) (queues : Queues s u bodies) :
    Answered s (s.handle q code f) q m code a ∧ OnlySends u (s.handle q code f) ∧ Offers s (s.handle q code f) bodies := by
  have answered := State.handle_answered code f may (by rw [effect]; exact queues.responses) (by rw [effect]; exact queues.waiting _)
  have sends := State.handle_onlySends code f may
  have offers := State.handle_offers code f may
  rw [effect] at answered sends offers
  have all := queues.toOffers.trans offers
  rw [List.append_nil] at all
  exact ⟨answered, sends, all⟩

/-- A request of the holder's is carried out. -/
theorem State.controlled_done {f : State → State × Answer} (holder : s.fromHolder q m) (effect : f s = (u, a))
    (queues : Queues s u bodies) : Answered s (s.handle q code (controlled f)) q m code a
      ∧ OnlySends u (s.handle q code (controlled f)) ∧ Offers s (s.handle q code (controlled f)) bodies :=
  State.handle_done holder.1 ((controlled_holder holder.2).trans effect) queues

/-- A request of the holder's that changes nothing is answered, and nothing else happens. -/
theorem State.controlled_unchanged {f : State → State × Answer} (holder : s.fromHolder q m) (effect : f s = (s, a)) :
    AnsweredOnly s (s.handle q code (controlled f)) q m code a :=
  State.handle_unchanged code _ holder.1 a ((controlled_holder holder.2).trans effect)

end

/-! ### What sending leaves of a point at rest and of the demand that waits -/

/-- Sending may take THROWs out of the command queue, and leaves the runtime record of a point that is UNKNOWN (R110, R155). -/
structure Rests (s t : State) : Prop where
  commands : t.link.commands.Sublist s.link.commands
  unknown : ∀ p, (s.pt p).state = .unknown → t.pt p = s.pt p

theorem Rests.trans {s t u : State} (h : Rests s t) (k : Rests t u) : Rests s u where
  commands := k.commands.trans h.commands
  unknown p e := (k.unknown p ((congrArg _ (h.unknown p e)).trans e)).trans (h.unknown p e)

/-- The command queue and the points stay. -/
theorem Rests.of_same {s t : State} (commands : t.link.commands = s.link.commands) (points : t.points = s.points) : Rests s t where
  commands := by rw [commands]
  unknown p _ := by rw [State.pt, points, State.pt]

theorem State.setPort_rests (s : State) (p : Port) (x : PortState) : Rests s (s.setPort p x) := .of_same (by simp) (by simp)

theorem State.select_rests (s : State) (p : Port) : Rests s (s.select p) := by
  unfold State.select
  cases h : s.choice p with
  | throw c =>
    simp only [State.begin]
    split
    · rename_i starts
      refine ⟨?_, fun k unknown => ?_⟩
      · simp only [State.startThrow, State.link_setPort, State.setPt_frame]
        exact List.tail_sublist _
      · have other : k ≠ c.point := fun e => by
          subst e
          simp [State.throwMayStart, unknown] at starts
        rw [State.startThrow]
        exact State.pt_setPt_ne _ _ other
    · exact .of_same rfl rfl
  | nothing => exact .of_same rfl rfl
  | fill => exact State.setPort_rests ..
  | signal m | response r | report r =>
    refine .trans ?_ (State.setPort_rests ..)
    exact .of_same rfl rfl
  | pass m => exact State.setPort_rests ..

theorem State.offer_rests (s : State) (b : ReportBody) : Rests s (s.offer b) := by
  simp only [State.offer]
  split
  · exact .of_same rfl rfl
  · refine .trans ?_ (State.select_rests _ _)
    exact .of_same rfl rfl

theorem State.respond_rests (s : State) (r : Response) : Rests s (s.respond r) := by
  refine .trans ?_ (State.select_rests _ _)
  exact .of_same rfl rfl

theorem State.dropWaiting_rests (s : State) (p : Port) (own : Bool) : Rests s (s.dropWaiting p own) := State.setPort_rests ..

theorem State.freeBuffer_rests (s : State) (p : Port) : Rests s (s.freeBuffer p) :=
  .trans (State.setPort_rests ..) (State.select_rests _ _)

theorem State.handle_rests {s : State} {q : Req} {m : Telegram} (code : RequestCode) (f : Effect) (may : s.mayAnswer q m) :
    Rests (f m.src.toNat s).1 (s.handle q code f) := by
  rw [State.handle_eq code f may]
  exact ((State.respond_rests _ _).trans (State.dropWaiting_rests _ _ _)).trans (State.freeBuffer_rests _ _)

/-- The signal telegram waits in its slot, or is being sent on Port T (R142, R158). -/
def State.signalOut (s : State) (x : SignalTelegram) : Prop :=
  s.link.signalSlot = some x
    ∨ (s.link.signalSlot = none ∧ ∃ y, (s.port .t).sending = some y ∧ y.dest = x.dest ∧ y.body = .signal x.aspect)

/-- The slot and what Port T sends stay. -/
theorem State.signalOut.of_same {s t : State} {x : SignalTelegram} (h : s.signalOut x) (slot : t.link.signalSlot = s.link.signalSlot)
    (sending : (t.port .t).sending = (s.port .t).sending) : t.signalOut x := by
  unfold State.signalOut at h ⊢
  rwa [slot, sending]

theorem State.choice_signal {s : State} {p : Port} {x : SignalTelegram} (h : s.choice p = .signal x) :
    p = .t ∧ s.link.signalSlot = some x := by
  have own : s.ownChoice p = some (.signal x) := by
    simp only [State.choice] at h
    repeat' split at h
    all_goals cases h
    all_goals assumption
  unfold State.ownChoice at own
  cases p <;> simp only at own <;> repeat' split at own
  all_goals simp_all

theorem State.signalOut.select {s : State} {x : SignalTelegram} (h : s.signalOut x) (p : Port) : (s.select p).signalOut x := by
  cases p with
  | y =>
    have same : (s.select .y).link.signalSlot = s.link.signalSlot ∧ ((s.select .y).port .t).sending = (s.port .t).sending := by
      unfold State.select
      cases c : s.choice .y with
      | signal z => exact absurd (State.choice_signal c).1 (by decide)
      | throw z => exact absurd (State.choice_throw c).1 (by decide)
      | nothing | fill | response | report | pass => exact ⟨rfl, rfl⟩
    exact h.of_same same.1 same.2
  | t =>
    rcases h with slot | ⟨slot, sent⟩
    · unfold State.select
      cases c : s.choice .t with
      | signal z =>
        have := (State.choice_signal c).2
        rw [slot, Option.some.injEq] at this
        subst this
        exact .inr ⟨rfl, _, rfl, rfl, rfl⟩
      | throw c =>
        simp only [State.begin]
        split <;> exact .inl slot
      | nothing => exact .inl slot
      | fill => exact .inl slot
      | response r => exact .inl slot
      | report r => exact .inl slot
      | pass m => exact .inl slot
    · have busy : s.select .t = s := State.select_busy s .t (by obtain ⟨y, hy, -⟩ := sent; simp [hy])
      rw [busy]
      exact .inr ⟨slot, sent⟩

theorem State.signalOut.setPort {s : State} {x : SignalTelegram} (h : s.signalOut x) (p : Port) {y : PortState}
    (same : y.sending = (s.port p).sending) : (s.setPort p y).signalOut x :=
  h.of_same (State.link_setPort s p y).2.1 (by cases p <;> [rfl; exact same])

theorem State.signalOut.respond {s : State} {x : SignalTelegram} (h : s.signalOut x) (r : Response) : (s.respond r).signalOut x := by
  refine State.signalOut.select ?_ _
  exact h.of_same rfl rfl

theorem State.signalOut.dropWaiting {s : State} {x : SignalTelegram} (h : s.signalOut x) (p : Port) (own : Bool) :
    (s.dropWaiting p own).signalOut x := h.setPort p rfl

theorem State.signalOut.freeBuffer {s : State} {x : SignalTelegram} (h : s.signalOut x) (p : Port) : (s.freeBuffer p).signalOut x :=
  State.signalOut.select (h.setPort p (y := { s.port p with owed := min Config.receiveBuffers ((s.port p).owed + 1) }) rfl) p

theorem State.signalOut.handle {s : State} {q : Req} {m : Telegram} {x : SignalTelegram} (code : RequestCode) (f : Effect)
    (may : s.mayAnswer q m) (h : (f m.src.toNat s).1.signalOut x) : (s.handle q code f).signalOut x := by
  rw [State.handle_eq code f may]
  exact ((h.respond _).dropWaiting _ _).freeBuffer _

/-! ### The demand written (R140 to R142) -/

theorem State.writeDemand_signal (s : State) : s.writeDemand.signal = if s.tables.params.signalStation = 0 then s.signal else
    ⟨s.signal.demand, some (after s.clock s.tables.params.refresh)⟩ := by
  unfold State.writeDemand
  split
  · rfl
  · exact (State.select_onlySends _ .t).signal

theorem State.writeDemand_demand (s : State) : s.writeDemand.signal.demand = s.signal.demand := by
  rw [State.writeDemand_signal]
  split <;> rfl

theorem State.recompute_demand (s : State) : s.recompute.signal.demand = s.demandNow := by
  unfold State.recompute
  split
  · exact Eq.symm ‹_›
  · exact State.writeDemand_demand _

/-- Beside the signal and what the ports send the writing of the demand changes nothing. -/
theorem State.writeDemand_onlySends (s : State) : OnlySends { s with signal := s.writeDemand.signal } s.writeDemand := by
  unfold State.writeDemand
  split
  · exact .refl s
  · have sends := State.select_onlySends ({ s with
      link := { s.link with signalSlot := some ⟨s.signal.demand, s.tables.params.signalStation⟩ }
      signal := { s.signal with refresh := some (after s.clock s.tables.params.refresh) } }) .t
    exact { sends with signal := rfl }

theorem State.recompute_onlySends (s : State) : OnlySends { s with signal := s.recompute.signal } s.recompute := by
  unfold State.recompute
  split
  · exact .refl s
  · exact State.writeDemand_onlySends { s with signal := { s.signal with demand := s.demandNow } }

theorem State.writeDemand_signalOut {s : State} (station : s.tables.params.signalStation ≠ 0) :
    s.writeDemand.signalOut ⟨s.signal.demand, s.tables.params.signalStation⟩ := by
  rw [State.writeDemand, if_neg station]
  refine State.signalOut.select ?_ .t
  exact .inl rfl

/-- The inputs of the demand are not what the ports send (R140). -/
theorem OnlySends.demandNow {s t : State} (h : OnlySends s t) : t.demandNow = s.demandNow := by
  simp only [State.demandNow, State.slotsInUse, h.engine, h.cutList, h.slots, h.tables]

/-- Beside the signal and what the ports send a change of the engine state changes nothing more (R134). -/
theorem State.enterEngine_onlySends (s : State) (ev : EngineEvent) :
    OnlySends { s with signal := (s.enterEngine ev).signal } (s.enterEngine ev) := by
  have reported : OnlySends s (s.reportEngine ev) := State.offer_onlySends _ _
  have reported : OnlySends { s with signal := (s.enterEngine ev).signal }
      { s.reportEngine ev with signal := (s.enterEngine ev).signal } := { reported with signal := rfl }
  exact reported.trans (State.recompute_onlySends (s.reportEngine ev))

/-- The demand is up to date once the engine state has changed (R140). -/
theorem State.enterEngine_demand (s : State) (ev : EngineEvent) : (s.enterEngine ev).signal.demand = (s.enterEngine ev).demandNow :=
  (State.recompute_demand (s.reportEngine ev)).trans (State.recompute_onlySends (s.reportEngine ev)).demandNow.symm

end Sys2Proof.Machine

/-! The requests on the yard tables: TABLE_READ and the forms of TABLE_WRITE (R1 to R8, R21, R168, R169). -/

namespace Sys2Proof.Machine

/-! ### The checks of a write -/

theorem inRange_iff {a b x : Nat} : inRange a b x = true ↔ a ≤ x ∧ x ≤ b := by simp [inRange]

theorem State.inConfig_iff {s : State} : s.inConfig = true ↔ s.engine.state = .config := by simp [State.inConfig]

theorem State.mayName_iff {s : State} {t : Nat} : s.mayName t = true ↔ s.engine.state = .config ∨ s.trackRecord t ≠ none := by
  simp [State.mayName, State.inConfig_iff, Option.isSome_iff_ne_none]

/-- A table whose parameters stay queues nothing when it is written. -/
theorem Queues.tables {s : State} {x : Tables} (params : x.params = s.tables.params) : Queues s { s with tables := x } [] :=
  .of_same rfl rfl params rfl rfl rfl rfl

/-! ### TABLE_READ (R169) -/

/-- A read of an entry in one part. -/
theorem tableRead_one {s : State} {entry : TableEntry} {content : Content} (whole : ∀ p, entry ≠ .point p)
    (e : s.tableEntry entry = some content) : tableRead entry 0 s = (s, .done (.part 0 1 content)) := by
  unfold tableRead
  split
  · exact absurd rfl (whole _)
  · simp only [e, answerPart]

/-- A read of an entry, or of a part, that is not there. -/
theorem tableRead_refused {s : State} {entry : TableEntry} {part : Nat} (whole : ∀ p, entry ≠ .point p)
    (e : s.tableEntry entry = none ∨ 1 ≤ part) : tableRead entry part s = (s, .badArgument) := by
  unfold tableRead
  split
  · exact absurd rfl (whole _)
  · split
    · rename_i content he
      rcases e with e | e
      · rw [e] at he
        cases he
      · cases e
    · rfl

theorem tableRead_point_refused {s : State} {p part : Nat} (e : p = 0 ∨ 63 < p ∨ 2 ≤ part) :
    tableRead (.point p) part s = (s, .badArgument) := by
  simp only [tableRead, tableReadPoint]
  split
  · rfl
  · rename_i range
    rw [Bool.not_eq_true', Bool.not_eq_false, inRange_iff] at range
    split
    · omega
    · omega
    · rfl

theorem Params.read_outside (x : Params) (kind : Option ReportKind) {item : Nat} (outside : item = 0 ∨ 14 < item) :
    x.read item kind = none := by
  unfold Params.read
  split
  case h_15 => rfl
  all_goals omega

/-- Settles O10: a read changes nothing, so its answer is all there is to say. -/
theorem tableReadAnswers : Obligations.TableReadAnswers := by
  unfold Obligations.TableReadAnswers
  refine ⟨fun x kind => ⟨rfl, rfl, rfl, rfl, rfl, rfl, rfl, rfl, rfl, rfl, rfl, rfl, rfl, ?_, fun item => x.read_outside kind⟩,
    fun q m s may => ?_⟩
  · cases kind <;> rfl
  have answer (entry : TableEntry) (part : Nat) (a : Answer) (e : tableRead entry part s = (s, a)) :
      ∃ t, exec (.tableRead q entry part) s = .next t ∧ AnsweredOnly s t q m .tableRead a :=
    ⟨_, rfl, State.handle_unchanged _ _ may a e⟩
  refine ⟨fun p low high => ⟨?_, ?_⟩, fun k low high => ?_, fun item kind v e => ?_, fun code n hc low high hn => ?_,
    fun k low high => ?_, fun entry part outside => ?_⟩
  · refine answer _ _ _ ?_
    simp only [tableRead, tableReadPoint, inRange_iff.mpr ⟨low, high⟩]
    rfl
  · refine answer _ _ _ ?_
    simp only [tableRead, tableReadPoint, inRange_iff.mpr ⟨low, high⟩]
    rfl
  · exact answer _ _ _ (tableRead_one nofun (by simp [State.tableEntry, inRange_iff, low, high]))
  · exact answer _ _ _ (tableRead_one nofun (by simp [State.tableEntry, e]))
  · exact answer _ _ _ (tableRead_one nofun (by simp [State.tableEntry, inRange_iff, hc, low, high, hn]))
  · exact answer _ _ _ (tableRead_one nofun (by simp [State.tableEntry, inRange_iff, low, high]))
  · obtain ⟨point, track, parameter, route, patch⟩ := outside
    cases entry with
    | point p => exact answer _ _ _ (tableRead_point_refused (point p rfl))
    | track k =>
      refine answer _ _ _ (tableRead_refused nofun ?_)
      have := track k rfl
      simp only [State.tableEntry, ite_eq_right_iff, inRange_iff, reduceCtorEq, imp_false]
      omega
    | parameter item kind =>
      refine answer _ _ _ (tableRead_refused nofun ?_)
      simpa only [State.tableEntry, Option.map_eq_none_iff] using parameter item kind rfl
    | route code n =>
      refine answer _ _ _ (tableRead_refused nofun ?_)
      have := route code n rfl
      simp only [State.tableEntry, ite_eq_right_iff, Bool.and_eq_true, inRange_iff, decide_eq_true_eq, reduceCtorEq, imp_false]
      omega
    | patch k =>
      refine answer _ _ _ (tableRead_refused nofun ?_)
      have := patch k rfl
      simp only [State.tableEntry, ite_eq_right_iff, inRange_iff, reduceCtorEq, imp_false]
      omega
    | unknown => exact answer _ _ _ (tableRead_refused nofun (.inl rfl))

/-! ### TABLE_WRITE ROUTE and PATCH (R6, R7) -/

theorem tableWriteRoute_eq (s : State) (code value : Nat) : tableWriteRoute code value s
    = if code ≤ 1023 ∧ value ≤ 64 ∧ (value = 0 ∨ s.engine.state = .config ∨ s.trackRecord value ≠ none)
      then done { s with tables := { s.tables with routes := writeAt s.tables.routes (code + 1) value } }
      else (s, .badArgument) := by
  unfold tableWriteRoute
  have name : (decide (value ≠ 0) && !s.mayName value) = true
      ↔ ¬(value = 0 ∨ s.engine.state = .config ∨ s.trackRecord value ≠ none) := by
    simp only [Bool.and_eq_true, decide_eq_true_eq, Bool.not_eq_true', ← Bool.not_eq_true, State.mayName_iff, not_or]
  simp only [name, Bool.not_eq_true', ← Bool.not_eq_true, inRange_iff, Nat.zero_le, true_and]
  by_cases hc : code ≤ 1023
  · by_cases hv : value ≤ 64
    · by_cases hn : value = 0 ∨ s.engine.state = .config ∨ s.trackRecord value ≠ none
      · simp [hc, hv, hn]
      · simp only [hc, hv, hn, not_true_eq_false, not_false_eq_true, if_true, if_false, and_false]
        rfl
    · simp only [hc, hv, not_true_eq_false, not_false_eq_true, if_true, if_false, and_false, false_and]
      rfl
  · simp only [hc, not_false_eq_true, if_true, if_false, false_and]
    rfl

theorem patchOf_eq (x : PatchFields) : patchOf x
    = if x.destination ≤ 1023 ∧ (1 ≤ x.track ∧ x.track ≤ 64) ∧ x.uses ≤ 255 then
        some ⟨x.enabled, x.destination, x.track, x.uses⟩ else none := by
  simp only [patchOf, Bool.and_eq_true, inRange_iff, Nat.zero_le, true_and, and_assoc]

theorem tableWritePatch_eq (s : State) (k : Nat) (x : PatchFields) : tableWritePatch k x s
    = if (1 ≤ k ∧ k ≤ 8) ∧ x.destination ≤ 1023 ∧ (1 ≤ x.track ∧ x.track ≤ 64) ∧ x.uses ≤ 255
        ∧ (x.enabled = false ∨ s.engine.state = .config ∨ s.trackRecord x.track ≠ none)
      then done { s with tables := { s.tables with
        patches := writeAt s.tables.patches k ⟨x.enabled, x.destination, x.track, x.uses⟩ } }
      else (s, .badArgument) := by
  unfold tableWritePatch
  by_cases hk : 1 ≤ k ∧ k ≤ 8
  · rw [if_neg (by simp [inRange_iff.mpr hk]), patchOf_eq]
    by_cases hx : x.destination ≤ 1023 ∧ (1 ≤ x.track ∧ x.track ≤ 64) ∧ x.uses ≤ 255
    · rw [if_pos hx]
      have name : (x.enabled && !s.mayName x.track) = true
          ↔ ¬(x.enabled = false ∨ s.engine.state = .config ∨ s.trackRecord x.track ≠ none) := by
        simp only [Bool.and_eq_true, Bool.not_eq_true', ← Bool.not_eq_true, State.mayName_iff, not_or, Classical.not_not]
      by_cases hn : x.enabled = false ∨ s.engine.state = .config ∨ s.trackRecord x.track ≠ none
      · rw [if_pos ⟨hk, hx.1, hx.2.1, hx.2.2, hn⟩]
        exact if_neg (mt name.mp (Classical.not_not.mpr hn))
      · rw [if_neg fun h => hn h.2.2.2.2]
        exact if_pos (name.mpr hn)
    · rw [if_neg hx, if_neg fun h => hx ⟨h.2.1, h.2.2.1, h.2.2.2.1⟩]
      rfl
  · rw [if_pos (by simpa only [Bool.not_eq_true', ← Bool.not_eq_true, inRange_iff] using hk), if_neg fun h => hk h.1]
    rfl

/-- Settles O16: each write is its check and one entry. -/
theorem routeAndPatchWrites : Obligations.RouteAndPatchWrites := by
  unfold Obligations.RouteAndPatchWrites
  refine fun q m s holder => ⟨fun code value => ?_, fun k x => ?_⟩
  · split
    · rename_i fits
      have effect := (tableWriteRoute_eq s code value).trans (if_pos fits)
      obtain ⟨answered, sends, -⟩ := State.controlled_done (code := .tableWrite) holder effect (.tables rfl)
      have range : 1 ≤ code + 1 ∧ code + 1 ≤ 1024 := ⟨Nat.succ_pos _, Nat.succ_le_succ fits.1⟩
      refine ⟨_, rfl, answered, ?_, fun k other => ?_, ?_⟩
      · rw [State.routeEntry_eq, sends.tables]
        exact readAt_writeAt_self _ _ _ _ range
      · rw [State.routeEntry_eq, sends.tables, State.routeEntry_eq]
        exact readAt_writeAt_ne _ _ _ fun e => other (Nat.succ.inj e)
      · rw [sends.tables]
        exact sends
    · rename_i unfit
      exact ⟨_, rfl, State.controlled_unchanged holder ((tableWriteRoute_eq s code value).trans (if_neg unfit))⟩
  · split
    · rename_i fits
      have effect := (tableWritePatch_eq s k x).trans (if_pos fits)
      obtain ⟨answered, sends, -⟩ := State.controlled_done (code := .tableWrite) holder effect (.tables rfl)
      exact ⟨_, rfl, answered, _, rfl, sends⟩
    · rename_i unfit
      exact ⟨_, rfl, State.controlled_unchanged holder ((tableWritePatch_eq s k x).trans (if_neg unfit))⟩

/-! ### TABLE_WRITE TRACK (R3) -/

theorem registerOk_iff {k : Nat} {x : RegisterFields} : registerOk k x = true ↔ x.room ≤ 4095 ∧ x.alternates.length ≤ 3
    ∧ x.alternates.Nodup ∧ k ∉ x.alternates ∧ ∀ a ∈ x.alternates, 1 ≤ a ∧ a ≤ 64 := by
  simp only [registerOk, Bool.and_eq_true, inRange_iff, Nat.zero_le, true_and, decide_eq_true_eq, List.all_eq_true, Bool.not_eq_true',
    ← Bool.not_eq_true, List.contains_iff_mem]
  exact ⟨fun ⟨⟨⟨⟨room, few⟩, range⟩, distinct⟩, self⟩ => ⟨room, few, distinct, self, range⟩,
    fun ⟨room, few, distinct, self, range⟩ => ⟨⟨⟨⟨room, few⟩, range⟩, distinct⟩, self⟩⟩

theorem registerOf_eq_some {k : Nat} {x : RegisterFields} {status : TrackStatus} :
    registerOf k x = some status ↔ x.status = some status ∧ x.room ≤ 4095 ∧ x.alternates.length ≤ 3 ∧ x.alternates.Nodup
      ∧ k ∉ x.alternates ∧ ∀ a ∈ x.alternates, 1 ≤ a ∧ a ≤ 64 := by
  rw [registerOf, Option.ite_none_right_eq_some, registerOk_iff, and_comm]

theorem trackRecordOf_eq_some {k : Nat} {x : TrackFields} {rec : TrackRecord} : trackRecordOf k x = some rec ↔
    registerOf k x.register = some rec.status ∧ x.leg = some rec.leg ∧ 1 ≤ x.parent ∧ x.parent ≤ 63 ∧ 1 ≤ x.clearance
      ∧ x.clearance ≤ 254 ∧ 100 ≤ x.linkLength ∧ x.linkLength ≤ 65535
      ∧ rec = ⟨x.parent, rec.leg, x.clearance, x.linkLength, rec.status, x.register.room, x.register.alternates⟩ := by
  unfold trackRecordOf
  rw [registerOf, Option.ite_none_right_eq_some]
  cases hl : x.leg with
  | none => simp
  | some leg =>
    cases hs : x.register.status with
    | none => simp
    | some status =>
      simp only [Option.ite_none_right_eq_some, Bool.and_eq_true, inRange_iff, Option.some.injEq]
      constructor
      · rintro ⟨⟨⟨⟨parent, clearance⟩, length⟩, register⟩, rfl⟩
        exact ⟨⟨register, rfl⟩, rfl, parent.1, parent.2, clearance.1, clearance.2, length.1, length.2, rfl⟩
      · rintro ⟨⟨register, rfl⟩, rfl, p1, p2, c1, c2, l1, l2, e⟩
        exact ⟨⟨⟨⟨⟨p1, p2⟩, c1, c2⟩, l1, l2⟩, register⟩, e.symm⟩

section
variable {s : State} {k : Nat}

theorem State.putTrack_queues (rec : Option TrackRecord) : Queues s (s.putTrack k rec) [] := .tables rfl

theorem inRange_false {a b x : Nat} (h : x < a ∨ b < x) : inRange a b x = false := by
  rw [← Bool.not_eq_true, inRange_iff]
  omega

theorem State.inConfig_true (h : s.engine.state = .config) : s.inConfig = true := State.inConfig_iff.mpr h

theorem State.inConfig_false (h : s.engine.state ≠ .config) : s.inConfig = false :=
  Bool.eq_false_iff.mpr fun e => h (State.inConfig_iff.mp e)

end

/-- Settles O14: each form is its checks in order and one entry. -/
theorem trackRecordWrites : Obligations.TrackRecordWrites := by
  unfold Obligations.TrackRecordWrites
  refine ⟨fun k x status => registerOf_eq_some, fun k x rec => trackRecordOf_eq_some, fun q m s holder => ⟨fun k low high => ?_,
    fun k x y outside => ?_⟩⟩
  · have range : inRange 1 64 k = true := inRange_iff.mpr ⟨low, high⟩
    refine ⟨fun x rec config fields => ?_, fun x status rec fields present => ?_, fun config => ?_, fun x run => ⟨?_, ?_⟩,
      fun x config unfit => ?_, fun x unfit => ?_, fun x status fields absent => ?_⟩
    · have effect : tableWriteTrack k x s = done (s.putTrack k (some rec)) := by
        simp [tableWriteTrack, range, s.inConfig_true config, fields]
      obtain ⟨answered, sends, -⟩ := State.controlled_done (code := .tableWrite) holder effect (State.putTrack_queues _)
      exact ⟨_, rfl, answered, sends⟩
    · have effect : tableWriteTrackRegister k x s
          = done (s.putTrack k (some { rec with status := status, room := x.room, alternates := x.alternates })) := by
        simp [tableWriteTrackRegister, range, fields, present]
      obtain ⟨answered, sends, -⟩ := State.controlled_done (code := .tableWrite) holder effect (State.putTrack_queues _)
      exact ⟨_, rfl, answered, _, rfl, sends⟩
    · have effect : tableWriteTrackRemove k s = done (s.putTrack k none) := by
        simp [tableWriteTrackRemove, range, s.inConfig_true config]
      obtain ⟨answered, sends, -⟩ := State.controlled_done (code := .tableWrite) holder effect (State.putTrack_queues _)
      exact ⟨_, rfl, answered, sends⟩
    · exact ⟨_, rfl, State.controlled_unchanged holder (by simp [tableWriteTrack, range, s.inConfig_false run, refuse])⟩
    · exact ⟨_, rfl, State.controlled_unchanged holder (by simp [tableWriteTrackRemove, range, s.inConfig_false run, refuse])⟩
    · exact ⟨_, rfl, State.controlled_unchanged holder (by simp [tableWriteTrack, range, s.inConfig_true config, unfit, refuse])⟩
    · exact ⟨_, rfl, State.controlled_unchanged holder (by simp [tableWriteTrackRegister, range, unfit, refuse])⟩
    · exact ⟨_, rfl, State.controlled_unchanged holder (by simp [tableWriteTrackRegister, range, fields, absent, refuse])⟩
  · have range : inRange 1 64 k = false := inRange_false (by omega)
    exact ⟨⟨_, rfl, State.controlled_unchanged holder (by simp [tableWriteTrack, range, refuse])⟩,
      ⟨_, rfl, State.controlled_unchanged holder (by simp [tableWriteTrackRegister, range, refuse])⟩,
      ⟨_, rfl, State.controlled_unchanged holder (by simp [tableWriteTrackRemove, range, refuse])⟩⟩

/-! ### TABLE_WRITE PARAMETER (R5) -/

/-- The signal station a write sets is a station (R5). -/
theorem Params.write_station {x y : Params} {v : ParameterValue} (e : x.write 3 v = some y) : y.signalStation ≠ 0 := by
  cases v with
  | number n =>
    simp only [Params.write, guardOpt, Option.ite_none_right_eq_some, inRange_iff, Option.some.injEq] at e
    obtain ⟨⟨low, -⟩, rfl⟩ := e
    exact Nat.ne_of_gt low
  | weights | thresholds => simp [Params.write, guardOpt] at e
  | forwarding all => cases all <;> simp [Params.write, guardOpt] at e
  | level kind level => cases kind <;> cases level <;> simp [Params.write, guardOpt] at e

section
variable (x : Params)

theorem Params.write_weights (item a b c d : Nat) : x.write item (.weights a b c d)
    = if item = 7 ∧ (1 ≤ a ∧ a ≤ 255) ∧ b ≤ 255 ∧ c ≤ 255 ∧ d ≤ 255 then some { x with w1 := a, w2 := b, w3 := c, w4 := d }
      else none := by
  simp only [Params.write, guardOpt, Bool.and_eq_true, decide_eq_true_eq, inRange_iff, Nat.zero_le, true_and, and_assoc]

theorem Params.write_thresholds (item a b : Nat) : x.write item (.thresholds a b)
    = if item = 11 ∧ 1 ≤ a ∧ a ≤ b ∧ b ≤ 16 then some { x with slow := a, stop := b } else none := by
  have range : (((item = 11 ∧ 1 ≤ a ∧ a ≤ 16) ∧ 1 ≤ b ∧ b ≤ 16) ∧ a ≤ b) ↔ item = 11 ∧ 1 ≤ a ∧ a ≤ b ∧ b ≤ 16 := by omega
  simp only [Params.write, guardOpt, Bool.and_eq_true, decide_eq_true_eq, inRange_iff, range]

theorem Params.write_forwarding (item : Nat) (all : Option Bool) :
    x.write item (.forwarding all) = if item = 13 then all.map fun v => { x with forwardAll := v } else none := by
  cases all <;> simp [Params.write, guardOpt]

theorem Params.write_level_none {item : Nat} {kind : Option ReportKind} {level : Option Level}
    (h : item ≠ 14 ∨ kind = none ∨ level = none) : x.write item (.level kind level) = none := by
  cases kind with
  | none => cases level <;> rfl
  | some k =>
    cases level with
    | none => rfl
    | some l => simpa [Params.write, guardOpt] using h

/-- A report kind's level is written at its own place. -/
theorem Params.write_level_some (k : ReportKind) (l : Level) : ∃ y, x.write 14 (.level (some k) (some l)) = some y ∧ y.level k = l
    ∧ (∀ j, j ≠ k → y.level j = x.level j) ∧ y = { x with levels := y.levels } := by
  refine ⟨{ x with levels := x.levels.set k.index.val l }, rfl, ?_, fun j other => ?_, rfl⟩
  · simp [Params.level]
  · have apart : k.index.val ≠ j.index.val := fun e => other (by
      revert e
      cases j <;> cases k <;> decide)
    simp [Params.level, Vector.getElem_set_ne, apart]

end

/-- The parameters replaced. -/
def State.putParams (s : State) (x : Params) : State := { s with tables := { s.tables with params := x } }

/-- What the write of an item starts: beside the signal the ports send, and responses and receive buffers stay. -/
theorem State.afterParameter_onlySends (s : State) (item : Nat) :
    OnlySends { s with signal := (s.afterParameter item).signal } (s.afterParameter item) := by
  unfold State.afterParameter
  split
  · exact s.writeDemand_onlySends
  · split
    · exact s.recompute_onlySends
    · exact .refl s

theorem State.afterParameter_queues (s : State) (item : Nat) : Queues s (s.afterParameter item) [] := by
  unfold State.afterParameter
  split
  · exact s.writeDemand_queues
  · split
    · exact s.recompute_queues
    · exact .refl s

/-- Settles O15: an item's check, its write, and the demand it starts. -/
theorem parameterWrites : Obligations.ParameterWrites := by
  unfold Obligations.ParameterWrites
  refine ⟨fun x n => ?_, fun x item a b c d => ⟨x.write_weights .., x.write_thresholds ..⟩,
    fun x item all kind level => ⟨x.write_forwarding .., x.write_level_none, fun k l => ?_⟩, fun q m s item v holder => ⟨?_, ?_, ?_⟩⟩
  · simp only [Params.write, guardOpt, inRange_iff, Nat.zero_le, true_and]
    simp
  · rintro rfl rfl
    exact x.write_level_some k l
  · intro low high gate
    have range : inRange 1 14 item = true := inRange_iff.mpr ⟨low, high⟩
    have open_ : (decide (item ≤ 4) && !s.inConfig) = false := by
      by_cases early : item ≤ 4
      · simp [s.inConfig_true (gate early)]
      · simp [early]
    refine ⟨fun x written => ?_, fun unfit => ?_⟩
    · have effect : controlled (tableWriteParameter item v) m.src.toNat s = done ((s.putParams x).afterParameter item) :=
        (controlled_holder holder.2).trans (by simp [tableWriteParameter, range, open_, written, State.putParams])
      have queues := (s.putParams x).afterParameter_queues item
      have answered := State.handle_answered .tableWrite (controlled (tableWriteParameter item v)) holder.1
        (by rw [effect]; exact queues.responses) (by rw [effect]; exact queues.waiting _)
      have later := State.handle_onlySends .tableWrite (controlled (tableWriteParameter item v)) holder.1
      rw [effect] at answered later
      have sends := ((s.putParams x).afterParameter_onlySends item).trans later
      refine ⟨_, rfl, answered, sends.tables, sends.engine, ⟨sends.clock, sends.wrapped, sends.straps, sends.mgmt, sends.cutList,
        sends.binder, sends.sections, sends.slots, sends.claims⟩, ?_, fun n3 n11 => ?_, ?_, ?_⟩
      · rw [sends.tables]
        exact sends.points
      · rw [sends.tables]
        have none : (s.putParams x).afterParameter item = s.putParams x := by simp [State.afterParameter, n3, n11]
        rw [none] at sends
        exact sends
      · rintro rfl
        have station := Params.write_station written
        refine ⟨?_, ?_⟩
        · rw [sends.signal]
          exact (State.writeDemand_signal (s.putParams x)).trans (if_neg station)
        · have out : ((s.putParams x).afterParameter 3).signalOut ⟨s.signal.demand, x.signalStation⟩ := State.writeDemand_signalOut station
          exact State.signalOut.handle .tableWrite _ holder.1 (by rw [effect]; exact out)
      · rintro rfl
        rw [sends.signal]
        exact State.recompute_demand (s.putParams x)
    · exact ⟨_, rfl, State.controlled_unchanged holder (by simp [tableWriteParameter, range, open_, unfit, refuse])⟩
  · intro low high run
    have range : inRange 1 14 item = true := inRange_iff.mpr ⟨low, by omega⟩
    exact ⟨_, rfl, State.controlled_unchanged holder (by simp [tableWriteParameter, range, high, s.inConfig_false run, refuse])⟩
  · intro outside
    have range : inRange 1 14 item = false := inRange_false (by omega)
    exact ⟨_, rfl, State.controlled_unchanged holder (by simp [tableWriteParameter, range, refuse])⟩

/-! ### TABLE_WRITE POINT (R2) -/

theorem Upstream.ok_iff {p : Nat} {u : Upstream} : u.ok p = true ↔ ∀ q leg, u = .parent q leg → 1 ≤ q ∧ q ≤ 63 ∧ q ≠ p := by
  cases u <;> simp [Upstream.ok, inRange_iff, and_assoc]

theorem Branch.ok_iff {p : Nat} {b : Branch} : b.ok p = true
    ↔ (∀ q, b = .point q → 1 ≤ q ∧ q ≤ 63 ∧ q ≠ p) ∧ ∀ k, b = .track k → 1 ≤ k ∧ k ≤ 64 := by
  cases b <;> simp [Branch.ok, inRange_iff, and_assoc]

/-- The numbers of a point record are in their ranges, and the conditions between them hold (R2). -/
def FieldsFit (x : PointFields) : Prop :=
  (∀ d ∈ [x.guardIn, x.leftOut, x.rightOut], 1 ≤ d ∧ d ≤ 254) ∧ [x.guardIn, x.leftOut, x.rightOut].Nodup ∧ 300 ≤ x.guardLength
    ∧ x.guardLength ≤ 6000 ∧ 100 ≤ x.linkLength ∧ x.linkLength ≤ 65535 ∧ 1 ≤ x.machine ∧ x.machine ≤ 254 ∧ 200 ≤ x.nominal
    ∧ x.nominal ≤ 3000 ∧ 100 ≤ x.tMin ∧ x.tMin ≤ x.nominal ∧ x.nominal ≤ x.tMax ∧ x.tMax ≤ 4000 ∧ x.deglitch ≤ 700
    ∧ x.deglitch % 100 = 0 ∧ x.retryLimit ≤ 3 ∧ 100 ≤ x.retryDelay ∧ x.retryDelay ≤ 2000

theorem fieldsFit_iff {x : PointFields} : (x.numbersOk && x.conditionsOk) = true ↔ FieldsFit x := by
  simp only [PointFields.numbersOk, PointFields.conditionsOk, FieldsFit, Bool.and_eq_true, inRange_iff, decide_eq_true_eq,
    forall_eq_or_imp, forall_eq, List.nodup_cons, List.mem_cons, List.not_mem_nil, or_false, not_or, List.nodup_nil,
    not_false_eq_true, and_true]
  omega

/-- The record that a write's fields give, when they pass the checks of R2. -/
theorem pointRecordOf_eq_some {p : Nat} {x : PointFields} {rec : PointRecord} : pointRecordOf p x = some rec ↔
    x.upstream = some rec.upstream ∧ x.left = some rec.left ∧ x.right = some rec.right ∧ x.response = some rec.response
      ∧ rec = ⟨rec.upstream, rec.left, rec.right, x.guardIn, x.leftOut, x.rightOut, x.guardLength, x.linkLength, x.machine,
          x.nominal, x.tMin, x.tMax, x.deglitch, rec.response, x.retryLimit, x.retryDelay⟩
      ∧ rec.upstream.ok p = true ∧ rec.left.ok p = true ∧ rec.right.ok p = true ∧ rec.left ≠ rec.right ∧ FieldsFit x := by
  unfold pointRecordOf
  split
  · rename_i up l r resp hup hl hr hresp
    rw [Option.ite_none_right_eq_some, Bool.and_assoc, Bool.and_eq_true, fieldsFit_iff, Option.some.injEq, hup, hl, hr, hresp]
    simp only [Bool.and_eq_true, decide_eq_true_eq, Option.some.injEq]
    constructor
    · rintro ⟨⟨⟨⟨⟨okUp, okL⟩, okR⟩, differ⟩, fit⟩, rfl⟩
      exact ⟨rfl, rfl, rfl, rfl, rfl, okUp, okL, okR, differ, fit⟩
    · rintro ⟨rfl, rfl, rfl, rfl, e, okUp, okL, okR, differ, fit⟩
      exact ⟨⟨⟨⟨⟨okUp, okL⟩, okR⟩, differ⟩, fit⟩, e.symm⟩
  · rename_i none
    refine ⟨nofun, fun ⟨hup, hl, hr, hresp, _⟩ => ?_⟩
    exact (none _ _ _ _ hup hl hr hresp).elim

/-- The branches of a record pass the checks on branches, leg by leg. -/
theorem PointRecord.branches_ok {p : Nat} {rec : PointRecord} : rec.left.ok p = true ∧ rec.right.ok p = true
    ↔ (∀ leg q, rec.branch leg = .point q → 1 ≤ q ∧ q ≤ 63 ∧ q ≠ p) ∧ ∀ leg k, rec.branch leg = .track k → 1 ≤ k ∧ k ≤ 64 := by
  rw [Branch.ok_iff, Branch.ok_iff]
  constructor
  · rintro ⟨⟨lp, lt⟩, rp, rt⟩
    exact ⟨fun leg => by cases leg <;> [exact lp; exact rp], fun leg => by cases leg <;> [exact lt; exact rt]⟩
  · rintro ⟨points, tracks⟩
    exact ⟨⟨points .left, tracks .left⟩, points .right, tracks .right⟩

/-- The points FAILED, counted by point id. -/
theorem State.countFailed_eq (s : State) : s.countFailed = (ids 63).countP fun p => decide ((s.pt p).state = .failed) := by
  have table : s.points.toList = (ids 63).map s.pt := by
    refine List.ext_getElem (by simp [ids]) fun i h1 h2 => ?_
    have : i + 1 ≤ 63 := by simpa using h1
    simp [ids, State.pt, readAt, this]
  rw [State.countFailed, table, List.countP_map]
  rfl

/-- The start of transmission of a THROW leaves a point FAILED or not. -/
theorem OnlySends.countFailed {s t : State} (h : OnlySends s t) : t.countFailed = s.countFailed := by
  rw [State.countFailed_eq, State.countFailed_eq]
  refine List.countP_congr fun p _ => ?_
  have started (r : PointRuntime) (now : Clock) (T A : Nat) : (r.started now T A).state = .failed ↔ r.state = .failed := by
    cases hs : r.state <;> simp [PointRuntime.started, hs]
  rcases h.points p with e | e <;> simp [e, started]

section
variable {s : State}

/-- In CONFIG a change of the cause set is reported, and moves nothing else (R131, R132). -/
theorem State.changeCauses_config (config : s.engine.state = .config) (x : Causes) (ev : EngineEvent) :
    OnlySends { s with engine := { s.engine with causes := x } } (s.changeCauses x ev)
      ∧ Rests s (s.changeCauses x ev)
      ∧ Queues s (s.changeCauses x ev) (if x = s.engine.causes then [] else [.engineState s.engine.state x ev]) := by
  have settled : ({ s.engine with causes := x } : EngineControl).settledState = s.engine.state := by
    simp [EngineControl.settledState, config]
  unfold State.changeCauses
  split
  · rename_i same
    rw [same]
    exact ⟨.refl s, .of_same rfl rfl, .refl s⟩
  · simp only [settled, if_true]
    refine ⟨State.offer_onlySends _ _, .trans ?_ (State.offer_rests _ _), .after ?_ (State.offer_queues _ _)⟩
    · exact .of_same rfl rfl
    · exact .of_same rfl rfl rfl rfl rfl rfl rfl

/-- What a write or removal of a point's record leaves: the record and its runtime record, and engine control's count (R2, R102, R136). -/
theorem State.putPoint_writes (p : Nat) (config : s.engine.state = .config) (rec : Option PointRecord) :
    OnlySends { s.rewriteRecord p rec with engine := (s.putPoint p rec).engine } (s.putPoint p rec)
      ∧ Rests (s.rewriteRecord p rec) (s.putPoint p rec) ∧ (s.putPoint p rec).engine.state = .config
      ∧ (s.putPoint p rec).engine.failed = (s.putPoint p rec).countFailed
      ∧ Queues s (s.putPoint p rec) (causesReport s (s.putPoint p rec)
          (if (s.putPoint p rec).engine.failed = 0 then .causeCleared .pointFailed else .causeSet .pointFailed)) := by
  have configTold : (s.rewriteRecord p rec).countTold.engine.state = .config := config
  obtain ⟨sends, rests, queues⟩ := State.changeCauses_config configTold
    ((s.rewriteRecord p rec).engine.causesTold (s.rewriteRecord p rec).countFailed)
    (if (s.rewriteRecord p rec).countFailed = 0 then .causeCleared .pointFailed else .causeSet .pointFailed)
  rw [State.putPoint_eq, State.tellFailed]
  generalize (s.rewriteRecord p rec).countTold.changeCauses _ _ = t at sends rests queues ⊢
  have engine : t.engine = ⟨s.engine.state, (s.rewriteRecord p rec).engine.causesTold (s.rewriteRecord p rec).countFailed,
      (s.rewriteRecord p rec).countFailed⟩ := sends.engine
  have counted : t.countFailed = (s.rewriteRecord p rec).countFailed := sends.countFailed
  refine ⟨?_, .trans ?_ rests, by rw [engine]; exact config, by rw [counted, engine], ?_⟩
  · rw [engine]
    exact sends
  · exact .of_same rfl rfl
  · simp only [causesReport, engine]
    refine Queues.after ?_ queues
    exact .of_same rfl rfl rfl rfl rfl rfl rfl

/-- A write or a removal of a point's record, carried out. -/
theorem State.putPoint_done {q : Req} {m : Telegram} {p : Nat} {rec : Option PointRecord} {f : State → State × Answer}
    (holder : s.fromHolder q m) (range : 1 ≤ p ∧ p ≤ 63) (config : s.engine.state = .config) (effect : f s = done (s.putPoint p rec)) :
    ∃ t, t = s.handle q .tableWrite (controlled f) ∧ Answered s t q m .tableWrite (.done .plain)
      ∧ t.tables = { s.tables with points := writeAt s.tables.points p rec }
      ∧ Rewritten s t p (rec.map PointRecord.nominal) ∧ t.engine.state = .config ∧ t.engine.failed = t.countFailed
      ∧ Reported s t (causesReport s t (if t.engine.failed = 0 then .causeCleared .pointFailed else .causeSet .pointFailed))
      ∧ (∀ k, k ≠ p → t.pt k = s.pt k ∨ t.pt k = (s.pt k).started s.clock ((s.pt k).throwTime k) s.tables.params.allowance)
      ∧ SameYard s t := by
  obtain ⟨written, rested, state, failed, queues⟩ := State.putPoint_writes p config rec
  obtain ⟨answered, later, offers⟩ := State.controlled_done (code := .tableWrite) holder effect queues
  have rests := State.handle_rests .tableWrite (controlled f) holder.1
  rw [(controlled_holder holder.2).trans effect] at rests
  have sends := written.trans later
  have rests := rested.trans rests
  have unknown : ((s.rewriteRecord p rec).pt p) = (s.pt p).rewritten s.moments (rec.map PointRecord.nominal) := by
    rw [State.rewriteRecord]
    exact State.pt_setPt_self _ _ _ range
  refine ⟨_, rfl, answered, sends.tables, ?_, ?_, ?_, ?_, fun k other => ?_, sends.clock, sends.wrapped, sends.straps, sends.mgmt,
    sends.cutList, sends.binder, sends.sections, sends.slots, sends.claims⟩
  · unfold Rewritten
    rw [rests.unknown p (by rw [unknown]; rfl), unknown]
    refine ⟨rfl, rfl, rfl, rfl, rfl, rfl, rfl, rfl, rfl, rfl, rfl, fun c mem => ?_⟩
    exact State.dropThrow_none (s := s) p c (rests.commands.mem mem)
  · rw [later.engine]
    exact state
  · rw [later.engine, later.countFailed]
    exact failed
  · have same : causesReport s (s.handle q .tableWrite (controlled f)) = causesReport s (s.putPoint p rec) := by
      funext ev
      simp only [causesReport, later.engine]
    rw [same, later.engine]
    exact offers.reported
  · have old : (s.rewriteRecord p rec).pt k = s.pt k := State.pt_setPt_ne _ _ other
    have := sends.points k
    change _ = (s.rewriteRecord p rec).pt k ∨ _ = ((s.rewriteRecord p rec).pt k).started s.clock
      (((s.rewriteRecord p rec).pt k).throwTime k) s.tables.params.allowance at this
    rwa [old] at this

end

/-- Settles O13: the checks of R2 as they stand, and the write as a record, its runtime record and engine control's count. -/
theorem pointRecordWrites : Obligations.PointRecordWrites := by
  unfold Obligations.PointRecordWrites
  refine ⟨fun p x rec => ?_, fun q m s p x holder => ⟨fun low high config => ?_, fun low high run => ?_, fun outside => ?_⟩⟩
  · rw [pointRecordOf_eq_some, Upstream.ok_iff]
    have branches := PointRecord.branches_ok (p := p) (rec := rec)
    constructor
    · rintro ⟨h1, h2, h3, h4, h5, up, l, r, differ, fit⟩
      obtain ⟨points, tracks⟩ := branches.mp ⟨l, r⟩
      exact ⟨h1, h2, h3, h4, h5, up, points, tracks, differ, fit⟩
    · rintro ⟨h1, h2, h3, h4, h5, up, points, tracks, differ, fit⟩
      obtain ⟨l, r⟩ := branches.mpr ⟨points, tracks⟩
      exact ⟨h1, h2, h3, h4, h5, up, l, r, differ, fit⟩
  · have range : inRange 1 63 p = true := inRange_iff.mpr ⟨low, high⟩
    refine ⟨fun rec fields => ?_, fun unfit => ?_, fun present => ?_, fun absent => ?_⟩
    · have effect : tableWritePoint p x s = done (s.putPoint p (some rec)) := by
        simp [tableWritePoint, range, s.inConfig_true config, fields]
      obtain ⟨_, rfl, written⟩ := State.putPoint_done holder ⟨low, high⟩ config effect
      exact ⟨_, rfl, written⟩
    · exact ⟨_, rfl, State.controlled_unchanged holder (by simp [tableWritePoint, range, s.inConfig_true config, unfit, refuse])⟩
    · have effect : tableWritePointRemove p s = done (s.putPoint p none) := by
        simp [tableWritePointRemove, range, s.inConfig_true config, present]
      obtain ⟨_, rfl, removed⟩ := State.putPoint_done holder ⟨low, high⟩ config effect
      exact ⟨_, rfl, removed⟩
    · exact ⟨_, rfl, State.controlled_unchanged holder (by
        simp [tableWritePointRemove, range, s.inConfig_true config, absent, done])⟩
  · have range : inRange 1 63 p = true := inRange_iff.mpr ⟨low, high⟩
    exact ⟨⟨_, rfl, State.controlled_unchanged holder (by simp [tableWritePoint, range, s.inConfig_false run, refuse])⟩,
      ⟨_, rfl, State.controlled_unchanged holder (by simp [tableWritePointRemove, range, s.inConfig_false run, refuse])⟩⟩
  · have range : inRange 1 63 p = false := inRange_false (by omega)
    exact ⟨⟨_, rfl, State.controlled_unchanged holder (by simp [tableWritePoint, range, refuse])⟩,
      ⟨_, rfl, State.controlled_unchanged holder (by simp [tableWritePointRemove, range, refuse])⟩⟩

end Sys2Proof.Machine

/-! START: its checks, what it derives, and the engine state it enters (R11, R12, R132 to R134). -/

namespace Sys2Proof.Machine

/-- START once its checks pass (R133, R134). -/
theorem start_passed {s : State} (config : s.engine.state = .config) (table : s.tableCheck = none) (sections : s.sectionCheck = none) :
    start s = done (s.started.enterEngine .start) := by
  simp [start, s.inConfig_true config, table, sections, State.startEngine_eq]

/-- The engine and the tables as START sets them, before the report. -/
theorem State.started_queues (s : State) : Queues s (s.started.enterEngine .start)
    [.engineState s.started.engine.state s.started.engine.causes .start] := by
  refine Queues.after ?_ (State.enterEngine_queues s.started .start)
  exact .of_same rfl rfl rfl rfl rfl rfl rfl

/-- Settles O23: the checks in order, and what START derives of a table that passes. -/
theorem startCompletes : Obligations.StartCompletes := by
  unfold Obligations.StartCompletes
  refine fun q m s holder => ⟨fun config table sections => ?_, fun run => ?_, fun x config fault => ?_, fun id config table disturbed => ?_⟩
  · obtain ⟨answered, later, offers⟩ := State.controlled_done (code := .start) holder (start_passed config table sections)
      s.started_queues
    have sends := (State.enterEngine_onlySends s.started .start).trans later
    have joint (d : Nat) : (s.handle q .start (controlled start)).joint d = s.derive.joint d := by
      rw [State.joint, sends.tables]
      rfl
    have engine : (s.handle q .start (controlled start)).engine = s.started.engine := sends.engine
    refine ⟨_, rfl, answered, by rw [sends.tables]; rfl, by rw [sends.tables]; rfl, by rw [sends.tables]; rfl,
      by rw [sends.tables]; rfl, by rw [sends.tables]; rfl, fun d c low high at_ => ?_, fun d unused => ?_, fun p present => ?_,
      fun k present => ?_, ?_, ?_, ⟨sends.clock, sends.wrapped, sends.straps, sends.mgmt, sends.cutList, sends.binder, sends.sections,
        sends.slots, sends.claims⟩, sends.points, ?_⟩
    · rw [joint]
      exact State.derive_joint_complete table low high at_
    · rw [joint, Option.eq_none_iff_forall_ne_some]
      exact fun j e => unused _ (State.derive_joint_sound e).1
    · rw [State.pointPath, sends.tables]
      exact State.derive_pointPath_downTo table present
    · rw [State.trackPath, sends.tables]
      exact State.derive_trackPath_downTo table present
    · rw [engine]
      simp only [State.started, Causes.none, decide_eq_true_eq]
    · rw [later.signal, later.demandNow]
      exact State.enterEngine_demand _ _
    · rw [engine]
      exact offers.reported
  · exact ⟨_, rfl, State.controlled_unchanged holder (by simp [start, s.inConfig_false run, refuse])⟩
  · exact ⟨_, rfl, State.controlled_unchanged holder (by simp [start, s.inConfig_true config, fault, refuse])⟩
  · exact ⟨_, rfl, State.controlled_unchanged holder (by simp [start, s.inConfig_true config, table, disturbed, refuse])⟩

end Sys2Proof.Machine

/-! Route resolution (R7, R13, R15 to R20): reserved counts, candidates, targets, the lie walk and retargeting. -/

namespace Sys2Proof.Machine

/-- The entries of a table in the order of their ids. -/
theorem toList_eq_map_ids {α : Type} {n : Nat} (v : Vector α n) (d : α) : v.toList = (ids n).map fun i => readAt v d i := by
  refine List.ext_getElem (by simp [ids]) fun i h1 h2 => ?_
  have : i + 1 ≤ n := by simpa using h1
  simp [ids, readAt, this]

/-! ### Availability (R13, R15) -/

theorem State.available_iff {s : State} {t n : Nat} :
    s.available t n = true ↔ ∃ r, s.trackRecord t = some r ∧ r.status = .opened ∧ s.reserved t + n ≤ r.room := by
  simp [State.available, Option.any_eq_true]

theorem State.reserved_eq (s : State) (t : Nat) : s.reserved t = min 4095 (((ids 16).map fun i => match s.slot i with
    | some x => if x.target = some t then x.reservation else 0
    | none => 0).sum) := by
  rw [State.reserved, toList_eq_map_ids s.slots none, List.map_map]
  congr 3
  funext i
  change (match s.slot i with | none => 0 | some x => if x.target = some t then x.reservation else 0) = _
  cases s.slot i <;> rfl

/-- The alternates of a present track are those of its record. -/
theorem State.alternates_eq {s : State} {t : Nat} {r : TrackRecord} (h : s.trackRecord t = some r) : s.alternates t = r.alternates := by
  simp [State.alternates, h]

/-- What holds of no alternate of a track's record holds of none of its alternates. -/
theorem State.forall_alternates {s : State} {t : Nat} {P : Nat → Prop} (h : ∀ r, s.trackRecord t = some r → ∀ j ∈ r.alternates, P j) :
    ∀ j ∈ s.alternates t, P j := by
  intro j m
  cases e : s.trackRecord t with
  | none => simp [State.alternates, e] at m
  | some r => exact h r e j (State.alternates_eq e ▸ m)

/-! ### The first that meets a test -/

theorem find?_first {α : Type} {P : α → Bool} {a b : List α} {k : α} (before : ∀ j ∈ a, P j = false) (here : P k = true) :
    (a ++ k :: b).find? P = some k :=
  List.find?_eq_some_iff_append.mpr ⟨here, a, b, rfl, fun j m => by simp [before j m]⟩

/-! ### Candidates (R7, R16) -/

/-- The patch entry at an index. -/
def State.patchEntry (s : State) (k : Nat) : Patch := readAt s.tables.patches ⟨false, 0, 0, 0⟩ k

/-- The lowest-indexed enabled patch entry for a code is the one that patch resolution takes. -/
theorem State.patchFor_eq_some {s : State} {code k : Nat} (low : 1 ≤ k) (high : k ≤ 8) (enabled : (s.patchEntry k).enabled = true)
    (dest : (s.patchEntry k).destination = code)
    (first : ∀ j, 1 ≤ j → j < k → (s.patchEntry j).enabled = true → (s.patchEntry j).destination ≠ code) :
    s.patchFor code = some k := by
  cases found : s.patchFor code with
  | none =>
    have := List.find?_eq_none.mp found k (mem_ids.mpr ⟨low, high⟩)
    exact absurd (Bool.and_eq_true_iff.mpr ⟨enabled, decide_eq_true dest⟩) this
  | some j =>
    obtain ⟨mem, test, least⟩ := find?_ascending (key := id) (ids_ascending 8) found
    have below : j ≤ k := least k (mem_ids.mpr ⟨low, high⟩) (Bool.and_eq_true_iff.mpr ⟨enabled, decide_eq_true dest⟩)
    obtain ⟨on, code'⟩ := Bool.and_eq_true_iff.mp test
    rcases Nat.lt_or_eq_of_le below with lt | rfl
    · exact absurd (of_decide_eq_true code') (first j (mem_ids.mp mem).1 lt on)
    · rfl

theorem State.patchFor_eq_none {s : State} {code : Nat}
    (none : ∀ k, 1 ≤ k → k ≤ 8 → (s.patchEntry k).enabled = true → (s.patchEntry k).destination ≠ code) : s.patchFor code = .none := by
  refine List.find?_eq_none.mpr fun k m test => ?_
  obtain ⟨on, dest⟩ := Bool.and_eq_true_iff.mp test
  obtain ⟨low, high⟩ := mem_ids.mp m
  exact none k low high on (of_decide_eq_true dest)

/-- An enabled entry drawn upon: a limited one loses a use, and is disabled by its last. -/
theorem Patch.drawn_eq {e : Patch} (enabled : e.enabled = true) :
    e.drawn = ⟨decide (e.uses ≠ 1), e.destination, e.track, e.uses - 1⟩ := by
  obtain ⟨on, dest, track, uses⟩ := e
  cases enabled
  unfold Patch.drawn
  split
  · rename_i zero
    cases zero
    rfl
  · rfl

/-- The candidate of a record by a patch entry. -/
theorem State.candidate_patched {s : State} {r : CutRecord} {code k : Nat} (route : r.route = .destination code)
    (found : s.patchFor code = some k) (enabled : (s.patchEntry k).enabled = true) (dest : (s.patchEntry k).destination = code) :
    s.candidate r = ((s.patchEntry k).track, { s with tables := { s.tables with
      patches := writeAt s.tables.patches k
        ⟨decide ((s.patchEntry k).uses ≠ 1), code, (s.patchEntry k).track, (s.patchEntry k).uses - 1⟩ } }) := by
  subst dest
  rw [← Patch.drawn_eq enabled]
  simp only [State.candidate, route, found]
  rfl

/-- The candidate of a record by the route table. -/
theorem State.candidate_routed {s : State} {r : CutRecord} {code : Nat} (route : r.route = .destination code)
    (none : s.patchFor code = .none) :
    s.candidate r = (if s.routeEntry code = 0 then s.tables.params.rejectTrack else s.routeEntry code, s) := by
  simp only [State.candidate, route, none]

/-! ### Targets (R17) -/

theorem State.chooseTarget_candidate {s : State} {c n : Nat} {noAlternate : Bool} (h : s.available c n = true) :
    s.chooseTarget c n noAlternate = (c, false) := by
  rw [State.chooseTarget, if_pos h]

theorem State.chooseTarget_alternate {s : State} {c n k : Nat} {x : TrackRecord} {a b : List Nat} (full : s.available c n = false)
    (hx : s.trackRecord c = some x) (at_ : x.alternates = a ++ k :: b) (room : s.available k n = true)
    (before : ∀ j ∈ a, s.available j n = false) : s.chooseTarget c n false = (k, false) := by
  have found : (s.alternates c).find? (fun t => s.available t n) = some k := by
    rw [State.alternates_eq hx, at_]
    exact find?_first before room
  simp [State.chooseTarget, full, found]

theorem State.chooseTarget_reject {s : State} {c n : Nat} {noAlternate : Bool} (full : s.available c n = false)
    (none : noAlternate = true ∨ ∀ x, s.trackRecord c = some x → ∀ j ∈ x.alternates, s.available j n = false) :
    s.chooseTarget c n noAlternate = (s.tables.params.rejectTrack, !s.available s.tables.params.rejectTrack n) := by
  have found : (if noAlternate then [] else s.alternates c).find? (fun t => s.available t n) = .none := by
    rcases none with rfl | none
    · rfl
    · cases noAlternate
      · exact List.find?_eq_none.mpr fun j m => by simp [State.forall_alternates none j m]
      · rfl
  simp only [State.chooseTarget, full, found, Bool.false_eq_true, if_false]

/-! ### The lie walk (R19) -/

/-- What the lie walk answers where it ends. -/
def Walk.ending (pairs : Path) : Branch → Walk
  | .track t => .track t
  | .point q => .stopped q pairs

/-- The lie walk follows the present ends, given fuel for its pairs. -/
theorem State.lieWalk_of_liesTo {s : State} {b fin : Branch} {pairs : Path} (lies : LiesTo s b pairs fin) {n : Nat} (front : Path)
    (fuel : pairs.length ≤ n) : s.lieWalk n b front = Walk.ending (front ++ pairs) fin := by
  induction lies generalizing n front with
  | track t => cases n <;> rfl
  | stops q none => cases n <;> simp [State.lieWalk, none, Walk.ending]
  | passes q e r pairs fin lie hr _ ih =>
    obtain ⟨n, rfl⟩ := Nat.exists_eq_succ_of_ne_zero (Nat.ne_of_gt (Nat.lt_of_lt_of_le (Nat.succ_pos _) fuel))
    rw [State.lieWalk, lie, hr]
    simp only
    rw [ih (front ++ [(q, e)]) (Nat.le_of_succ_le_succ fuel), List.append_assoc]
    rfl

/-! ### Retargeting (R18) -/

theorem passes_iff {path : Path} {p : Nat} {leg : Leg} : passes path p leg = true ↔ (p, leg) ∈ path := by
  simp [passes]

/-- A track that the leg leads to, available to the cut (R18). -/
def State.reaches (s : State) (n p : Nat) (leg : Leg) (t : Nat) : Bool := passes (s.trackPath t) p leg && s.available t n

theorem State.reaches_iff {s : State} {n p : Nat} {leg : Leg} {t : Nat} :
    s.reaches n p leg t = true ↔ (p, leg) ∈ s.trackPath t ∧ s.available t n = true := by
  rw [State.reaches, Bool.and_eq_true_iff, passes_iff]

theorem State.reaches_eq_false {s : State} {n p : Nat} {leg : Leg} {t : Nat}
    (h : (p, leg) ∈ s.trackPath t → s.available t n = false) : s.reaches n p leg t = false :=
  Bool.eq_false_iff.mpr fun e => by
    obtain ⟨on, free⟩ := State.reaches_iff.mp e
    rw [h on] at free
    cases free

section
variable {s : State} {x : Slot} {p : Nat} {leg : Leg}

theorem State.retarget_alternate {t k : Nat} {r : TrackRecord} {a b : List Nat} (may : x.noAlternate = false) (target : x.target = some t)
    (hr : s.trackRecord t = some r) (at_ : r.alternates = a ++ k :: b) (on : (p, leg) ∈ s.trackPath k)
    (room : s.available k x.expected = true) (before : ∀ j ∈ a, (p, leg) ∈ s.trackPath j → s.available j x.expected = false) :
    s.retarget x p leg = .track k false := by
  have found : ((x.target.map s.alternates).getD []).find? (s.reaches x.expected p leg) = some k := by
    rw [target, Option.map_some, Option.getD_some, State.alternates_eq hr, at_]
    exact find?_first (fun j m => State.reaches_eq_false (before j m)) (State.reaches_iff.mpr ⟨on, room⟩)
  have open_ : (if x.noAlternate then [] else ((x.target.map s.alternates).getD [])) = (x.target.map s.alternates).getD [] := by
    simp [may]
  simp only [State.retarget, open_]
  rw [show ((x.target.map s.alternates).getD []).find? (fun t => passes (s.trackPath t) p leg && s.available t x.expected) = some k
    from found]

/-- No alternate takes the cut: the reject track does where the leg leads to it and it is available, and the lie walk decides
otherwise. -/
theorem State.retarget_otherwise (none : x.noAlternate = true ∨ (∀ t r, x.target = some t → s.trackRecord t = some r →
      ∀ j ∈ r.alternates, (p, leg) ∈ s.trackPath j → s.available j x.expected = false)) :
    s.retarget x p leg = if s.reaches x.expected p leg s.tables.params.rejectTrack then .track s.tables.params.rejectTrack false
      else s.walkTarget x.expected (s.lieWalkFrom p leg) := by
  have found : (if x.noAlternate then [] else ((x.target.map s.alternates).getD [])).find?
      (fun t => passes (s.trackPath t) p leg && s.available t x.expected) = .none := by
    rcases none with e | none
    · simp [e]
    · refine List.find?_eq_none.mpr fun j m test => ?_
      have bad : s.reaches x.expected p leg j = false := by
        refine State.reaches_eq_false ?_
        cases target : x.target with
        | none => simp [target] at m
        | some t =>
          have m : j ∈ s.alternates t := by
            split at m
            · cases m
            · simpa [target] using m
          exact State.forall_alternates (P := fun j => (p, leg) ∈ s.trackPath j → s.available j x.expected = false)
            (fun r hr => none t r target hr) j m
      exact Bool.false_ne_true (bad.symm.trans test)
  simp only [State.retarget, found]
  rfl

end

/-- Settles O35, function by function. -/
theorem routesAreResolved : Obligations.RoutesAreResolved := by
  unfold Obligations.RoutesAreResolved
  refine ⟨fun s t => ⟨(s.reserved_eq t).trans ?_, fun n => State.available_iff⟩, fun s r => ⟨fun k route => ?_, fun code route => ⟨?_, ?_⟩⟩,
    fun s c n noAlternate => ⟨State.chooseTarget_candidate, fun full => ⟨?_, State.chooseTarget_reject full⟩⟩, fun s p => ?_,
    fun s p leg r pairs fin hr lies short => ?_, fun s x p leg => ⟨?_, fun none => ⟨fun on room => ?_, fun closed => ?_⟩⟩⟩
  · rfl
  · simp only [State.candidate, route]
  · rintro k e low high rfl enabled dest first
    exact ⟨_, rfl, State.candidate_patched route (State.patchFor_eq_some low high enabled dest first) enabled dest⟩
  · exact fun none => State.candidate_routed route (State.patchFor_eq_none none)
  · rintro x a k b rfl hx at_ room before
    exact State.chooseTarget_alternate full hx at_ room before
  · unfold PointRuntime.lieEnd
    cases (s.pt p).state <;> rfl
  · have branch : s.branch p leg = some (r.branch leg) := by simp [State.branch, hr]
    simp only [State.lieWalkFrom, branch]
    rw [State.lieWalk_of_liesTo lies [] (short.trans (by decide))]
    cases fin <;> rfl
  · exact fun t r a k b may target hr at_ on room before => State.retarget_alternate may target hr at_ on room before
  · rw [State.retarget_otherwise none, if_pos (State.reaches_iff.mpr ⟨on, room⟩)]
  · rw [State.retarget_otherwise none, State.reaches_eq_false closed]
    cases s.lieWalkFrom p leg <;> rfl

end Sys2Proof.Machine

/-! SUPPORT. Re-evaluation of points: what it leaves as it was, and how the points then stand (R105 to R109). -/

namespace Sys2Proof.Machine

/-! ### Steps that reach the link interface, the points and the report queue alone -/

/-- Every block but the link interface, the points and the report queue is as it was. -/
def Quiet (s t : State) : Prop := ∃ link points reports, t = { s with link := link, points := points, reports := reports }

theorem Quiet.refl (s : State) : Quiet s s := ⟨s.link, s.points, s.reports, rfl⟩

theorem Quiet.trans {s t u : State} (h : Quiet s t) (k : Quiet t u) : Quiet s u := by
  obtain ⟨_, _, _, rfl⟩ := h
  obtain ⟨l, p, r, rfl⟩ := k
  exact ⟨l, p, r, rfl⟩

theorem OnlySends.quiet {s t : State} (h : OnlySends s t) : Quiet s t := by
  refine ⟨t.link, t.points, t.reports, ?_⟩
  obtain ⟨clock, wrapped, straps, link, mgmt, tables, cutList, binder, sections, slots, points, claims, signal, engine, reports, moments,
    pending⟩ := t
  cases h.clock
  cases h.wrapped
  cases h.straps
  cases h.mgmt
  cases h.tables
  cases h.cutList
  cases h.binder
  cases h.sections
  cases h.slots
  cases h.claims
  cases h.signal
  cases h.engine
  cases h.moments
  cases h.pending
  rfl

theorem Quiet.setPt (s : State) (p : Nat) (r : PointRuntime) : Quiet s (s.setPt p r) := ⟨_, _, _, rfl⟩

theorem State.select_quiet (s : State) (p : Port) : Quiet s (s.select p) := (s.select_onlySends p).quiet

theorem State.offer_quiet (s : State) (b : ReportBody) : Quiet s (s.offer b) := (s.offer_onlySends b).quiet

theorem State.placeThrow_quiet (s : State) (p : Nat) (leg : Leg) (reason : ThrowReason) : Quiet s (s.placeThrow p leg reason) := by
  refine .trans ?_ (State.select_quiet _ .t)
  exact ⟨_, _, _, rfl⟩

theorem State.evaluateAtRest_quiet (s : State) (p : Nat) : Quiet s (s.evaluateAtRest p) := by
  unfold State.evaluateAtRest
  split
  · exact s.placeThrow_quiet ..
  · exact .refl s

theorem State.withdraw_quiet (s : State) (p : Nat) : Quiet s (s.withdraw p) := by
  unfold State.withdraw
  split
  · exact ⟨_, _, _, rfl⟩
  · exact .refl s

theorem State.reevaluate_quiet (s : State) (p : Nat) : Quiet s (s.reevaluate p) := by
  unfold State.reevaluate
  split
  · exact s.evaluateAtRest_quiet p
  · split
    · exact (s.withdraw_quiet p).trans (State.evaluateAtRest_quiet _ p)
    · exact .refl s
  · exact .refl s

theorem State.reevaluateAll_quiet (s : State) (l : List Nat) : Quiet s (s.reevaluateAll l) := by
  induction l generalizing s with
  | nil => exact .refl s
  | cons p l ih => exact (s.reevaluate_quiet p).trans (ih _)

theorem State.withdrawn_quiet (s : State) (p : Nat) : Quiet s (s.withdrawn p) :=
  (s.withdraw_quiet p).trans (State.reevaluate_quiet _ p)

/-! ### They offer nothing -/

theorem Offers.refl (s : State) : Offers s s [] := .of_same rfl rfl rfl rfl rfl

/-- Nothing is offered after. -/
theorem Offers.before {s t u : State} {a : List ReportBody} (h : Offers s t a) (k : Offers t u []) : Offers s u a := by
  have := h.trans k
  rwa [List.append_nil] at this

/-- Nothing is offered before. -/
theorem Offers.after {s t u : State} {b : List ReportBody} (h : Offers s t []) (k : Offers t u b) : Offers s u b := h.trans k

theorem State.placeThrow_offers (s : State) (p : Nat) (leg : Leg) (reason : ThrowReason) : Offers s (s.placeThrow p leg reason) [] := by
  refine .after ?_ (State.select_offers _ .t)
  exact .of_same rfl rfl rfl rfl rfl

theorem State.evaluateAtRest_offers (s : State) (p : Nat) : Offers s (s.evaluateAtRest p) [] := by
  unfold State.evaluateAtRest
  split
  · exact s.placeThrow_offers ..
  · exact .refl s

theorem State.withdraw_offers (s : State) (p : Nat) : Offers s (s.withdraw p) [] := by
  unfold State.withdraw
  split
  · exact .of_same rfl rfl rfl rfl rfl
  · exact .refl s

theorem State.reevaluate_offers (s : State) (p : Nat) : Offers s (s.reevaluate p) [] := by
  unfold State.reevaluate
  split
  · exact s.evaluateAtRest_offers p
  · split
    · exact (s.withdraw_offers p).after (State.evaluateAtRest_offers _ p)
    · exact .refl s
  · exact .refl s

theorem State.reevaluateAll_offers (s : State) (l : List Nat) : Offers s (s.reevaluateAll l) [] := by
  induction l generalizing s with
  | nil => exact .refl s
  | cons p l ih => exact (s.reevaluate_offers p).after (ih _)

theorem State.withdrawn_offers (s : State) (p : Nat) : Offers s (s.withdrawn p) [] :=
  (s.withdraw_offers p).after (State.reevaluate_offers _ p)

/-! ### Points left alone -/

/-- The runtime record is that one, or as the start of transmission of its THROW leaves it. -/
def PointRuntime.Sent (a b : PointRuntime) : Prop := b = a ∨ ∃ now T A, b = a.started now T A

theorem PointRuntime.Sent.trans {a b c : PointRuntime} (h : a.Sent b) (k : b.Sent c) : a.Sent c := by
  rcases h with rfl | ⟨now, T, A, rfl⟩
  · exact k
  · rcases k with rfl | ⟨now', T', A', rfl⟩
    · exact .inr ⟨now, T, A, rfl⟩
    · refine .inr ⟨now', T', A', ?_⟩
      obtain ⟨state, _, _, _, _, _, command, _, _, _, _, _⟩ := a
      cases state <;> cases command <;> rfl

/-- A point that is at rest after a start of transmission was at rest before. -/
theorem PointRuntime.Sent.rest {a b : PointRuntime} (h : a.Sent b) {e : Leg} (he : b.state = .rest e) : a.state = .rest e := by
  obtain rfl | ⟨_, _, _, rfl⟩ := h
  · exact he
  · unfold PointRuntime.started at he
    cases s : a.state <;> simp_all

theorem PointRuntime.started_not_pending (a : PointRuntime) (now : Clock) (T A : Nat) (e : Leg) :
    (a.started now T A).state ≠ .pending e := by
  unfold PointRuntime.started
  cases a.state <;> nofun

theorem Leg.eq_or_other (a b : Leg) : a = b ∨ a = b.other := by cases a <;> cases b <;> simp [Leg.other]

/-- What the throw decision reads beside the point's state stays. -/
theorem PointRuntime.Sent.keeps {a b : PointRuntime} (h : a.Sent b) :
    b.held = a.held ∧ b.detected = a.detected ∧ b.learned = a.learned := by
  obtain rfl | ⟨_, _, _, rfl⟩ := h
  · exact ⟨rfl, rfl, rfl⟩
  · exact ⟨rfl, rfl, rfl⟩

theorem OnlySends.sent {s t : State} (h : OnlySends s t) (p : Nat) : (s.pt p).Sent (t.pt p) :=
  (h.points p).imp id fun e => ⟨_, _, _, e⟩

/-- A point other than the one told of a re-evaluation. -/
theorem State.placeThrow_other (s : State) {p k : Nat} (leg : Leg) (reason : ThrowReason) (other : k ≠ p) :
    (s.pt k).Sent ((s.placeThrow p leg reason).pt k) :=
  State.pt_setPt_ne s _ other ▸ (State.select_onlySends _ .t).sent k

theorem State.evaluateAtRest_other (s : State) {p k : Nat} (other : k ≠ p) : (s.pt k).Sent ((s.evaluateAtRest p).pt k) := by
  unfold State.evaluateAtRest
  split
  · exact s.placeThrow_other _ _ other
  · exact .inl rfl

theorem State.withdraw_other (s : State) {p k : Nat} (other : k ≠ p) : (s.withdraw p).pt k = s.pt k := by
  unfold State.withdraw
  split
  · exact State.pt_setPt_ne _ _ other
  · rfl

theorem State.reevaluate_other (s : State) {p k : Nat} (other : k ≠ p) : (s.pt k).Sent ((s.reevaluate p).pt k) := by
  unfold State.reevaluate
  split
  · exact s.evaluateAtRest_other other
  · split
    · have := State.evaluateAtRest_other (s.withdraw p) other
      rwa [s.withdraw_other other] at this
    · exact .inl rfl
  · exact .inl rfl

/-! ### How a point stands (R105 to R108) -/

/-- The first entry that wants a definite end is the served claimant (R105). -/
theorem State.serves_iff {s : State} {p : Nat} {e : Leg} : Serves s p e ↔ ∃ c, s.servedClaimant p = some c ∧ c.want = some e := by
  constructor
  · rintro ⟨older, c, younger, list, none, want⟩
    refine ⟨c, ?_, want⟩
    rw [State.servedClaimant, list]
    exact find?_first (fun j m => by simp [none j m]) (by simp [want])
  · rintro ⟨c, found, want⟩
    obtain ⟨-, older, younger, list, none⟩ := List.find?_eq_some_iff_append.mp found
    exact ⟨older, c, younger, list, fun y m => by simpa using none y m, want⟩

/-- A THROW is due exactly on the five conditions (R107). -/
theorem State.throwDue_eq_none {s : State} {p : Nat} : s.throwDue p = none ↔ ∀ e, (s.pt p).state = .rest e → ¬AutomaticDue s p e := by
  unfold State.throwDue
  split
  · rename_i e he
    have served : (s.servedClaimant p).any (fun c => decide (c.want = some e.other)) = true ↔ Serves s p e.other := by
      rw [State.serves_iff, Option.any_eq_true]
      simp
    simp only [ite_eq_right_iff, Bool.and_eq_true, Bool.not_eq_true', decide_eq_true_eq, served, reduceCtorEq, imp_false, he,
      PointState.rest.injEq, forall_eq', AutomaticDue, and_assoc]
  · rename_i none
    exact ⟨fun _ e he => absurd he (none e), fun _ => rfl⟩

/-- The end that a due THROW goes to is what the served claimant wants. -/
theorem State.throwDue_eq_some {s : State} {p : Nat} {leg : Leg} (h : s.throwDue p = some leg) :
    (1 ≤ p ∧ p ≤ 63) ∧ Serves s p leg ∧ s.guardClear p = true := by
  unfold State.throwDue at h
  split at h
  · rename_i e he
    simp only [Option.ite_none_right_eq_some, Bool.and_eq_true, Option.any_eq_true, decide_eq_true_eq, Option.some.injEq] at h
    obtain ⟨⟨⟨⟨_, c, found, want⟩, clear⟩, _⟩, rfl⟩ := h
    exact ⟨s.pt_inside (by simp [he]), State.serves_iff.mpr ⟨c, found, want⟩, clear⟩
  · cases h

/-- What a re-evaluation of point `k` reads, its runtime record apart, is the same in two states. -/
structure SameOutlook (s t : State) (k : Nat) : Prop where
  clock : t.clock = s.clock
  tables : t.tables = s.tables
  claims : t.claimList k = s.claimList k
  slots : ∀ c ∈ s.claimList k, t.slot c.slot = s.slot c.slot
  guardClear : t.guardClear k = s.guardClear k

/-- The arrival time reads the tables and the clock alone. -/
theorem State.arrival_congr {s t : State} (tables : t.tables = s.tables) (clock : t.clock = s.clock) (x : Slot) (p : Nat) :
    t.arrival x p = s.arrival x p := by
  cases s
  cases t
  cases tables
  cases clock
  rfl

theorem Quiet.sameOutlook {s t : State} (h : Quiet s t) (k : Nat) : SameOutlook s t k := by
  obtain ⟨_, _, _, rfl⟩ := h
  exact ⟨rfl, rfl, rfl, fun _ _ => rfl, rfl⟩

section
variable {s t : State} {k : Nat}

theorem SameOutlook.serves (h : SameOutlook s t k) (e : Leg) : Serves t k e ↔ Serves s k e := by
  simp only [Serves, h.claims]

theorem SameOutlook.headArrival (h : SameOutlook s t k) : t.headArrival k = s.headArrival k := by
  unfold State.headArrival State.headClaimant
  rw [h.claims]
  cases e : (s.claimList k).head? with
  | none => rfl
  | some c =>
    have same := h.slots c (List.mem_of_mem_head? e)
    simp only [Option.bind_some, same]
    cases s.slot c.slot with
    | none => rfl
    | some x => exact State.arrival_congr h.tables h.clock x k

/-- What the five conditions read of the runtime record stays while a THROW is sent. -/
theorem SameOutlook.automaticDue (h : SameOutlook s t k) (sent : (s.pt k).Sent (t.pt k)) (e : Leg) :
    AutomaticDue t k e ↔ AutomaticDue s k e := by
  obtain ⟨held, detected, learned⟩ := sent.keeps
  have window : t.window k = s.window k := by
    unfold State.window State.throwLead PointRuntime.throwTime
    rw [learned, h.headArrival, h.tables, h.clock]
  simp only [AutomaticDue, held, detected, h.serves, h.guardClear, window]

/-- A point that stands evaluated goes on doing so while what it reads stays, its own THROW apart. -/
theorem StandsEvaluated.of_same (stands : StandsEvaluated s k) (h : SameOutlook s t k) (sent : (s.pt k).Sent (t.pt k)) :
    StandsEvaluated t k := by
  obtain ⟨atRest, pending⟩ := stands
  constructor
  · intro e he
    rw [h.automaticDue sent]
    exact atRest e (sent.rest he)
  · intro e he queued
    rw [h.serves]
    obtain same | ⟨_, _, _, same⟩ := sent
    · exact pending e (same ▸ he) (same ▸ queued)
    · exact absurd ((congrArg PointRuntime.state same).symm.trans he) (PointRuntime.started_not_pending _ _ _ _ _)

end

/-- An automatic THROW just placed goes where the served claimant wants. -/
theorem State.placeThrow_standsEvaluated {s : State} {p : Nat} {leg : Leg} (present : 1 ≤ p ∧ p ≤ 63) (serves : Serves s p leg) :
    StandsEvaluated (s.placeThrow p leg .automatic) p := by
  have sent (mid : State) (placed : mid.pt p = { s.pt p with state := .pending leg, command := .queued .automatic })
      (same : SameOutlook s mid p) : StandsEvaluated (mid.select .t) p := by
    refine StandsEvaluated.of_same ⟨fun l hl => ?_, fun l hl _ => ?_⟩ ((mid.select_quiet .t).sameOutlook p)
      ((mid.select_onlySends .t).sent p)
    · rw [placed] at hl
      cases hl
    · rw [placed] at hl
      cases hl
      exact (same.serves leg).mpr serves
  exact sent _ (State.pt_setPt_self s p _ present) ⟨rfl, rfl, rfl, fun _ _ => rfl, rfl⟩

/-- The re-evaluation of a point leaves it evaluated. -/
theorem State.evaluateAtRest_standsEvaluated {s : State} {p : Nat} {e : Leg} (he : (s.pt p).state = .rest e) :
    StandsEvaluated (s.evaluateAtRest p) p := by
  unfold State.evaluateAtRest
  cases due : s.throwDue p with
  | none =>
    refine ⟨State.throwDue_eq_none.mp due, fun l hl => ?_⟩
    rw [he] at hl
    cases hl
  | some leg =>
    obtain ⟨present, serves, -⟩ := State.throwDue_eq_some due
    exact State.placeThrow_standsEvaluated present serves

theorem State.reevaluate_standsEvaluated (s : State) (p : Nat) : StandsEvaluated (s.reevaluate p) p := by
  unfold State.reevaluate
  split
  · rename_i e he
    exact State.evaluateAtRest_standsEvaluated he
  · rename_i e he
    split
    · refine State.evaluateAtRest_standsEvaluated (e := e.other) ?_
      rw [State.pt_withdraw he]
    · rename_i holds
      refine ⟨fun l hl => absurd (he.symm.trans hl) nofun, fun l hl queued => ?_⟩
      cases he.symm.trans hl
      rw [State.serves_iff]
      simp only [State.pendingFails, queued, decide_true, Bool.true_and, Bool.not_eq_true] at holds
      cases found : s.servedClaimant p with
      | none => simp [found] at holds
      | some c =>
        refine ⟨c, rfl, ?_⟩
        have wants := List.find?_some found
        rw [found] at holds
        obtain ⟨want, hw⟩ := Option.isSome_iff_exists.mp wants
        have ne : c.want ≠ some e.other := of_decide_eq_false holds
        rw [hw] at ne ⊢
        exact congrArg some ((Leg.eq_or_other want e).resolve_right fun h => ne (congrArg some h))
  · rename_i rest pending
    exact ⟨fun e he => absurd he (rest e), fun e he => absurd he (pending e)⟩

/-- Every point told of a re-evaluation stands evaluated when the last of them has re-evaluated. -/
theorem State.reevaluateAll_standsEvaluated {l : List Nat} {k : Nat} (s : State) (h : k ∈ l ∨ StandsEvaluated s k) :
    StandsEvaluated (s.reevaluateAll l) k := by
  induction l generalizing s with
  | nil => exact h.resolve_left List.not_mem_nil
  | cons p l ih =>
    refine ih (s.reevaluate p) ?_
    rcases eq_or_ne k p with rfl | other
    · exact .inr (s.reevaluate_standsEvaluated k)
    · refine h.imp (fun m => (List.mem_cons.mp m).resolve_left other) fun stands => ?_
      exact stands.of_same ((s.reevaluate_quiet p).sameOutlook k) (s.reevaluate_other other)

/-! ### A point whose guard is occupied -/

/-- No THROW of a point starts while its guard is occupied (R110). -/
theorem State.select_occupied {s : State} {k : Nat} (occupied : s.guardClear k = false) (p : Port) : (s.select p).pt k = s.pt k := by
  have port (a : State) (x : PortState) : (a.setPort p x).pt k = a.pt k := by cases p <;> rfl
  unfold State.select State.begin
  cases s.choice p with
  | nothing => rfl
  | throw c =>
    simp only
    split
    · rename_i may
      refine State.pt_setPt_ne s _ ?_
      rintro rfl
      simp [State.throwMayStart, occupied] at may
    · rfl
  | fill => exact port s _
  | signal m => exact port { s with link := { s.link with signalSlot := none } } _
  | response r => exact port _ _
  | report r => exact port _ _
  | pass m => exact port s _

theorem State.placeThrow_occupied {s : State} {p k : Nat} (occupied : s.guardClear k = false) (leg : Leg) (reason : ThrowReason)
    (other : k ≠ p) : (s.placeThrow p leg reason).pt k = s.pt k :=
  (State.select_occupied (by exact occupied) .t).trans (State.pt_setPt_ne s _ other)

/-- A point at rest over an occupied guard is not thrown, and no other point's re-evaluation reaches it. -/
theorem State.evaluateAtRest_occupied {s : State} {k : Nat} (occupied : s.guardClear k = false) (p : Nat) :
    (s.evaluateAtRest p).pt k = s.pt k := by
  unfold State.evaluateAtRest
  cases due : s.throwDue p with
  | none => rfl
  | some leg =>
    refine State.placeThrow_occupied occupied leg .automatic ?_
    rintro rfl
    rw [(State.throwDue_eq_some due).2.2] at occupied
    cases occupied

theorem State.reevaluate_occupied {s : State} {k : Nat} (occupied : s.guardClear k = false) (p : Nat) :
    (s.reevaluate p).pt k = s.pt k ∨ (s.reevaluate p).pt k = (s.withdraw k).pt k := by
  unfold State.reevaluate
  split
  · exact .inl (State.evaluateAtRest_occupied occupied p)
  · split
    · rw [State.evaluateAtRest_occupied (((s.withdraw_quiet p).sameOutlook k).guardClear.trans occupied)]
      rcases eq_or_ne k p with rfl | other
      · exact .inr rfl
      · exact .inl (s.withdraw_other other)
    · exact .inl rfl
  · exact .inl rfl

end Sys2Proof.Machine

/-! SUPPORT. The clearing of a slot: it leaves the claim lists and the tracking table, and its track is charged (R14, R95). -/

namespace Sys2Proof.Machine

/-! ### Steps that offer nothing -/

theorem State.recompute_offers (s : State) : Offers s s.recompute [] := s.recompute_queues.toOffers

theorem State.setSlot_offers (s : State) (i : Nat) (x : Option Slot) : Offers s (s.setSlot i x) [] := .of_same rfl rfl rfl rfl rfl

theorem State.updSlot_offers (s : State) (i : Nat) (f : Slot → Slot) : Offers s (s.updSlot i f) [] := by
  unfold State.updSlot
  split
  · exact .refl s
  · exact s.setSlot_offers ..

theorem State.release_offers (s : State) (i : Nat) : Offers s (s.release i) [] := s.updSlot_offers ..

theorem State.setClaims_offers (s : State) (p : Nat) (l : List Claim) : Offers s (s.setClaims p l) [] := .of_same rfl rfl rfl rfl rfl

theorem State.leaveAll_offers (s : State) (i : Nat) : Offers s (s.leaveAll i) [] := .of_same rfl rfl rfl rfl rfl

theorem State.freeUp_offers (s : State) (i : Nat) : Offers s (s.freeUp i) [] := (s.setSlot_offers i none).after (State.recompute_offers _)

/-! ### Slots, claim lists and runs -/

theorem State.slot_inside {s : State} {i : Nat} {x : Slot} (h : s.slot i = some x) : 1 ≤ i ∧ i ≤ 16 :=
  Classical.byContradiction fun outside => absurd ((readAt_outside s.slots none outside).symm.trans h) nofun

theorem State.updSlot_eq {s : State} {i : Nat} {x : Slot} (h : s.slot i = some x) (f : Slot → Slot) :
    s.updSlot i f = s.setSlot i (some (f x)) := by
  unfold State.updSlot
  rw [h]

theorem State.updSlot_ne (s : State) (f : Slot → Slot) {i k : Nat} (other : k ≠ i) : (s.updSlot i f).slot k = s.slot k := by
  unfold State.updSlot
  split
  · rfl
  · exact s.slot_setSlot_ne _ other

theorem State.stands_iff {s : State} {i p : Nat} : s.stands i p = true ↔ ∃ c ∈ s.claimList p, c.slot = i := by
  simp [State.stands]

theorem State.stands_inside {s : State} {i p : Nat} (h : s.stands i p = true) : 1 ≤ p ∧ p ≤ 63 := by
  obtain ⟨c, m, -⟩ := State.stands_iff.mp h
  refine Classical.byContradiction fun outside => ?_
  rw [State.claimList, readAt_outside s.claims [] outside] at m
  exact List.not_mem_nil m

theorem State.mem_standing {s : State} {i p : Nat} : p ∈ s.standing i ↔ s.stands i p = true := by
  simp only [State.standing, List.mem_filter, mem_ids, and_iff_right_iff_imp]
  exact State.stands_inside

theorem State.claimList_leaveAll (s : State) (i p : Nat) :
    (s.leaveAll i).claimList p = (s.claimList p).filter fun c => decide (c.slot ≠ i) := readAt_mapAll _ _ [] _

theorem State.leaveAll_stands (s : State) (i p : Nat) : (s.leaveAll i).stands i p = false := by
  simp [State.stands, State.claimList_leaveAll]

/-- The sections that hold a run are among the 190. -/
theorem State.hasRuns_iff {s : State} {i : Nat} : s.hasRuns i = true ↔ ∃ id, (s.sec id).holds i = true := by
  rw [State.hasRuns, List.any_eq_true]
  refine ⟨fun ⟨id, _, h⟩ => ⟨id, h⟩, fun ⟨id, h⟩ => ⟨id, ?_, h⟩⟩
  have inside : id.inRange = true := by
    refine Classical.byContradiction fun outside => ?_
    have empty : (s.sec id).runs = [] := by
      cases id <;> simp only [SectionId.inRange, decide_eq_true_eq] at outside <;> exact congrArg Section.runs (readAt_outside _ _ outside)
    simp [Section.holds, empty] at h
  cases id <;> simpa [allSections, SectionId.inRange] using inside

/-! ### The charge -/

theorem writeAt_readAt {α : Type} {n : Nat} (v : Vector α n) (d : α) (i : Nat) : writeAt v i (readAt v d i) = v := by
  unfold writeAt readAt
  split <;> simp

/-- The charge lowers the room of the track's record, where it is present. -/
theorem State.charge_eq (s : State) (t n : Nat) : s.charge t n = { s with tables := { s.tables with
    tracks := writeAt s.tables.tracks t ((s.trackRecord t).map fun r => { r with room := r.room - n }) } } := by
  unfold State.charge
  cases h : s.trackRecord t with
  | none =>
    have same := writeAt_readAt s.tables.tracks none t
    rw [show readAt s.tables.tracks none t = none from h] at same
    rw [Option.map_none, same]
  | some r => rfl

/-! ### The clearing -/

theorem State.charge_offers (s : State) (t n : Nat) : Offers s (s.charge t n) [] := by
  rw [State.charge_eq]
  exact .of_same rfl rfl rfl rfl rfl

/-- A point that stands evaluated goes on doing so where a slot that it does not hold goes FREE. -/
theorem StandsEvaluated.freeUp {s : State} {i p : Nat} (stands : StandsEvaluated s p) (free : s.stands i p = false) :
    StandsEvaluated (s.freeUp i) p := by
  have sends := (s.setSlot i none).recompute_onlySends
  have outlook : SameOutlook s (s.freeUp i) p :=
    { clock := sends.clock
      tables := sends.tables
      claims := congrArg (readAt · [] p) sends.claims
      slots := fun c m => by
        have other : c.slot ≠ i := fun e => by
          rw [State.stands_iff.mpr ⟨c, m, e⟩] at free
          cases free
        exact (congrArg (readAt · none c.slot) sends.slots).trans (s.slot_setSlot_ne none other)
      guardClear := by unfold State.guardClear State.freeUp State.sec; simp }
  exact stands.of_same outlook (sends.sent p)

theorem State.freeUp_slot (s : State) {i : Nat} (inside : 1 ≤ i ∧ i ≤ 16) : (s.freeUp i).slot i = none := by
  rw [State.slot, State.freeUp, (State.recompute_frame _).2.2.2.2.2.2.2.2.1]
  exact s.slot_setSlot_self i none inside

theorem State.freeUp_ne (s : State) {i k : Nat} (other : k ≠ i) : (s.freeUp i).slot k = s.slot k := by
  rw [State.slot, State.freeUp, (State.recompute_frame _).2.2.2.2.2.2.2.2.1]
  exact s.slot_setSlot_ne none other

theorem State.freeUp_demand (s : State) (i : Nat) : (s.freeUp i).signal.demand = (s.freeUp i).demandNow :=
  (State.recompute_demand _).trans (OnlySends.demandNow (s.setSlot i none).recompute_onlySends).symm

section
variable (s : State) (i k : Nat) (x : Slot)

theorem State.clearInto_tables : (s.clearInto i k x).tables = { s.tables with
    tracks := writeAt s.tables.tracks k ((s.trackRecord k).map fun r => { r with room := r.room - x.counted }) } := by
  simp [State.clearInto, State.charge_eq, State.leaveAll]

theorem State.clearInto_slot (inside : 1 ≤ i ∧ i ≤ 16) : (s.clearInto i k x).slot i = none := State.freeUp_slot _ inside

theorem State.clearInto_ne {j : Nat} (other : j ≠ i) : (s.clearInto i k x).slot j = s.slot j := by
  unfold State.clearInto
  rw [State.freeUp_ne _ other]
  refine Eq.trans (b := ((s.charge k x.counted).release i).slot j) (by simp [State.slot, State.leaveAll]) ?_
  rw [State.release, State.updSlot_ne _ _ other, State.charge_eq]
  rfl

theorem State.clearInto_claimList (p : Nat) :
    (s.clearInto i k x).claimList p = (s.claimList p).filter fun c => decide (c.slot ≠ i) := by
  rw [← s.claimList_leaveAll i p]
  simp [State.claimList, State.clearInto, State.leaveAll, State.charge_eq]

theorem State.clearInto_stands (p : Nat) : (s.clearInto i k x).stands i p = false := by
  simp [State.stands, s.clearInto_claimList]

theorem State.clearInto_demand : (s.clearInto i k x).signal.demand = (s.clearInto i k x).demandNow := State.freeUp_demand _ _

/-- The points the slot stood at re-evaluate (R106). -/
theorem State.clearInto_standsEvaluated {p : Nat} (stood : s.stands i p = true) : StandsEvaluated (s.clearInto i k x) p := by
  refine (State.reevaluateAll_standsEvaluated _ (.inl (State.mem_standing.mpr stood))).freeUp ?_
  simp only [State.stands, State.claimList, State.reevaluateAll_frame]
  exact State.leaveAll_stands _ i p

theorem State.clearInto_offers :
    Offers s (s.clearInto i k x) [.cutCleared i x.number x.ordinal x.target k x.counted x.cleared x.flags] := by
  refine Offers.before ?_ (State.freeUp_offers _ i)
  refine Offers.before ?_ (State.reevaluateAll_offers _ _)
  refine Offers.before ?_ (State.leaveAll_offers _ i)
  exact ((s.charge_offers k x.counted).before (State.release_offers _ i)).after (State.offer_offers _ _)

end

end Sys2Proof.Machine

/-! PROOF. The clearing test and the closing of a cut, and GAP_TIMER_EXPIRY, which closes the open one (R35, R37, R95). -/

namespace Sys2Proof.Machine

/-! ### The clearing test (R95) -/

section
variable {s : State} {i : Nat} {x : Slot}

theorem State.tryClear_clears {k : Nat} (hx : s.slot i = some x) (clearing : x.phase = .clearing k)
    (none : ∀ id, (s.sec id).holds i = false) (apart : s.binder.state ≠ .tracked i) : s.tryClear i = s.clearInto i k x := by
  have runs : s.hasRuns i = false := by
    rw [Bool.eq_false_iff]
    intro h
    obtain ⟨id, holds⟩ := State.hasRuns_iff.mp h
    rw [none id] at holds
    cases holds
  unfold State.tryClear
  simp [hx, clearing, runs, apart]

theorem State.tryClear_stays (hx : s.slot i = some x)
    (h : (∀ k, x.phase ≠ .clearing k) ∨ (∃ id, (s.sec id).holds i = true) ∨ s.binder.state = .tracked i) : s.tryClear i = s := by
  unfold State.tryClear
  simp only [hx]
  split
  · rename_i k clearing
    rw [if_neg]
    rcases h with h | h | h
    · exact absurd clearing (h k)
    · simp [State.hasRuns_iff.mpr h]
    · simp [h]
  · rfl
  · rfl

end

/-! ### The closing of a cut (R37) -/

theorem Slot.closed_closed (x : Slot) : Closed x x.closed := by
  refine ⟨x.closed.phase, x.closed.flags.mismatch, x.closed.expected, ?_⟩
  cases h : x.record <;> cases p : x.phase <;> simp [Slot.closed, h, p]

theorem Slot.closed_clearing (x : Slot) (k : Nat) : x.closed.phase = .clearing k ↔ x.phase = .clearing k := by
  unfold Slot.closed
  cases x.record <;> cases x.phase <;> simp

/-- What CUT_CLEARED and the charge read of a slot stays at the closing. -/
theorem Slot.closed_keeps (x : Slot) : x.closed.number = x.number ∧ x.closed.ordinal = x.ordinal ∧ x.closed.target = x.target
    ∧ x.closed.counted = x.counted ∧ x.closed.cleared = x.cleared := by
  unfold Slot.closed Slot.number
  cases x.record <;> simp

section
variable (s : State) {i : Nat} {x : Slot}

theorem State.closeSlot_offers (hx : s.slot i = some x) : Offers s (s.closeSlot i) (mismatchReport i x) := by
  unfold State.closeSlot mismatchReport
  simp only [hx]
  cases h : x.record with
  | none => exact s.setSlot_offers ..
  | some r =>
    by_cases e : x.counted = x.expected
    · simpa [e] using s.setSlot_offers i (some x.closed)
    · simpa [e] using (s.setSlot_offers i (some x.closed)).after (State.offer_offers _ _)

/-- The closing changes the slot, and sends. -/
theorem State.closeSlot_onlySends (hx : s.slot i = some x) : OnlySends (s.setSlot i (some x.closed)) (s.closeSlot i) := by
  unfold State.closeSlot
  simp only [hx]
  split
  · split
    · exact State.offer_onlySends _ _
    · exact .refl _
  · exact .refl _

theorem State.closeSlot_slot (hx : s.slot i = some x) : (s.closeSlot i).slot i = some x.closed := by
  rw [State.slot, (s.closeSlot_onlySends hx).slots]
  exact s.slot_setSlot_self i _ (State.slot_inside hx)

theorem State.closeSlot_ne {k : Nat} (other : k ≠ i) : (s.closeSlot i).slot k = s.slot k := by
  cases hx : s.slot i with
  | none => simp [State.closeSlot, hx]
  | some x =>
    rw [State.slot, (s.closeSlot_onlySends hx).slots]
    exact s.slot_setSlot_ne _ other

end

/-! ### The open cut -/

/-- The state in which the closing of the open cut of slot `i` makes the clearing test. -/
def State.shut (s : State) (i : Nat) : State := (s.closeSlot i).shutBinder

theorem State.closeCut_tracked {s : State} {i : Nat} (h : s.binder.state = .tracked i) : s.closeCut = (s.shut i).tryClear i := by
  unfold State.closeCut
  rw [h]
  rfl

theorem State.closeCut_other {s : State} (h : ∀ i, s.binder.state ≠ .tracked i) : s.closeCut = s.shutBinder := by
  unfold State.closeCut
  cases e : s.binder.state with
  | tracked i => exact absurd e (h i)
  | untracked => rfl
  | closed => rfl

theorem State.tryClear_ne (s : State) {i j : Nat} (other : j ≠ i) : (s.tryClear i).slot j = s.slot j := by
  unfold State.tryClear
  repeat' split
  · rfl
  · exact s.clearInto_ne i _ _ other
  all_goals rfl

section
variable {s : State} {i : Nat} {x : Slot}

theorem State.shut_slot (hx : s.slot i = some x) : (s.shut i).slot i = some x.closed := s.closeSlot_slot hx

theorem State.shut_ne {j : Nat} (other : j ≠ i) : (s.shut i).slot j = s.slot j := s.closeSlot_ne other

theorem State.shut_offers (hx : s.slot i = some x) : Offers s (s.shut i) (mismatchReport i x) :=
  (s.closeSlot_offers hx).before (.of_same rfl rfl rfl rfl rfl)

/-- Whatever the sections hold, they hold it once the cut is closed. -/
theorem State.shut_sec (id : SectionId) : (s.shut i).sec id = s.sec id := by
  cases id <;> simp [State.sec, State.shut]

theorem State.closeCut_binder (s : State) : s.closeCut.binder = { s.binder with state := .closed, gap := none } := by
  unfold State.closeCut
  split <;> simp [State.shutBinder]

/-- A cut whose slot is not CLEARING, or still has a run, is closed and no more. -/
theorem State.closeCut_stays (tracked : s.binder.state = .tracked i) (hx : s.slot i = some x)
    (h : (∀ k, x.phase ≠ .clearing k) ∨ ∃ id, (s.sec id).holds i = true) : s.closeCut = s.shut i := by
  rw [State.closeCut_tracked tracked]
  refine State.tryClear_stays (State.shut_slot hx) (h.imp (fun none k => mt (x.closed_clearing k).mp (none k)) fun holds => .inl ?_)
  simpa only [State.shut_sec] using holds

/-- A CLEARING cut without a run clears as it is closed. -/
theorem State.closeCut_clears {k : Nat} (tracked : s.binder.state = .tracked i) (hx : s.slot i = some x)
    (clearing : x.phase = .clearing k) (none : ∀ id, (s.sec id).holds i = false) :
    s.closeCut = (s.shut i).clearInto i k x.closed := by
  rw [State.closeCut_tracked tracked]
  exact State.tryClear_clears (State.shut_slot hx) ((x.closed_clearing k).mpr clearing) (fun id => (State.shut_sec id).symm ▸ none id) nofun

end

/-- Settles O37: the closing of the open cut, and the clearing test that follows it. -/
theorem gapExpiryClosesTheCut : Obligations.GapExpiryClosesTheCut := by
  unfold Obligations.GapExpiryClosesTheCut
  intro s passed
  have run : exec .gapTimerExpiry s = .next s.closeCut := congrArg Host.Outcome.next (if_pos passed)
  refine ⟨s.closeCut, run, s.closeCut_binder, by simp, by simp, by simp, fun h => ?_, fun i x tracked hx => ⟨fun k other => ?_, ?_, ?_⟩⟩
  · rw [State.closeCut_other h]
    rfl
  · rw [State.closeCut_tracked tracked, State.tryClear_ne _ other, State.shut_ne other]
  · intro h
    rw [State.closeCut_stays tracked hx h]
    refine ⟨⟨x.closed, x.closed_closed, State.shut_slot hx⟩, ?_, ?_, (State.shut_offers hx).reported⟩ <;> simp [State.shut]
  · intro k clearing none
    rw [State.closeCut_clears tracked hx clearing none]
    have claims : (s.shut i).claims = s.claims := by simp [State.shut]
    have tables : (s.shut i).tables = s.tables := by simp [State.shut]
    obtain ⟨number, ordinal, target, counted, cleared⟩ := x.closed_keeps
    refine ⟨⟨State.clearInto_slot _ i k _ (State.slot_inside hx), State.clearInto_stands _ i k _, State.clearInto_demand _ i k _,
      fun p stood => State.clearInto_standsEvaluated _ i k _ ?_, _, rfl, ?_⟩, x.closed, x.closed_closed, ?_⟩
    · simpa only [State.stands, State.claimList, claims] using stood
    · simp only [State.clearInto_tables, State.trackRecord, tables, counted]
    · have offers := (State.shut_offers hx).trans (State.clearInto_offers (s.shut i) i k x.closed)
      rw [number, ordinal, target, counted, cleared] at offers
      exact offers.reported

end Sys2Proof.Machine

/-! SUPPORT. What an axle's crossing does at every counter alike: its telegram handled, the axle moved from list to list, the head moved. -/

namespace Sys2Proof.Machine

/-! ### Reports told -/

/-- Every block but the link interface and the report queue is as it was. -/
def Told (s t : State) : Prop := ∃ link reports, t = { s with link := link, reports := reports }

theorem Told.refl (s : State) : Told s s := ⟨s.link, s.reports, rfl⟩

theorem Told.trans {s t u : State} (h : Told s t) (k : Told t u) : Told s u := by
  obtain ⟨_, _, rfl⟩ := h
  obtain ⟨l, r, rfl⟩ := k
  exact ⟨l, r, rfl⟩

theorem Told.quiet {s t : State} (h : Told s t) : Quiet s t := by
  obtain ⟨l, r, rfl⟩ := h
  exact ⟨l, s.points, r, rfl⟩

/-- Port Y begins no THROW. -/
theorem State.select_told (s : State) : Told s (s.select .y) := by
  unfold State.select
  cases e : s.choice .y with
  | throw c => exact absurd (State.choice_throw e).1 nofun
  | nothing => exact .refl s
  | fill => exact ⟨_, _, rfl⟩
  | signal m => exact ⟨_, _, rfl⟩
  | response r => exact ⟨_, _, rfl⟩
  | report r => exact ⟨_, _, rfl⟩
  | pass m => exact ⟨_, _, rfl⟩

theorem State.offer_told (s : State) (b : ReportBody) : Told s (s.offer b) := by
  unfold State.offer
  extract_lets
  split
  · exact .refl s
  · exact .trans ⟨_, _, rfl⟩ (State.select_told _)

/-! ### An AXLE telegram handled (R44, R151, R153) -/

theorem State.forward_onlySends (s : State) (m : Telegram) : OnlySends s (s.forward m) := by
  unfold State.forward
  split
  · exact .refl s
  · split
    · exact .trans (.of_eq rfl) (State.select_onlySends _ .y)
    · exact .of_eq rfl

theorem State.forward_offers (s : State) (m : Telegram) : Offers s (s.forward m) [] := by
  unfold State.forward
  split
  · exact .refl s
  · split
    · refine .after ?_ (State.select_offers _ .y)
      exact .of_same rfl rfl rfl rfl rfl
    · exact .of_same rfl rfl rfl rfl rfl

/-- The crossing at the detector's counter, and after it no more than what the ports send. -/
theorem AxleHanded.crossed {s u : State} {frame : List Byte} {d : Nat} {dir : Direction} {time : Clock} {j : Joint}
    (h : AxleHanded s u frame d dir time) (role : u.joint d = some j) : ∃ t, exec (.telegramReceived .t false frame) s = .next t
      ∧ OnlySends (u.cross j dir d time) t ∧ Offers (u.cross j dir d time) t [] := by
  obtain ⟨room, run, r, age, read, broadcast, kind, parsed, rfl, rfl⟩ := h
  generalize handed : (s.handleEarlier .t).takeCredits .t r.credits = u at run role
  have axle : u.consume r.telegram = u.cross j dir d (eventTime u.wrapped u.clock age) := by
    unfold State.consume State.axle
    rw [if_pos kind, parsed]
    cases e : u.engine.state with
    | config => exact absurd e run
    | run => simp only [role]
    | halted => simp only [role]
  have received : s.receive .t false frame = ((u.consume r.telegram).forward r.telegram).freeBuffer .t := by
    have few : ¬Config.receiveBuffers ≤ ((s.handleEarlier .t).port .t).waiting.length := Nat.not_le_of_lt room
    have notFill : r.telegram.kind ≠ kindFill := kind ▸ by decide
    unfold State.receive State.receiveFrame
    rw [read]
    simp only [Bool.false_or, decide_eq_true_eq]
    rw [if_neg few, handed, State.classify, if_neg notFill, if_pos broadcast]
  refine ⟨_, congrArg Host.Outcome.next received, ?_⟩
  rw [axle]
  exact ⟨(State.forward_onlySends _ _).trans (State.freeBuffer_onlySends _ .t), (State.forward_offers _ _).before (State.freeBuffer_offers _ .t)⟩

/-! ### An axle from list to list (R45, R52) -/

theorem State.setSec_eq (s : State) (id : SectionId) (x : Section) : s.setSec id x = { s with sections := (s.setSec id x).sections } := by
  cases id <;> rfl

/-- An axle of the head run's owner is taken. -/
theorem takeHead_of_head? {l : List Run} {r : Run} (h : l.head? = some r) : ∃ m, takeHead l = some (r.owner, m) ∧ AxleTaken .head l r.owner m := by
  obtain ⟨rest, rfl⟩ := List.head?_eq_some_iff.mp h
  exact ⟨_, rfl, r.count, rest, rfl, rfl⟩

theorem addHead_holds {o : Owner} {l : List Run} (h : match l with
      | [] => True
      | r :: _ => if r.owner = o then r.count < 127 else l.length < 8) : ∃ m, addHead o l = some m ∧ ∃ r ∈ m, r.owner = o := by
  cases l with
  | nil => exact ⟨_, rfl, _, List.mem_singleton_self _, rfl⟩
  | cons r l =>
    simp only at h
    split at h
    · rename_i same
      have room : r.count < Config.axleCap := h
      refine ⟨{ r with count := r.count + 1 } :: l, ?_, _, List.mem_cons_self, same⟩
      simp only [addHead, if_pos same, if_pos room]
    · rename_i other
      have room : (r :: l).length < Config.runRoom := h
      refine ⟨⟨o, 1⟩ :: r :: l, ?_, _, List.mem_cons_self, rfl⟩
      simp only [addHead, if_neg other, if_pos room]

/-- An axle that fits at the tail is recorded there. -/
theorem AxleFits.added {l : List Run} {o : Owner} (h : AxleFits .tail l o) : ∃ m, addRun o .tail l = some m ∧ ∃ r ∈ m, r.owner = o := by
  have fits : match l.reverse with
      | [] => True
      | r :: _ => if r.owner = o then r.count < 127 else l.reverse.length < 8 := by
    rw [List.length_reverse]
    exact h
  obtain ⟨m, added, r, mem, owner⟩ := addHead_holds fits
  exact ⟨m.reverse, by simp [addRun, added], r, List.mem_reverse.mpr mem, owner⟩

section
variable {u : State} {d i n : Nat} {time : Clock}

theorem State.takeAxle_head {a : SectionId} (head : (u.sec a).runs.head? = some ⟨.slot i, n⟩) : ∃ m, u.takeAxle a .head d time
    = (u.setSec a { u.sec a with runs := m }, .slot i) ∧ AxleTaken .head (u.sec a).runs (.slot i) m := by
  obtain ⟨m, taken, shape⟩ := takeHead_of_head? head
  exact ⟨m, by simp [State.takeAxle, takeRun, taken], shape⟩

/-- An axle enters a NORMAL section that has room for it. -/
theorem State.enterAxle_tail {b : SectionId} {owner : Owner} (fits : AxleFits .tail (u.sec b).runs owner)
    (normal : (u.sec b).disturbance = none) : ∃ m, u.enterAxle b .tail owner d time = (u.setSec b ⟨none, m⟩, false)
      ∧ ∃ r ∈ m, r.owner = owner := by
  obtain ⟨m, added, holds⟩ := fits.added
  refine ⟨m, ?_, holds⟩
  unfold State.enterAxle
  simp only [added, normal]

/-- A slot's axle moves DOWN between two sections, into a NORMAL one with room. -/
theorem State.crossBetween_down {a b : SectionId} (c : Counter) (ne : b ≠ a) (range : b.inRange = true)
    (head : (u.sec a).runs.head? = some ⟨.slot i, n⟩) (fits : AxleFits .tail (u.sec b).runs (.slot i))
    (normal : (u.sec b).disturbance = none) : ∃ sections, u.crossBetween c a b .down d time
        = (({ u with sections := sections } : State).takeCrossing i c .down time false, .slot i)
      ∧ (({ u with sections := sections } : State).sec b).holds i = true := by
  obtain ⟨m, taken, -⟩ := State.takeAxle_head (d := d) (time := time) head
  rw [State.setSec_eq] at taken
  generalize left : (u.setSec a { u.sec a with runs := m }).sections = gone at taken
  have same : State.sec { u with sections := gone } b = u.sec b := by
    rw [← left, ← State.setSec_eq]
    exact u.sec_setSec_ne _ ne
  obtain ⟨l, entered, r, mem, owner⟩ := State.enterAxle_tail (u := { u with sections := gone }) (d := d) (time := time) (b := b)
    (owner := .slot i) (same ▸ fits) (same ▸ normal)
  refine ⟨(State.setSec { u with sections := gone } b ⟨none, l⟩).sections, ?_, ?_⟩
  · unfold State.crossBetween
    simp only [taken, entered]
    rw [State.setSec_eq]
    rfl
  · change ((State.sec { ({ u with sections := gone } : State) with sections := _ } b).holds i) = true
    rw [← State.setSec_eq, State.sec_setSec_self _ _ _ range]
    exact List.any_eq_true.mpr ⟨r, mem, decide_eq_true owner⟩

end

end Sys2Proof.Machine

/-! SUPPORT. Head crossings: the head, the anchor, the sample and the stall deadline (R62, R64, R76, R77, R81). -/

namespace Sys2Proof.Machine

theorem State.setSlot_setSlot (s : State) (i : Nat) (a b : Option Slot) : (s.setSlot i a).setSlot i b = s.setSlot i b := by
  simp only [State.setSlot, writeAt]
  split <;> simp

/-- Slot `x` as steps 1 to 4 leave it, before a deadline already passed expires. -/
theorem State.headMoved_eq {s : State} {x : Slot} {c : Counter} {time : Clock} {z : Slot} (moved : HeadMoved s x c time z) :
    s.headMoved x c time = { z with stall := ⟨z.stall.instant, true⟩, flags := { z.flags with stalled := false } }
      ∧ z.stall.running = (!reached s.clock z.stall.instant) ∧ z.flags.stalled = reached s.clock z.stall.instant := by
  obtain ⟨samples, estimate, deadline, sampled, rfl, rfl⟩ := moved
  refine ⟨?_, rfl, rfl⟩
  have taken : s.sampled x c time = { x with samples := samples, estimate := estimate } := by
    unfold State.sampled
    by_cases due : x.flags.unanchored = false ∧ s.exitCounter x.head c = true
    · rw [if_pos due] at sampled
      obtain ⟨rfl, rfl⟩ := sampled
      simp [due.1, due.2]
    · rw [if_neg due] at sampled
      obtain ⟨rfl, rfl⟩ := sampled
      rw [if_neg]
      simpa using due
  simp only [State.headMoved, State.armStall, taken]

/-- A deadline already passed when it is armed expires at once, and is reported (R76, R83). -/
theorem State.stallAtOnce_eq {s : State} {i : Nat} {z : Slot} (inside : 1 ≤ i ∧ i ≤ 16)
    (running : z.stall.running = !reached s.clock z.stall.instant) (stalled : z.flags.stalled = reached s.clock z.stall.instant) :
    (s.setSlot i (some { z with stall := ⟨z.stall.instant, true⟩, flags := { z.flags with stalled := false } })).stallAtOnce i
      = if z.flags.stalled then (s.setSlot i (some z)).offer (.cutStalled i z.number z.head z.headTime z.estimate z.flags)
        else s.setSlot i (some z) := by
  have slot (y : Slot) : (s.setSlot i (some y)).slot i = some y := s.slot_setSlot_self i _ inside
  obtain ⟨phase, record, ordinal, expected, target, reservation, path, unresolved, counted, cleared, head, headTime, samples, estimate,
    ⟨instant, on⟩, flags⟩ := z
  obtain ⟨unlisted, mismatch, overRoom, retargeted, cornered, misrouted, late, lost, unanchored⟩ := flags
  simp only at running stalled
  subst running stalled
  unfold State.stallAtOnce
  rw [slot, Option.any_some, StallDeadline.expiry_running]
  cases passed : reached s.clock instant with
  | true =>
    rw [if_pos (by exact passed), State.stallExpired, slot]
    simp only [State.setSlot_setSlot, Bool.not_true, if_true]
    rfl
  | false =>
    rw [if_neg (by simpa [due] using passed)]
    rfl

/-- A head crossing goes to its role step with the slot moved, and its stall reported where the deadline has passed. -/
theorem State.headCrossing_moved {s : State} {i : Nat} {x z : Slot} {c : Counter} {time : Clock} (inside : 1 ≤ i ∧ i ≤ 16)
    (moved : HeadMoved s x c time z) : ∃ v, Told (s.setSlot i (some z)) v ∧ Offers s v (stalledReport i z)
      ∧ s.headCrossing i x c time = v.roleStep i x.flags.lost c := by
  obtain ⟨armed, running, stalled⟩ := State.headMoved_eq moved
  refine ⟨_, ?_, ?_, rfl⟩ <;> rw [armed, State.stallAtOnce_eq inside running stalled]
  · split
    · exact State.offer_told _ _
    · exact .refl _
  · unfold stalledReport
    split
    · exact (s.setSlot_offers i _).after (State.offer_offers _ _)
    · exact s.setSlot_offers i _

end Sys2Proof.Machine

/-! SUPPORT. Claims: a slot's claims brought into line with its claim set, and given up where its tail has gone by (R84, R85). -/

namespace Sys2Proof.Machine

/-! ### Claim sets -/

theorem State.unresolvedCovers_iff {s : State} {x : Slot} {p : Nat} : s.unresolvedCovers x p = true ↔ Covers s x p := by
  simp [State.unresolvedCovers, Covers, Option.any_eq_true]

theorem State.claimWant_eq_some {s : State} {x : Slot} {p : Nat} {want : Option Leg} :
    s.claimWant x p = some want ↔ Wants s x p want := by
  unfold State.claimWant Wants
  cases legAt x.path p with
  | some e => simp [eq_comm]
  | none =>
    by_cases covers : Covers s x p
    · simp [State.unresolvedCovers_iff.mpr covers, covers, eq_comm]
    · simp [mt State.unresolvedCovers_iff.mp covers, covers]

theorem State.below_congr {s t : State} (tables : t.tables = s.tables) (p q : Nat) : t.below p q = s.below p q := by
  unfold State.below State.pointPath
  rw [tables]

theorem Wants.congr {s t : State} (tables : t.tables = s.tables) {x : Slot} {p : Nat} {want : Option Leg} (h : Wants t x p want) :
    Wants s x p want := by
  simpa only [Wants, Covers, State.below_congr tables] using h

theorem State.headPassed_congr {s t : State} (tables : t.tables = s.tables) (h : Counter) (p : Nat) :
    t.headPassed h p = s.headPassed h p := by
  cases s
  cases t
  cases tables
  rfl

/-! ### Steps that change the claim lists alone -/

/-- Every block but the claim lists is as it was. -/
def Claimed (s t : State) : Prop := ∃ claims, t = { s with claims := claims }

theorem Claimed.refl (s : State) : Claimed s s := ⟨s.claims, rfl⟩

theorem Claimed.trans {s t u : State} (h : Claimed s t) (k : Claimed t u) : Claimed s u := by
  obtain ⟨_, rfl⟩ := h
  obtain ⟨c, rfl⟩ := k
  exact ⟨c, rfl⟩

theorem Claimed.offers {s t : State} (h : Claimed s t) : Offers s t [] := by
  obtain ⟨_, rfl⟩ := h
  exact .of_same rfl rfl rfl rfl rfl

theorem Claimed.foldl {α : Type} {f : State → α → State} (step : ∀ s a, Claimed s (f s a)) (l : List α) (s : State) :
    Claimed s (l.foldl f s) := by
  induction l generalizing s with
  | nil => exact .refl s
  | cons a l ih => exact (step s a).trans (ih _)

theorem State.setClaims_claimed (s : State) (p : Nat) (l : List Claim) : Claimed s (s.setClaims p l) := ⟨_, rfl⟩

theorem State.joinClaim_claimed (s : State) (p i : Nat) (want : Option Leg) : Claimed s (s.joinClaim p i want) := by
  unfold State.joinClaim
  repeat' split
  · exact .refl s
  · exact .refl s
  · exact s.setClaims_claimed ..

theorem State.alignAt_claimed (s : State) (i : Nat) (x : Slot) (base p : Nat) : Claimed s (s.alignAt i x base p) := by
  unfold State.alignAt
  repeat' split
  · exact s.setClaims_claimed ..
  · exact s.setClaims_claimed ..
  · exact .refl s
  · exact s.joinClaim_claimed ..

theorem State.alignClaims_claimed (s : State) (i base : Nat) : Claimed s (s.alignClaims i base) := by
  unfold State.alignClaims
  split
  · exact .refl s
  · exact .foldl (fun a p => a.alignAt_claimed ..) _ s

theorem State.tailTest_claimed (s : State) (i : Nat) : Claimed s (s.tailTest i) := by
  unfold State.tailTest
  repeat' split
  · exact .refl s
  · exact .refl s
  · exact .foldl (fun a p => a.setClaims_claimed ..) _ s

/-! ### One claim list -/

theorem State.joinClaim_ne (s : State) {p k : Nat} (i : Nat) (want : Option Leg) (other : k ≠ p) :
    (s.joinClaim p i want).claimList k = s.claimList k := by
  unfold State.joinClaim
  repeat' split
  · rfl
  · rfl
  · exact s.claimList_setClaims_ne _ other

/-- A slot in use that stands not yet in a claim list goes before the first younger entry. -/
theorem State.joinClaim_claimList {s : State} {p i : Nat} {x : Slot} (want : Option Leg) (inside : 1 ≤ p ∧ p ≤ 63)
    (absent : s.stands i p = false) (hx : s.slot i = some x) : (s.joinClaim p i want).claimList p
      = (s.claimList p).takeWhile (fun c => !s.youngerThan x.ordinal c) ++ ⟨i, want⟩
        :: (s.claimList p).dropWhile fun c => !s.youngerThan x.ordinal c := by
  unfold State.joinClaim
  simp only [absent, hx, Bool.false_eq_true, if_false]
  exact s.claimList_setClaims_self p _ inside

theorem State.alignAt_ne (s : State) {p k : Nat} (i : Nat) (x : Slot) (base : Nat) (other : k ≠ p) :
    (s.alignAt i x base p).claimList k = s.claimList k := by
  unfold State.alignAt
  repeat' split
  · exact s.claimList_setClaims_ne _ other
  · exact s.claimList_setClaims_ne _ other
  · rfl
  · exact s.joinClaim_ne i _ other

/-- The claims of slot `i` at point `k` are those its claim set, as that of `x` in `s`, gives it; below the base it stands there. -/
def State.InLine (t s : State) (i : Nat) (x : Slot) (base k : Nat) : Prop :=
  (∀ c ∈ t.claimList k, c.slot = i → s.claimWant x k = some c.want)
    ∧ (k ≠ base → (s.claimWant x k).isSome = true → t.stands i k = true)

theorem State.InLine.of_claimList {s t t' : State} {i base k : Nat} {x : Slot} (h : t.InLine s i x base k)
    (same : t'.claimList k = t.claimList k) : t'.InLine s i x base k := by
  simpa only [State.InLine, State.stands, same] using h

theorem State.alignAt_inLine {s : State} {i k : Nat} {x : Slot} (base : Nat) (inside : 1 ≤ k ∧ k ≤ 63) (hx : s.slot i = some x) :
    (s.alignAt i x base k).InLine s i x base k := by
  unfold State.alignAt
  split
  · rename_i outside
    constructor
    · intro c m same
      rw [State.leaveClaim, State.claimList_setClaims_self _ _ _ inside] at m
      exact absurd same (of_decide_eq_true (List.mem_filter.mp m).2)
    · simp [outside]
  · rename_i want wanted
    split
    · rename_i stands
      obtain ⟨c, m, same⟩ := State.stands_iff.mp stands
      unfold State.changeClaim
      constructor
      · intro c m same
        rw [State.claimList_setClaims_self _ _ _ inside] at m
        obtain ⟨b, _, rfl⟩ := List.mem_map.mp m
        split at same
        · simp_all
        · simp_all
      · intro _ _
        rw [State.stands_iff, State.claimList_setClaims_self _ _ _ inside]
        exact ⟨_, List.mem_map_of_mem m, by simp [same]⟩
    · rename_i absent
      rw [Bool.not_eq_true] at absent
      split
      · rename_i same
        refine ⟨fun c m own => ?_, fun other => absurd same other⟩
        rw [State.stands_iff.mpr ⟨c, m, own⟩] at absent
        cases absent
      · have list := State.joinClaim_claimList want inside absent hx
        constructor
        · intro c m own
          rw [list, List.mem_append, List.mem_cons] at m
          have other : c ∉ s.claimList k := fun m => by
            rw [State.stands_iff.mpr ⟨c, m, own⟩] at absent
            cases absent
          rcases m with m | rfl | m
          · exact absurd (List.takeWhile_subset _ m) other
          · exact wanted
          · exact absurd (List.dropWhile_subset _ m) other
        · intro _ _
          rw [State.stands_iff, list]
          exact ⟨⟨i, want⟩, by simp, rfl⟩

/-- The claims of a slot at the base and below it are brought into line. -/
theorem State.alignClaims_inLine {s : State} {i base k : Nat} {x : Slot} (inside : 1 ≤ k ∧ k ≤ 63)
    (below : k = base ∨ s.below base k = true) (hx : s.slot i = some x) : (s.alignClaims i base).InLine s i x base k := by
  have fold (l : List Nat) : ∀ a : State, Claimed s a → (k ∈ l ∨ a.InLine s i x base k) →
      (l.foldl (fun a p => a.alignAt i x base p) a).InLine s i x base k := by
    induction l with
    | nil => exact fun a _ h => h.resolve_left List.not_mem_nil
    | cons p l ih =>
      intro a claimed h
      refine ih _ (claimed.trans (a.alignAt_claimed ..)) ?_
      rcases eq_or_ne k p with rfl | other
      · obtain ⟨_, rfl⟩ := claimed
        exact .inr (State.alignAt_inLine base inside hx)
      · exact h.imp (fun m => (List.mem_cons.mp m).resolve_left other) fun line => line.of_claimList (a.alignAt_ne i x base other)
  unfold State.alignClaims
  simp only [hx]
  refine fold _ s (.refl s) (.inl (List.mem_filter.mpr ⟨mem_ids.mpr inside, ?_⟩))
  simpa using below

/-! ### The tail test (R85) -/

theorem State.leaveClaim_ne (s : State) {p k : Nat} (i : Nat) (other : k ≠ p) : (s.leaveClaim p i).claimList k = s.claimList k :=
  s.claimList_setClaims_ne _ other

/-- Nothing joins a claim list by a leaving. -/
theorem State.leaveClaim_subset (s : State) (p i k : Nat) : (s.leaveClaim p i).claimList k ⊆ s.claimList k := by
  rcases eq_or_ne k p with rfl | other
  · by_cases inside : 1 ≤ k ∧ k ≤ 63
    · rw [State.leaveClaim, State.claimList_setClaims_self _ _ _ inside]
      exact List.filter_subset_self _
    · rw [State.claimList, readAt_outside _ _ inside]
      exact List.nil_subset _
  · rw [s.leaveClaim_ne i other]
    exact List.Subset.refl _

theorem State.tailTest_subset (s : State) (i k : Nat) : (s.tailTest i).claimList k ⊆ s.claimList k := by
  have fold (l : List Nat) : ∀ a : State, (l.foldl (fun a p => a.leaveClaim p i) a).claimList k ⊆ a.claimList k := by
    induction l with
    | nil => exact fun a => List.Subset.refl _
    | cons p l ih => exact fun a => List.Subset.trans (ih _) (a.leaveClaim_subset p i k)
  unfold State.tailTest
  repeat' split
  · exact List.Subset.refl _
  · exact List.Subset.refl _
  · exact fold _ s

/-- A claim list stays where the slot's head has not passed the point. -/
theorem State.tailTest_ahead {s : State} {i k : Nat} {x : Slot} (hx : s.slot i = some x) (ahead : s.headPassed x.head k = false) :
    (s.tailTest i).claimList k = s.claimList k := by
  have fold (l : List Nat) (none : k ∉ l) : ∀ a : State, (l.foldl (fun a p => a.leaveClaim p i) a).claimList k = a.claimList k := by
    induction l with
    | nil => exact fun a => rfl
    | cons p l ih =>
      intro a
      obtain ⟨other, rest⟩ := not_or.mp (mt List.mem_cons.mpr none)
      exact (ih rest _).trans (a.leaveClaim_ne i other)
  unfold State.tailTest
  simp only [hx]
  split
  · rfl
  · refine fold _ (fun m => ?_) s
    have gone := (List.mem_filter.mp m).2
    simp [State.tailGone, ahead] at gone

/-- The claims are in line after an alignment, a telling, a tail test and what leaves the claims as they are. -/
theorem State.claimsInLine {u a b t : State} {i base : Nat} {y : Slot} (tables : a.tables = u.tables) (hy : a.slot i = some y)
    (told : Told (a.alignClaims i base) b) (claims : t.claims = (b.tailTest i).claims) : ClaimsInLine u t i y base := by
  obtain ⟨aligned, e⟩ := a.alignClaims_claimed i base
  intro k low high below
  have line := State.alignClaims_inLine (i := i) ⟨low, high⟩ (below.imp_right fun h => (State.below_congr tables base k).trans h) hy
  obtain ⟨link, reports, rfl⟩ := told
  rw [e] at line claims
  generalize hb : ({ { a with claims := aligned } with link := link, reports := reports } : State) = b at claims
  have lists : b.claimList k = State.claimList { a with claims := aligned } k := by rw [← hb]; rfl
  have list : t.claimList k = (b.tailTest i).claimList k := congrArg (readAt · [] k) claims
  obtain ⟨wants, stands⟩ := line.of_claimList lists
  constructor
  · intro c m same
    rw [list] at m
    exact (State.claimWant_eq_some.mp (wants c (b.tailTest_subset i k m) same)).congr tables
  · intro other ahead ⟨want, wanted⟩
    have hb' : b.slot i = some y := by rw [← hb]; exact hy
    have passed : b.headPassed y.head k = false := by
      rw [State.headPassed_congr (s := u) (by rw [← hb]; exact tables)]
      exact ahead
    rw [State.stands, list, State.tailTest_ahead hb' passed]
    refine stands other ?_
    rw [State.claimWant_eq_some.mpr (wanted.congr tables.symm)]
    rfl

end Sys2Proof.Machine

/-! SUPPORT. Retargeting reads the tables, the reservations and how the points lie; and what it makes of a slot (R13, R18 to R20, R89). -/

namespace Sys2Proof.Machine

/-- What route resolution reads is the same in two states. -/
structure SameRoutes (s t : State) : Prop where
  tables : t.tables = s.tables
  reserved : ∀ k, t.reserved k = s.reserved k
  lies : ∀ q, (t.pt q).lieEnd = (s.pt q).lieEnd

/-- Reservations are those of the slots' targets. -/
theorem State.reserved_congr {s t : State}
    (same : ∀ j, (t.slot j).map (fun x => (x.target, x.reservation)) = (s.slot j).map fun x => (x.target, x.reservation)) (k : Nat) :
    t.reserved k = s.reserved k := by
  rw [State.reserved_eq, State.reserved_eq]
  congr 3
  funext j
  have := same j
  cases ht : t.slot j <;> cases hs : s.slot j <;> simp only [ht, hs, Option.map_some, Option.map_none, Option.some.injEq, Prod.mk.injEq,
    reduceCtorEq] at this ⊢
  rw [this.1, this.2]

section
variable {s t : State}

theorem SameRoutes.pointRecord (h : SameRoutes s t) (p : Nat) : t.pointRecord p = s.pointRecord p := by
  unfold State.pointRecord
  rw [h.tables]

theorem SameRoutes.available (h : SameRoutes s t) (k n : Nat) : t.available k n = s.available k n := by
  unfold State.available State.trackRecord
  rw [h.tables, h.reserved]

theorem SameRoutes.lieWalk (h : SameRoutes s t) (n : Nat) (b : Branch) (pairs : Path) : t.lieWalk n b pairs = s.lieWalk n b pairs := by
  induction n generalizing b pairs with
  | zero => cases b <;> rfl
  | succ n ih =>
    cases b with
    | track k => rfl
    | point q =>
      unfold State.lieWalk
      rw [h.lies, h.pointRecord]
      cases (s.pt q).lieEnd <;> cases s.pointRecord q <;> simp only [ih]

theorem SameRoutes.lieWalkFrom (h : SameRoutes s t) (p : Nat) (leg : Leg) : t.lieWalkFrom p leg = s.lieWalkFrom p leg := by
  unfold State.lieWalkFrom State.branch
  simp only [h.pointRecord, h.lieWalk]

theorem SameRoutes.walkTarget (h : SameRoutes s t) (n : Nat) (walk : Walk) : t.walkTarget n walk = s.walkTarget n walk := by
  cases walk
  · simp only [State.walkTarget, h.available]
  · rfl

theorem SameRoutes.retarget (h : SameRoutes s t) (x : Slot) (p : Nat) (leg : Leg) : t.retarget x p leg = s.retarget x p leg := by
  have alternates : t.alternates = s.alternates := by
    funext k
    unfold State.alternates State.trackRecord
    rw [h.tables]
  unfold State.retarget State.trackPath
  simp only [h.tables, h.available, h.lieWalkFrom, h.walkTarget, alternates]

theorem SameRoutes.retargeted (h : SameRoutes s t) (x : Slot) (p : Nat) (leg : Leg) (r : Retarget) :
    t.retargeted x p leg r = s.retargeted x p leg r := by
  cases r <;> simp only [State.retargeted, State.trackPath, State.walkedPath, State.pointPath, h.tables, h.lieWalkFrom]

end

/-! ### The slot retargeted -/

/-- A slot that takes what the lie walk reaches is routed by it. -/
theorem State.walkTarget_routed (s : State) (x : Slot) (n p : Nat) (leg : Leg) :
    Routed s x p leg (s.retargeted x p leg (s.walkTarget n (s.lieWalkFrom p leg))) (s.walkTarget n (s.lieWalkFrom p leg)) := by
  cases walk : s.lieWalkFrom p leg with
  | track k => rfl
  | stopped q pairs => exact ⟨pairs, walk, by simp only [State.walkTarget, State.retargeted, State.walkedPath, walk]⟩

theorem State.retarget_routed (s : State) (x : Slot) (p : Nat) (leg : Leg) :
    Routed s x p leg (s.retargeted x p leg (s.retarget x p leg)) (s.retarget x p leg) := by
  unfold State.retarget
  extract_lets alternates reject
  split
  · rfl
  · split
    · rfl
    · exact s.walkTarget_routed x _ p leg

/-- The result is taken: the slot, its claims and the report (R89). -/
theorem State.takeRetarget_told {s : State} {i : Nat} {x : Slot} (hx : s.slot i = some x) (p : Nat) (leg : Leg) (r : Retarget) (base : Nat) :
    Told ((s.setSlot i (some (s.retargeted x p leg r))).alignClaims i base) (s.takeRetarget i p leg r base)
      ∧ Offers s (s.takeRetarget i p leg r base) [.cutRetargeted i x.number p (some leg) x.target r] := by
  unfold State.takeRetarget
  simp only [hx]
  exact ⟨State.offer_told _ _, ((s.setSlot_offers i _).before (State.alignClaims_claimed _ i base).offers).after (State.offer_offers _ _)⟩

end Sys2Proof.Machine

/-! SUPPORT. What a crossing leaves a slot that becomes LOST by it, and what the point of an occupied guard does (R56, R96, R120, R121). -/

namespace Sys2Proof.Machine

/-! ### A slot becomes LOST (R96) -/

/-- Slot `x` once it is LOST. -/
def Slot.gone (x : Slot) : Slot := { x with unresolved := none, reservation := 0, flags := { x.flags with lost := true } }

/-- The state in which the points that a slot stood at re-evaluate, the slot being LOST. -/
def State.dropped (s : State) (i : Nat) (x : Slot) : State :=
  ((s.setSlot i (some { x with flags := { x.flags with lost := true }, unresolved := none })).leaveAll i).reevaluateAll (s.standing i)

theorem State.dropped_offers (s : State) (i : Nat) (x : Slot) : Offers s (s.dropped i x) [] := by
  refine Offers.after ?_ (State.reevaluateAll_offers _ _)
  exact .of_same rfl rfl rfl rfl rfl

section
variable {s : State} {i : Nat} {x : Slot}

theorem State.dropped_slot (hx : s.slot i = some x) :
    (s.dropped i x).slot i = some { x with flags := { x.flags with lost := true }, unresolved := none } := by
  rw [State.slot, State.dropped, (State.reevaluateAll_frame _ _).2.2.2.2.2.2.2.2.1]
  exact s.slot_setSlot_self i _ (State.slot_inside hx)

/-- A slot not yet LOST becomes LOST. -/
theorem State.becomeLost_eq (hx : s.slot i = some x) (held : x.flags.lost = false) (cause : LostCause) (reported : Bool) :
    s.becomeLost i cause reported = if reported then ((s.dropped i x).setSlot i (some x.gone)).offer (.cutLost i x.number cause)
      else (s.dropped i x).setSlot i (some x.gone) := by
  unfold State.becomeLost
  simp only [hx, held, Bool.false_eq_true, if_false]
  rw [show State.reevaluateAll _ _ = s.dropped i x from rfl, State.release, State.updSlot_eq (State.dropped_slot hx)]
  rfl

theorem State.becomeLost_self (hx : s.slot i = some x) (held : x.flags.lost = false) (cause : LostCause) (reported : Bool) :
    (s.becomeLost i cause reported).slot i = some x.gone := by
  rw [State.becomeLost_eq hx held]
  have self := (s.dropped i x).slot_setSlot_self i (some x.gone) (State.slot_inside hx)
  split
  · rw [State.slot, (State.offer_frame _ _).2.2.2.2.2.2.2.2.1]
    exact self
  · exact self

theorem State.becomeLost_lost (hx : s.slot i = some x) (lost : x.flags.lost = true) (cause : LostCause) (reported : Bool) :
    s.becomeLost i cause reported = s := by
  unfold State.becomeLost
  simp only [hx, lost, if_true]

theorem State.becomeLost_reported (hx : s.slot i = some x) (held : x.flags.lost = false) (cause : LostCause) :
    Offers s (s.becomeLost i cause true) [.cutLost i x.number cause] := by
  rw [State.becomeLost_eq hx held, if_pos rfl]
  exact ((s.dropped_offers i x).before (State.setSlot_offers _ i _)).after (State.offer_offers _ _)

end

theorem State.becomeLost_ne (s : State) {i j : Nat} (cause : LostCause) (reported : Bool) (other : j ≠ i) :
    (s.becomeLost i cause reported).slot j = s.slot j := by
  cases hx : s.slot i with
  | none => simp [State.becomeLost, hx]
  | some x =>
    cases held : x.flags.lost with
    | true => rw [State.becomeLost_lost hx held]
    | false =>
      have dropped : (s.dropped i x).slot j = s.slot j := by
        rw [State.slot, State.dropped, (State.reevaluateAll_frame _ _).2.2.2.2.2.2.2.2.1]
        exact s.slot_setSlot_ne _ other
      have put := (State.slot_setSlot_ne (s.dropped i x) (some x.gone) other).trans dropped
      rw [State.becomeLost_eq hx held]
      split
      · rw [State.slot, (State.offer_frame _ _).2.2.2.2.2.2.2.2.1]
        exact put
      · exact put

/-- The claim lists lose the slot that becomes LOST, and nothing else. -/
theorem State.becomeLost_claimList {s : State} {i : Nat} {x : Slot} (hx : s.slot i = some x) (held : x.flags.lost = false)
    (cause : LostCause) (reported : Bool) (p : Nat) :
    (s.becomeLost i cause reported).claimList p = (s.claimList p).filter fun c => decide (c.slot ≠ i) := by
  rw [State.becomeLost_eq hx held, ← s.claimList_leaveAll i p]
  split <;> simp [State.claimList, State.dropped, State.leaveAll]

theorem State.becomeLost_offers (s : State) (i : Nat) (cause : LostCause) : ∃ bodies, Offers s (s.becomeLost i cause true) bodies := by
  cases hx : s.slot i with
  | none => exact ⟨[], by simpa [State.becomeLost, hx] using Offers.refl s⟩
  | some x =>
    cases held : x.flags.lost with
    | true => exact ⟨[], by simpa [State.becomeLost_lost hx held] using Offers.refl s⟩
    | false => exact ⟨_, State.becomeLost_reported hx held cause⟩

/-! ### A LOST slot stays as it is -/

/-- Slot `i` is LOST as `x`, and stands in no claim list. -/
def State.Gone (s : State) (i : Nat) (x : Slot) : Prop := s.slot i = some x ∧ x.flags.lost = true ∧ ∀ p, s.stands i p = false

section
variable {s t : State} {i : Nat} {x : Slot}

theorem State.Gone.of_same (h : s.Gone i x) (slots : t.slots = s.slots) (claims : t.claims = s.claims) : t.Gone i x := by
  simpa only [State.Gone, State.slot, State.stands, State.claimList, slots, claims] using h

theorem State.becomeLost_gone (hx : s.slot i = some x) (held : x.flags.lost = false) (cause : LostCause) (reported : Bool) :
    (s.becomeLost i cause reported).Gone i x.gone :=
  ⟨State.becomeLost_self hx held cause reported, rfl, fun p => by simp [State.stands, State.becomeLost_claimList hx held]⟩

theorem State.Gone.becameLost (h : t.Gone i x.gone) : BecameLost t i x := ⟨h.1, h.2.2⟩

theorem State.Gone.tailTest (h : s.Gone i x) : s.tailTest i = s := by
  unfold State.tailTest
  simp only [h.1, h.2.1, if_true]

theorem State.Gone.becomeLost (h : s.Gone i x) (j : Nat) (cause : LostCause) (reported : Bool) :
    (s.becomeLost j cause reported).Gone i x := by
  obtain ⟨hx, lost, absent⟩ := h
  rcases eq_or_ne i j with rfl | other
  · rw [State.becomeLost_lost hx lost]
    exact ⟨hx, lost, absent⟩
  · cases hy : s.slot j with
    | none => exact (by simpa [State.becomeLost, hy] using ⟨hx, lost, absent⟩)
    | some y =>
      cases held : y.flags.lost with
      | true =>
        rw [State.becomeLost_lost hy held]
        exact ⟨hx, lost, absent⟩
      | false =>
        refine ⟨(s.becomeLost_ne cause reported other).trans hx, lost, fun p => ?_⟩
        have := absent p
        simp only [State.stands, State.becomeLost_claimList hy held, List.any_filter] at this ⊢
        rw [List.any_eq_false] at this ⊢
        intro c m h
        exact this c m (Bool.and_eq_true_iff.mp h).2

end

/-! ### Guard violations -/

/-- A guard violation offers reports alone. -/
theorem State.changeCauses_offers (s : State) (x : Causes) (ev : EngineEvent) : ∃ bodies, Offers s (s.changeCauses x ev) bodies := by
  unfold State.changeCauses
  split
  · exact ⟨[], .refl s⟩
  · have put (e : EngineControl) : Offers s { s with engine := e } [] := .of_same rfl rfl rfl rfl rfl
    extract_lets _ e s1
    have told : Offers s s1 _ := (put _).after (State.offer_offers _ _)
    split
    · exact ⟨_, told⟩
    · exact ⟨_, told.before (State.recompute_offers _)⟩

theorem State.violation_offers (s : State) (p : Nat) (entry : Option (Clock × Owner)) :
    ∃ bodies, Offers s (s.violation p entry) bodies := by
  have lost (l : List Nat) : ∀ a : State, ∃ bodies, Offers a (l.foldl (fun a i => a.becomeLost i (.guardViolation p) true) a) bodies := by
    induction l with
    | nil => exact fun a => ⟨[], .refl a⟩
    | cons i l ih =>
      intro a
      obtain ⟨b, first⟩ := a.becomeLost_offers i (.guardViolation p)
      obtain ⟨c, rest⟩ := ih (a.becomeLost i (.guardViolation p) true)
      exact ⟨_, first.trans rest⟩
  have failed : Offers s (s.markFailed p .guardViolation).countTold [] := .of_same rfl rfl rfl rfl rfl
  obtain ⟨a, told⟩ := (s.markFailed p .guardViolation).countTold.changeCauses_offers (s.markFailed p .guardViolation).causesViolated
    (.causeSet (if (s.markFailed p .guardViolation).engine.causes.guardViolation then .pointFailed else .guardViolation))
  obtain ⟨b, others⟩ := lost (s.violators p (entry.map Prod.snd)) ((s.markFailed p .guardViolation).tellViolation false)
  exact ⟨_, ((failed.after told).trans others).trans (State.offer_offers _ _)⟩

theorem State.Gone.violation {s : State} {i : Nat} {x : Slot} (h : s.Gone i x) (p : Nat) (entry : Option (Clock × Owner)) :
    (s.violation p entry).Gone i x := by
  have lost (l : List Nat) : ∀ a : State, a.Gone i x → (l.foldl (fun a i => a.becomeLost i (.guardViolation p) true) a).Gone i x := by
    induction l with
    | nil => exact fun a h => h
    | cons j l ih => exact fun a h => ih _ (h.becomeLost j _ _)
  have told : ((s.markFailed p .guardViolation).tellViolation false).Gone i x := by
    refine h.of_same ?_ ?_ <;> simp [State.markFailed, State.dropThrow]
  have sent := State.offer_onlySends ((s.violators p (entry.map Prod.snd)).foldl (fun a i => a.becomeLost i (.guardViolation p) true)
    ((s.markFailed p .guardViolation).tellViolation false)) (.guardViolation p (s.pt p).state ((entry.map Prod.fst).getD s.clock)
    (entry.map Prod.snd) (s.violators p (entry.map Prod.snd)))
  exact (lost _ _ told).of_same sent.slots sent.claims

/-! ### The notices of a guard -/

theorem Quiet.gone {s t : State} {i : Nat} {x : Slot} (h : Quiet s t) (gone : s.Gone i x) : t.Gone i x := by
  obtain ⟨_, _, _, rfl⟩ := h
  exact gone

/-- The notices leave a LOST slot as it is, and report. -/
theorem State.Gone.guardNotices {s : State} {i : Nat} {x : Slot} (h : s.Gone i x) (p : Nat) (entry before : Bool) (t : Clock) (owner : Owner) :
    (s.guardNotices p entry before t owner).Gone i x ∧ ∃ bodies, Offers s (s.guardNotices p entry before t owner) bodies := by
  have quiet {a b : State} (q : Quiet a b) (o : Offers a b []) (g : a.Gone i x) : b.Gone i x ∧ ∃ bodies, Offers a b bodies :=
    ⟨q.gone g, [], o⟩
  have entered : (s.guardEntry p t owner).Gone i x ∧ ∃ bodies, Offers s (s.guardEntry p t owner) bodies := by
    unfold State.guardEntry
    split
    · exact quiet (s.withdrawn_quiet p) (s.withdrawn_offers p) h
    · exact ⟨h.violation p _, s.violation_offers p _⟩
    · exact ⟨h.violation p _, s.violation_offers p _⟩
    all_goals exact quiet (.refl s) (.refl s) h
  have changed (a : State) (g : a.Gone i x) : (a.guardChange p before).Gone i x ∧ ∃ bodies, Offers a (a.guardChange p before) bodies := by
    unfold State.guardChange State.guardOccupied
    repeat' split
    · exact quiet (.refl a) (.refl a) g
    · exact quiet (a.reevaluate_quiet p) (a.reevaluate_offers p) g
    · exact quiet (a.withdrawn_quiet p) (a.withdrawn_offers p) g
    · exact ⟨g.violation p _, a.violation_offers p _⟩
    all_goals exact quiet (.refl a) (.refl a) g
  unfold State.guardNotices
  obtain ⟨g, _, first⟩ : (if entry then s.guardEntry p t owner else s).Gone i x
      ∧ ∃ bodies, Offers s (if entry then s.guardEntry p t owner else s) bodies := by
    split
    · exact entered
    · exact quiet (.refl s) (.refl s) h
  obtain ⟨g', _, second⟩ := changed _ g
  exact ⟨g', _, first.trans second⟩

/-! ### A point that lies still over an occupied guard -/

/-- The guard of point `p` is occupied, and no THROW of the point is under way. -/
def State.Still (s : State) (p : Nat) : Prop :=
  s.guardClear p = false ∧ ∀ e, (s.pt p).state ≠ .moving e ∧ (s.pt p).state ≠ .returning e

theorem State.Still.of_same {s t : State} {p : Nat} (h : s.Still p) (sections : t.sections = s.sections) (points : t.points = s.points) :
    t.Still p := by
  simpa only [State.Still, State.guardClear, State.sec, State.pt, sections, points] using h

/-- A withdrawal puts a point that lies still at rest. -/
theorem State.Still.withdraw {s : State} {p : Nat} (h : s.Still p) : (s.withdraw p).Still p := by
  obtain ⟨occupied, still⟩ := h
  refine ⟨((s.withdraw_quiet p).sameOutlook p).guardClear.trans occupied, fun e => ?_⟩
  cases st : (s.pt p).state with
  | pending l =>
    rw [State.pt_withdraw st]
    exact ⟨nofun, nofun⟩
  | _ =>
    have same : s.withdraw p = s := by simp [State.withdraw, st]
    rw [same]
    exact still e

theorem State.Still.reevaluate {s : State} {p : Nat} (h : s.Still p) (q : Nat) : (s.reevaluate q).Still p := by
  refine ⟨((s.reevaluate_quiet q).sameOutlook p).guardClear.trans h.1, fun e => ?_⟩
  rcases State.reevaluate_occupied h.1 q with same | same
  · rw [same]
    exact h.2 e
  · rw [same]
    exact h.withdraw.2 e

theorem State.Still.reevaluateAll {s : State} {p : Nat} (h : s.Still p) (l : List Nat) : (s.reevaluateAll l).Still p := by
  induction l generalizing s with
  | nil => exact h
  | cons q l ih => exact ih (h.reevaluate q)

/-- A withdrawal leaves the point at rest where it lay: its guard is occupied. -/
theorem State.withdrawn_occupied {s : State} {p : Nat} (occupied : s.guardClear p = false) : s.withdrawn p = s.withdraw p := by
  have none : (s.withdraw p).throwDue p = none := by
    refine Option.eq_none_iff_forall_not_mem.mpr fun leg due => ?_
    have clear := (State.throwDue_eq_some due).2.2
    rw [((s.withdraw_quiet p).sameOutlook p).guardClear, occupied] at clear
    cases clear
  have rest : (s.withdraw p).evaluateAtRest p = s.withdraw p := by simp only [State.evaluateAtRest, none]
  unfold State.withdrawn State.reevaluate
  split
  · exact rest
  · rename_i e pending
    exfalso
    cases st : (s.pt p).state with
    | pending l =>
      rw [State.pt_withdraw st] at pending
      cases pending
    | _ =>
      have same : s.withdraw p = s := by simp [State.withdraw, st]
      rw [same, st] at pending
      cases pending
  · rfl

/-- Told of an entry, such a point does no more than withdraw a waiting THROW. -/
theorem State.Still.guardNotices {s : State} {p : Nat} (h : s.Still p) (before : Bool) (t : Clock) (owner : Owner) :
    Quiet s (s.guardNotices p true before t owner) ∧ Offers s (s.guardNotices p true before t owner) [] := by
  have entered : (Quiet s (s.guardEntry p t owner) ∧ Offers s (s.guardEntry p t owner) []) ∧ (s.guardEntry p t owner).Still p := by
    unfold State.guardEntry
    cases st : (s.pt p).state with
    | pending l =>
      refine ⟨⟨s.withdrawn_quiet p, s.withdrawn_offers p⟩, ?_⟩
      rw [State.withdrawn_occupied h.1]
      exact h.withdraw
    | moving e => exact absurd st (h.2 e).1
    | returning e => exact absurd st (h.2 e).2
    | _ => exact ⟨⟨.refl s, .refl s⟩, h⟩
  have changed (a : State) (still : a.Still p) : Quiet a (a.guardChange p before) ∧ Offers a (a.guardChange p before) [] := by
    unfold State.guardChange
    rw [still.1]
    split
    · exact ⟨.refl a, .refl a⟩
    · rw [if_neg Bool.false_ne_true]
      unfold State.guardOccupied
      cases st : (a.pt p).state with
      | pending l => exact ⟨a.withdrawn_quiet p, a.withdrawn_offers p⟩
      | returning e => exact absurd st (still.2 e).2
      | _ => exact ⟨.refl a, .refl a⟩
  obtain ⟨⟨quiet, offers⟩, still⟩ := entered
  obtain ⟨quiet', offers'⟩ := changed _ still
  exact ⟨quiet.trans quiet', offers.before offers'⟩

/-- A crossing out of an occupied guard: the point re-evaluates where the guard is clear then. -/
theorem State.guardNotices_out_eq (s : State) (p : Nat) (t : Clock) (owner : Owner) :
    s.guardNotices p false false t owner = s ∨ s.guardNotices p false false t owner = s.reevaluate p := by
  change s.guardChange p false = s ∨ s.guardChange p false = s.reevaluate p
  unfold State.guardChange
  cases s.guardClear p with
  | false => exact .inl rfl
  | true => exact .inr rfl

theorem State.guardNotices_out (s : State) (p : Nat) (t : Clock) (owner : Owner) :
    Quiet s (s.guardNotices p false false t owner) ∧ Offers s (s.guardNotices p false false t owner) [] := by
  rcases s.guardNotices_out_eq p t owner with e | e <;> rw [e]
  · exact ⟨.refl s, .refl s⟩
  · exact ⟨s.reevaluate_quiet p, s.reevaluate_offers p⟩

end Sys2Proof.Machine

/-! SUPPORT. A slot's crossing from its role step to the end of the command (R56, R80, R81). -/

namespace Sys2Proof.Machine

/-! ### The role step -/

section
variable {s : State} {i : Nat} {x z : Slot} {c : Counter} {time : Clock}

/-- The points that the tracking table tells of a crossing of slot `i` that has led from `s` to `t` (R80, R106). -/
def State.toldOf (s t : State) (i : Nat) : List Nat := (ids 63).filter fun p => s.stands i p || t.stands i p

theorem State.mem_toldOf {s t : State} {i p : Nat} (stands : s.stands i p = true ∨ t.stands i p = true) : p ∈ s.toldOf t i :=
  List.mem_filter.mpr ⟨mem_ids.mpr (stands.elim State.stands_inside State.stands_inside), Bool.or_eq_true_iff.mpr stands⟩

/-- A head crossing: the role step on the slot moved, the tail test, and the points told. -/
theorem State.takeCrossing_head (hx : s.slot i = some x) (down : s.downstream x.head c = true) (moved : HeadMoved s x c time z) :
    ∃ v, Told (s.setSlot i (some z)) v ∧ Offers s v (stalledReport i z)
      ∧ s.takeCrossing i c .down time false = ((v.roleStep i x.flags.lost c).tailTest i).reevaluateAll
        (s.toldOf ((v.roleStep i x.flags.lost c).tailTest i) i) := by
  obtain ⟨v, told, offers, role⟩ := State.headCrossing_moved (State.slot_inside hx) moved
  refine ⟨v, told, offers, ?_⟩
  have sorted : s.sortCrossing i x c .down time = v.roleStep i x.flags.lost c := by
    rw [← role]
    exact if_pos down
  unfold State.takeCrossing
  simp only [hx, sorted, Bool.false_eq_true, if_false]
  rfl

theorem State.takeCrossing_lateral (hx : s.slot i = some x) (passed : s.downstream x.head c = false) :
    s.takeCrossing i c .down time false
      = ((s.lateral i c).tailTest i).reevaluateAll (s.toldOf ((s.lateral i c).tailTest i) i) := by
  have sorted : s.sortCrossing i x c .down time = s.lateral i c := if_neg (by simp [passed])
  unfold State.takeCrossing
  simp only [hx, sorted, Bool.false_eq_true, if_false]
  rfl

/-- What a head crossing's first steps leave of a slot. -/
theorem HeadMoved.keeps (moved : HeadMoved s x c time z) : z.path = x.path ∧ z.unresolved = x.unresolved ∧ z.target = x.target
    ∧ z.reservation = x.reservation ∧ z.number = x.number ∧ z.expected = x.expected ∧ z.flags.lost = x.flags.lost
    ∧ z.flags.retargeted = x.flags.retargeted := by
  obtain ⟨samples, estimate, deadline, -, -, rfl⟩ := moved
  exact ⟨rfl, rfl, rfl, rfl, rfl, rfl, rfl, rfl⟩

/-- What the clearing of a slot reads stays at a head crossing's first steps. -/
theorem HeadMoved.counts (moved : HeadMoved s x c time z) : z.ordinal = x.ordinal ∧ z.counted = x.counted ∧ z.cleared = x.cleared := by
  obtain ⟨samples, estimate, deadline, -, -, rfl⟩ := moved
  exact ⟨rfl, rfl, rfl⟩

end

/-! ### From the role step to the end -/

/-- After the role step's state `c` no more has happened than the tail test, re-evaluations and what the ports send. -/
structure Ended (c t : State) (i : Nat) : Prop where
  slots : t.slots = c.slots
  tables : t.tables = c.tables
  cutList : t.cutList = c.cutList
  binder : t.binder = c.binder
  engine : t.engine = c.engine
  signal : t.signal = c.signal
  sections : t.sections = c.sections
  claims : t.claims = (c.tailTest i).claims
  offers : Offers c t []

theorem Ended.of_quiet {c q t : State} {i : Nat} (quiet : Quiet (c.tailTest i) q) (told : Offers (c.tailTest i) q []) (sends : OnlySends q t)
    (sent : Offers q t []) : Ended c t i := by
  have offers := ((c.tailTest_claimed i).offers.after told).before sent
  obtain ⟨claims, e⟩ := c.tailTest_claimed i
  rw [e] at quiet
  obtain ⟨_, _, _, rfl⟩ := quiet
  exact ⟨sends.slots, sends.tables, sends.cutList, sends.binder, sends.engine, sends.signal, sends.sections, by rw [e]; exact sends.claims, offers⟩

/-- The slot has become `w`, and its claims have been brought into line from the base down. -/
def Resettled (u c : State) (i base : Nat) (w : Slot) : Prop :=
  ∃ a : State, a.tables = u.tables ∧ a.slot i = some w ∧ (∀ j, j ≠ i → a.slot j = u.slot j) ∧ Told (a.alignClaims i base) c

theorem Resettled.ended {u c t : State} {i base : Nat} {w : Slot} (h : Resettled u c i base w) (e : Ended c t i) :
    t.slot i = some w ∧ (∀ j, j ≠ i → t.slot j = u.slot j) ∧ ClaimsInLine u t i w base := by
  obtain ⟨a, tables, slot, others, told⟩ := h
  have slots : t.slots = a.slots := by
    rw [e.slots]
    obtain ⟨_, same⟩ := a.alignClaims_claimed i base
    rw [same] at told
    obtain ⟨_, _, rfl⟩ := told
    rfl
  refine ⟨?_, fun j other => ?_, State.claimsInLine tables slot told e.claims⟩
  · rw [State.slot, slots]
    exact slot
  · rw [State.slot, slots]
    exact others j other

/-- A role step that keeps the slots leaves them so at the end. -/
theorem Ended.slot {c t : State} {i : Nat} (e : Ended c t i) (j : Nat) : t.slot j = c.slot j := congrArg (readAt · none j) e.slots

/-- A slot that has become LOST is so at the end. -/
theorem Ended.gone {c t : State} {i : Nat} {x : Slot} (e : Ended c t i) (gone : c.Gone i x) : t.Gone i x :=
  gone.of_same e.slots (by rw [e.claims, gone.tailTest])

theorem State.withdraw_congr {s t : State} (p : Nat) (points : t.points = s.points) : (t.withdraw p).points = (s.withdraw p).points := by
  have same (k : Nat) : t.pt k = s.pt k := congrArg (fun v => readAt v PointRuntime.reset k) points
  unfold State.withdraw
  rw [same]
  split
  · exact congrArg (writeAt · p _) points
  · exact points

/-! ### The state in which the role step is made -/

/-- The state `s`, in which slot `i` makes its role step, is `u` but for the sections and for that slot, which is `z`. -/
structure Approached (u s : State) (i : Nat) (x z : Slot) : Prop where
  tables : s.tables = u.tables
  cutList : s.cutList = u.cutList
  binder : s.binder = u.binder
  engine : s.engine = u.engine
  points : s.points = u.points
  slot : s.slot i = some z
  others : ∀ j, j ≠ i → s.slot j = u.slot j
  was : u.slot i = some x
  target : z.target = x.target
  reservation : z.reservation = x.reservation

/-- The head has moved, and no more has been done than told. -/
theorem Told.approached {u a : State} {sections : Sections} {i : Nat} {x z : Slot} {c : Counter} {time : Clock}
    (told : Told (State.setSlot { u with sections := sections } i (some z)) a) (hx : u.slot i = some x) (moved : HeadMoved u x c time z) :
    Approached u a i x z := by
  obtain ⟨_, _, rfl⟩ := told
  obtain ⟨-, -, target, reservation, -⟩ := moved.keeps
  exact ⟨rfl, rfl, rfl, rfl, rfl, State.slot_setSlot_self _ i _ (State.slot_inside hx), fun j other => State.slot_setSlot_ne _ _ other, hx,
    target, reservation⟩

/-- A slot marked, its reservation kept, leaves every reserved count as it was. -/
theorem Approached.reserved {u s v a : State} {i : Nat} {x y z : Slot} (h : Approached u s i x z) (target : y.target = z.target)
    (reservation : y.reservation = z.reservation) (before : v.slots = u.slots) (own : a.slot i = some y)
    (others : ∀ j, j ≠ i → a.slot j = u.slot j) (k : Nat) : a.reserved k = v.reserved k := by
  refine State.reserved_congr (fun j => ?_) k
  rw [show v.slot j = u.slot j from congrArg (readAt · none j) before]
  rcases eq_or_ne j i with rfl | other
  · rw [own, h.was]
    simp [target, reservation, h.target, h.reservation]
  · rw [others j other]

end Sys2Proof.Machine

/-! PROOF. Settlement at a guard-in counter (R18, R76, R84, R87 to R90, R96). -/

namespace Sys2Proof.Machine

/-! ### The settlement of a slot (R87) -/

section
variable {s : State} {i p : Nat} {z : Slot}

/-- At a point thrown the slot becomes LOST, whatever its path. -/
theorem State.settle_thrown (hz : s.slot i = some z)
    (thrown : (∃ e, (s.pt p).state = .moving e) ∨ ∃ e, (s.pt p).state = .returning e) : ∃ cause, s.settle i p = s.becomeLost i cause true
      ∧ (legAt z.path p ≠ none ∨ Covers s z p → cause = .guardViolation p)
      ∧ (legAt z.path p = none → ¬Covers s z p → cause = .offPath p) := by
  unfold State.settle
  simp only [hz]
  cases leg : legAt z.path p with
  | some e =>
    refine ⟨.guardViolation p, ?_, fun _ => rfl, nofun⟩
    unfold State.settleOnPath
    rcases thrown with ⟨l, st⟩ | ⟨l, st⟩ <;> simp only [st]
  | none =>
    by_cases covers : Covers s z p
    · refine ⟨.guardViolation p, ?_, fun _ => rfl, fun _ outside => absurd covers outside⟩
      simp only [State.unresolvedCovers_iff.mpr covers, if_true]
      rcases thrown with ⟨l, st⟩ | ⟨l, st⟩ <;> simp only [st]
    · refine ⟨.offPath p, ?_, fun h => absurd (h.resolve_left (fun n => n rfl)) covers, fun _ _ => rfl⟩
      rw [if_neg (mt State.unresolvedCovers_iff.mp covers)]

/-- At a point that lies still, a slot whose path names it is settled by the end the point lies at once a waiting THROW is withdrawn. -/
theorem State.settle_onPath (hz : s.slot i = some z) (still : s.Still p) {leg : Leg} (onPath : legAt z.path p = some leg) :
    s.settle i p = (s.withdraw p).settleBy i p leg ((s.withdraw p).pt p).lieEnd := by
  unfold State.settle
  simp only [hz, onPath]
  unfold State.settleOnPath
  cases st : (s.pt p).state with
  | moving e => exact absurd st (still.2 e).1
  | returning e => exact absurd st (still.2 e).2
  | pending e => simp only [State.withdrawn_occupied still.1, State.pt_withdraw st, PointRuntime.lieEnd]
  | _ => rw [show s.withdraw p = s by simp [State.withdraw, st]]

theorem State.settle_covered (hz : s.slot i = some z) (still : s.Still p) (off : legAt z.path p = none) (covers : Covers s z p) :
    s.settle i p = s := by
  unfold State.settle
  simp only [hz, off, State.unresolvedCovers_iff.mpr covers, if_true]
  cases st : (s.pt p).state with
  | moving e => exact absurd st (still.2 e).1
  | returning e => exact absurd st (still.2 e).2
  | _ => rfl

theorem State.settle_offPath (hz : s.slot i = some z) (off : legAt z.path p = none) (outside : ¬Covers s z p) :
    s.settle i p = s.becomeLost i (.offPath p) true := by
  unfold State.settle
  simp only [hz, off]
  rw [if_neg (mt State.unresolvedCovers_iff.mp outside)]

end

/-! ### A slot CORNERED, and one without a known end (R88, R90) -/

/-- Slot `z` once it is CORNERED. -/
def Slot.corner (z : Slot) : Slot := { z with flags := { z.flags with cornered := true } }

/-- Slot `z` once it is UNRESOLVED at point `p`. -/
def State.lostSight (s : State) (z : Slot) (p : Nat) : Slot :=
  { z with
    target := none
    path := s.pointPath p
    unresolved := some p
    reservation := 0
    flags := { z.flags with overRoom := false, retargeted := z.flags.retargeted || z.target.isSome } }

section
variable {s : State} {i p : Nat} {z : Slot}

theorem State.cornered_told (hz : s.slot i = some z) (pathLeg lying : Leg) : ∃ a, Told (s.setSlot i (some z.corner)) a
    ∧ Offers s a [.cutCornered i z.number p pathLeg lying]
    ∧ s.cornered i p pathLeg lying = a.takeRetarget i p lying (a.retarget z.corner p lying) p := by
  refine ⟨(s.setSlot i (some z.corner)).offer (.cutCornered i z.number p pathLeg lying), State.offer_told _ _,
    (s.setSlot_offers i _).after (State.offer_offers _ _), ?_⟩
  unfold State.cornered
  simp only [hz]
  rfl

theorem State.becomeUnresolved_told (hz : s.slot i = some z) :
    Told ((s.setSlot i (some (s.lostSight z p))).alignClaims i p) (s.becomeUnresolved i p)
      ∧ Offers s (s.becomeUnresolved i p) [.cutRetargeted i z.number p none z.target (.unresolved p)] := by
  unfold State.becomeUnresolved
  simp only [hz]
  exact ⟨State.offer_told _ _, ((s.setSlot_offers i _).before (State.alignClaims_claimed _ i p).offers).after (State.offer_offers _ _)⟩

end

/-! ### The outcome of the settlement -/

theorem Told.still {s t : State} {p : Nat} (h : Told s t) (still : s.Still p) : t.Still p := by
  obtain ⟨_, _, rfl⟩ := h
  exact still

theorem Claimed.still {s t : State} {p : Nat} (h : Claimed s t) (still : s.Still p) : t.Still p := by
  obtain ⟨_, rfl⟩ := h
  exact still

section
variable {u s : State} {i p : Nat} {x z : Slot}

theorem Approached.withdraw_slot (h : Approached u s i x z) : (s.withdraw p).slot i = some z := by
  rw [State.slot, (s.withdraw_frame p).2.2.2.2.2.2.2.2.1]
  exact h.slot

theorem Approached.withdraw_ne (h : Approached u s i x z) {j : Nat} (other : j ≠ i) : (s.withdraw p).slot j = u.slot j := by
  rw [State.slot, (s.withdraw_frame p).2.2.2.2.2.2.2.2.1]
  exact h.others j other

/-- Route resolution goes by the same tables, reservations and points once the slot has been marked. -/
theorem Approached.sameRoutes (h : Approached u s i x z) {a : State} {y : Slot} (target : y.target = z.target)
    (reservation : y.reservation = z.reservation) (told : Told ((s.withdraw p).setSlot i (some y)) a) :
    SameRoutes (u.withdraw p) a := by
  obtain ⟨_, _, rfl⟩ := told
  refine ⟨?_, h.reserved target reservation (by simp) (State.slot_setSlot_self _ i _ (State.slot_inside h.was))
    (fun j other => (State.slot_setSlot_ne _ _ other).trans (h.withdraw_ne other)), fun q => ?_⟩
  · exact ((s.withdraw_frame p).2.2.2.2.1.trans h.tables).trans (u.withdraw_frame p).2.2.2.2.1.symm
  · have points := State.withdraw_congr p h.points
    exact congrArg (fun v => (readAt v PointRuntime.reset q).lieEnd) points

/-- The other leg: CORNERED and retargeted (R88, R89). -/
theorem Approached.cornered (h : Approached u s i x z) (pathLeg lying : Leg) :
    Resettled u ((s.withdraw p).cornered i p pathLeg lying) i p
        ((u.withdraw p).retargeted z.corner p lying ((u.withdraw p).retarget z.corner p lying))
      ∧ Offers s ((s.withdraw p).cornered i p pathLeg lying) [.cutCornered i z.number p pathLeg lying,
        .cutRetargeted i z.number p (some lying) z.target ((u.withdraw p).retarget z.corner p lying)]
      ∧ (s.Still p → ((s.withdraw p).cornered i p pathLeg lying).Still p) := by
  obtain ⟨a, told, first, e⟩ := State.cornered_told (p := p) h.withdraw_slot pathLeg lying
  have routes := h.sameRoutes (y := z.corner) rfl rfl told
  have inside := State.slot_inside h.was
  have slots : a.slots = ((s.withdraw p).setSlot i (some z.corner)).slots := by
    obtain ⟨_, _, rfl⟩ := told
    rfl
  have own : a.slot i = some z.corner := (congrArg (readAt · none i) slots).trans (State.slot_setSlot_self _ i _ inside)
  obtain ⟨aligned, second⟩ := State.takeRetarget_told own p lying (a.retarget z.corner p lying) p
  rw [← e, routes.retarget, routes.retargeted] at aligned
  rw [← e, routes.retarget] at second
  refine ⟨⟨a.setSlot i _, ?_, State.slot_setSlot_self _ i _ inside, fun j other => ?_, aligned⟩, ?_, fun still => ?_⟩
  · exact routes.tables.trans (u.withdraw_frame p).2.2.2.2.1
  · rw [State.slot_setSlot_ne _ _ other]
    exact ((congrArg (readAt · none j) slots).trans (State.slot_setSlot_ne _ _ other)).trans (h.withdraw_ne other)
  · exact ((s.withdraw_offers p).after first).trans second
  · have marked : a.Still p := told.still (still.withdraw.of_same rfl rfl)
    exact aligned.still ((State.alignClaims_claimed _ i p).still (marked.of_same rfl rfl))

/-- No known end: UNRESOLVED at the point (R90). -/
theorem Approached.unresolved (h : Approached u s i x z) :
    Resettled u ((s.withdraw p).becomeUnresolved i p) i p (u.lostSight z p)
      ∧ Offers s ((s.withdraw p).becomeUnresolved i p) [.cutRetargeted i z.number p none z.target (.unresolved p)]
      ∧ (s.Still p → ((s.withdraw p).becomeUnresolved i p).Still p) := by
  obtain ⟨aligned, offers⟩ := State.becomeUnresolved_told (p := p) h.withdraw_slot
  have tables : (s.withdraw p).tables = u.tables := (s.withdraw_frame p).2.2.2.2.1.trans h.tables
  have sight : (s.withdraw p).lostSight z p = u.lostSight z p := by
    unfold State.lostSight State.pointPath
    rw [tables]
  rw [sight] at aligned
  refine ⟨⟨(s.withdraw p).setSlot i _, tables, State.slot_setSlot_self _ i _ (State.slot_inside h.was), fun j other => ?_, aligned⟩, (s.withdraw_offers p).after offers,
    fun still => aligned.still ((State.alignClaims_claimed _ i p).still (still.withdraw.of_same rfl rfl))⟩
  rw [State.slot_setSlot_ne _ _ other, h.withdraw_ne other]

end

/-! ### The crossing -/

/-- The end by which a slot is settled, a waiting THROW withdrawn. -/
def State.lyingEnd (u : State) (p : Nat) : Option Leg :=
  match (u.pt p).state with
  | .rest e => some e
  | .pending e => some e.other
  | .waitRetry _ | .failed => (u.pt p).detected
  | .unknown | .moving _ | .returning _ => none

theorem State.lyingEnd_eq {u : State} {p : Nat} (moving : ∀ e, (u.pt p).state ≠ .moving e) (returning : ∀ e, (u.pt p).state ≠ .returning e) :
    ((u.withdraw p).pt p).lieEnd = u.lyingEnd p := by
  unfold State.lyingEnd
  cases st : (u.pt p).state with
  | pending e =>
    rw [State.pt_withdraw st]
    rfl
  | moving e => exact absurd st (moving e)
  | returning e => exact absurd st (returning e)
  | _ =>
    have same : u.withdraw p = u := by simp [State.withdraw, st]
    rw [same, PointRuntime.lieEnd, st]

theorem State.guardClear_of_holds {s : State} {p i : Nat} (holds : (s.sec (.guard p)).holds i = true) : s.guardClear p = false := by
  unfold State.guardClear
  cases runs : (s.sec (.guard p)).runs with
  | nil => simp [Section.holds, runs] at holds
  | cons r l => simp

/-- The crossing at a guard-in counter up to the settlement, and what comes after it. -/
theorem AxleHanded.settled {frame : List Byte} {s u : State} {d p i n : Nat} {time : Clock} {x z : Slot}
    (handed : AxleHanded s u frame d .down time) (role : u.joint d = some ⟨.guardIn p, .sec (.pointLink p), .sec (.guard p)⟩)
    (inside : 1 ≤ p ∧ p ≤ 63) (head : (u.sec (.pointLink p)).runs.head? = some ⟨.slot i, n⟩)
    (fits : AxleFits .tail (u.sec (.guard p)).runs (.slot i)) (normal : (u.sec (.guard p)).disturbance = none) (hx : u.slot i = some x)
    (held : x.flags.lost = false) (down : u.downstream x.head (.guardIn p) = true) (moved : HeadMoved u x (.guardIn p) time z) :
    ∃ a t, exec (.telegramReceived .t false frame) s = .next t ∧ Approached u a i x z ∧ a.guardClear p = false
      ∧ Offers u a (stalledReport i z) ∧ (∀ y, (a.settle i p).Gone i y → t.Gone i y ∧ ∃ after, Offers (a.settle i p) t after)
      ∧ ((a.settle i p).Still p → Ended (a.settle i p) t i) ∧ t.tables = u.tables ∧ t.cutList = u.cutList ∧ t.binder = u.binder := by
  obtain ⟨t, run, sends, sent⟩ := handed.crossed role
  obtain ⟨sections, crossed, holds⟩ := State.crossBetween_down (d := d) (time := time) (.guardIn p) (by nofun)
    (by simpa [SectionId.inRange] using inside) head fits normal
  obtain ⟨a, told, offers, taken⟩ := State.takeCrossing_head (s := { u with sections := sections }) hx down moved
  have cross : u.cross ⟨.guardIn p, .sec (.pointLink p), .sec (.guard p)⟩ .down d time
      = ((((a.settle i p).tailTest i).reevaluateAll (State.toldOf { u with sections := sections } ((a.settle i p).tailTest i) i)).guardNotices
        p true (u.guardClear p) time (.slot i)) := by
    change State.guardNotices (u.crossBetween (.guardIn p) (.pointLink p) (.guard p) .down d time).1 p true _ time
      (u.crossBetween (.guardIn p) (.pointLink p) (.guard p) .down d time).2 = _
    rw [crossed]
    simp only
    rw [taken, held]
    rfl
  rw [cross] at sends sent
  refine ⟨a, t, run, told.approached hx moved, ?_, ?_, fun y gone => ?_, fun still => ?_, ?_⟩
  · obtain ⟨_, _, rfl⟩ := told
    exact State.guardClear_of_holds holds
  · have into : Offers u { u with sections := sections } [] := .of_same rfl rfl rfl rfl rfl
    exact into.after offers
  · rw [gone.tailTest] at sends sent
    have after := Quiet.gone (State.reevaluateAll_quiet _ (State.toldOf { u with sections := sections } (a.settle i p) i)) gone
    obtain ⟨noticed, bodies, reported⟩ := after.guardNotices p true (u.guardClear p) time (.slot i)
    exact ⟨noticed.of_same sends.slots sends.claims, bodies, ((State.reevaluateAll_offers _ _).after reported).before sent⟩
  · have claimed : ((a.settle i p).tailTest i).Still p := still.of_same (by simp) (by
      obtain ⟨_, e⟩ := (a.settle i p).tailTest_claimed i
      rw [e])
    obtain ⟨quiet, reported⟩ := (claimed.reevaluateAll (State.toldOf { u with sections := sections }
      ((a.settle i p).tailTest i) i)).guardNotices (u.guardClear p) time (.slot i)
    exact .of_quiet ((State.reevaluateAll_quiet _ _).trans quiet) ((State.reevaluateAll_offers _ _).after reported) sends sent
  · obtain ⟨_, _, rfl⟩ := told
    refine ⟨sends.tables.trans ?_, sends.cutList.trans ?_, sends.binder.trans ?_⟩ <;> simp

theorem State.Still.becomeLost {s : State} {p : Nat} (h : s.Still p) (i : Nat) (cause : LostCause) : (s.becomeLost i cause true).Still p := by
  cases hx : s.slot i with
  | none => simpa [State.becomeLost, hx] using h
  | some x =>
    cases held : x.flags.lost with
    | true => rwa [State.becomeLost_lost hx held]
    | false =>
      have dropped : ((s.dropped i x).setSlot i (some x.gone)).Still p := by
        refine State.Still.of_same (State.Still.reevaluateAll (p := p) ?_ (s.standing i)) rfl rfl
        exact h.of_same rfl rfl
      rw [State.becomeLost_eq hx held, if_pos rfl]
      obtain ⟨_, _, e⟩ := State.offer_told ((s.dropped i x).setSlot i (some x.gone)) (.cutLost i x.number cause)
      rw [e]
      exact dropped.of_same rfl rfl

/-- Settles O39, by the state of the point and the end it lies at. -/
theorem settlementAtTheGuardIn : Obligations.SettlementAtTheGuardIn := by
  unfold Obligations.SettlementAtTheGuardIn
  intro frame s u v d p i n time x z lying handed role low high head fits normal hx held down moved hv hlying
  obtain ⟨a, t, run, near, occupied, offers, lost, ended, tables, cutList, binder⟩ :=
    handed.settled role ⟨low, high⟩ head fits normal hx held down moved
  obtain ⟨path, unresolved, target, reservation, number, -, flag, -⟩ := moved.keeps
  have covers (h : Slot) (same : h.unresolved = x.unresolved) : Covers a h p ↔ Covers u x p := by
    simp only [Covers, same, State.below_congr near.tables]
  have point : a.pt p = u.pt p := congrArg (fun v => readAt v PointRuntime.reset p) near.points
  rw [held] at flag
  subst hv
  replace hlying : lying = u.lyingEnd p := hlying
  refine ⟨t, run, tables, cutList, binder, fun thrown => ?_, fun moving returning => ?_⟩
  · obtain ⟨cause, settled, onWay, offPath⟩ := State.settle_thrown near.slot (point ▸ thrown)
    obtain ⟨gone, after, reported⟩ := lost _ (settled ▸ State.becomeLost_gone near.slot flag cause true)
    rw [path, covers z unresolved] at onWay offPath
    refine ⟨gone.becameLost, cause, after, onWay, offPath, ?_⟩
    have cut := State.becomeLost_reported near.slot flag cause
    rw [← settled, number] at cut
    have := (offers.trans cut).trans reported
    rw [List.append_assoc] at this
    exact this.reported
  · have still : a.Still p := ⟨occupied, fun e => point ▸ ⟨moving e, returning e⟩⟩
    have reported {bodies : List ReportBody} (settled : Offers a (a.settle i p) bodies) (stays : (a.settle i p).Still p) :
        Reported u t (stalledReport i z ++ bodies) := ((offers.trans settled).before (ended stays).offers).reported
    have kept (slots : (a.settle i p).slots = a.slots) (settled : Offers a (a.settle i p) []) (stays : (a.settle i p).Still p) :
        (∀ j, j ≠ i → t.slot j = u.slot j) ∧ t.slot i = some z ∧ Reported u t (stalledReport i z) := by
      have same (j : Nat) : t.slot j = a.slot j := ((ended stays).slot j).trans (congrArg (readAt · none j) slots)
      have told := reported settled stays
      rw [List.append_nil] at told
      exact ⟨fun j other => (same j).trans (near.others j other), (same i).trans near.slot, told⟩
    cases onPath : legAt x.path p with
    | some leg =>
      have settled : a.settle i p = (a.withdraw p).settleBy i p leg lying := by
        have := State.settle_onPath near.slot still (path ▸ onPath)
        rwa [State.lyingEnd_eq (fun e => (still.2 e).1) (fun e => (still.2 e).2), State.lyingEnd, point, ← State.lyingEnd,
          ← hlying] at this
      cases lies : lying with
      | none =>
        rw [lies] at settled
        obtain ⟨resettled, told, stays⟩ := near.unresolved
        rw [show State.becomeUnresolved _ i p = a.settle i p from settled.symm] at resettled told stays
        obtain ⟨slot, others, line⟩ := resettled.ended (ended (stays still))
        rw [number, target] at told
        refine ⟨others, fun l hl => ?_, nofun, nofun⟩
        cases hl
        exact ⟨nofun, nofun, fun _ => ⟨_, rfl, slot, line, reported told (stays still)⟩⟩
      | some e =>
        rw [lies] at settled
        rcases Leg.eq_or_other e leg with rfl | rfl
        · have same : a.settle i p = a.withdraw p := settled.trans (if_pos rfl)
          obtain ⟨others, slot, told⟩ := kept (by rw [same]; simp) (by rw [same]; exact a.withdraw_offers p) (by rw [same]; exact still.withdraw)
          refine ⟨others, fun l hl => ?_, nofun, nofun⟩
          cases hl
          exact ⟨fun _ => ⟨slot, told⟩, fun h => absurd (Option.some.inj h).symm (Leg.other_ne e), nofun⟩
        · have turned : a.settle i p = (a.withdraw p).cornered i p leg leg.other := settled.trans (if_neg (Leg.other_ne leg))
          obtain ⟨resettled, told, stays⟩ := near.cornered leg leg.other
          rw [← turned] at resettled told stays
          obtain ⟨slot, others, line⟩ := resettled.ended (ended (stays still))
          rw [number, target] at told
          refine ⟨others, fun l hl => ?_, nofun, nofun⟩
          cases hl
          exact ⟨fun h => absurd (Option.some.inj h) (Leg.other_ne leg), fun _ => ⟨z.corner, _, rfl, State.retarget_routed _ _ p _, slot, line,
            reported told (stays still)⟩, nofun⟩
    | none =>
      by_cases cov : Covers u x p
      · have same := State.settle_covered near.slot still (path ▸ onPath) ((covers z unresolved).mpr cov)
        obtain ⟨others, slot, told⟩ := kept (by rw [same]) (by rw [same]; exact .refl a) (by rw [same]; exact still)
        exact ⟨others, nofun, fun _ _ => ⟨slot, told⟩, fun _ outside => absurd cov outside⟩
      · have cut := State.settle_offPath near.slot (path ▸ onPath) (mt (covers z unresolved).mp cov)
        have stays : (a.settle i p).Still p := cut ▸ still.becomeLost i _
        have gone := (ended stays).gone (cut ▸ State.becomeLost_gone near.slot flag (.offPath p) true)
        have told := State.becomeLost_reported near.slot flag (.offPath p)
        rw [← cut, number] at told
        refine ⟨fun j other => ?_, nofun, fun _ h => absurd h cov, fun _ _ => ⟨gone.becameLost, reported told stays⟩⟩
        rw [(ended stays).slot, cut, State.becomeLost_ne _ _ _ other, near.others j other]

end Sys2Proof.Machine

/-! PROOF. The leg check and the division check at a guard-out counter (R18 to R20, R89, R91 to R93, R96, R123). -/

namespace Sys2Proof.Machine

/-! ### A point that is failed (R122, R123) -/

/-- The start of a THROW leaves how a point lies. -/
theorem PointRuntime.Sent.lieEnd {a b : PointRuntime} (h : a.Sent b) : b.lieEnd = a.lieEnd := by
  obtain rfl | ⟨_, _, _, rfl⟩ := h
  · rfl
  · unfold PointRuntime.lieEnd PointRuntime.started
    cases a.state <;> rfl

theorem State.recompute_sent (s : State) (q : Nat) : (s.pt q).Sent (s.recompute.pt q) := s.recompute_onlySends.sent q

theorem State.changeCauses_sent (s : State) (x : Causes) (ev : EngineEvent) (q : Nat) : (s.pt q).Sent ((s.changeCauses x ev).pt q) := by
  unfold State.changeCauses
  split
  · exact .inl rfl
  · extract_lets _ e s1
    have told : (s.pt q).Sent (s1.pt q) := (State.offer_onlySends _ _).sent q
    split
    · exact told
    · exact told.trans (s1.recompute_sent q)

/-- Point `p` is FAILED, with `kind` as its last fault. -/
def State.FailedBy (s : State) (p : Nat) (kind : PointFaultKind) : Prop := (s.pt p).state = .failed ∧ (s.pt p).lastFault = some kind

theorem PointRuntime.Sent.failedBy {s t : State} {p : Nat} {kind : PointFaultKind} (h : (s.pt p).Sent (t.pt p)) (failed : s.FailedBy p kind) :
    t.FailedBy p kind := by
  obtain ⟨st, fault⟩ := failed
  unfold State.FailedBy
  obtain same | ⟨_, _, _, same⟩ := h <;> rw [same]
  · exact ⟨st, fault⟩
  · exact ⟨by simp [PointRuntime.started, st], fault⟩

/-- A FAILED point does not re-evaluate. -/
theorem State.FailedBy.reevaluate {s : State} {p : Nat} {kind : PointFaultKind} (h : s.FailedBy p kind) (q : Nat) :
    (s.reevaluate q).FailedBy p kind := by
  rcases eq_or_ne p q with rfl | other
  · have same : s.reevaluate p = s := by simp [State.reevaluate, h.1]
    rwa [same]
  · exact (s.reevaluate_other other).failedBy h

theorem State.FailedBy.reevaluateAll {s : State} {p : Nat} {kind : PointFaultKind} (h : s.FailedBy p kind) (l : List Nat) :
    (s.reevaluateAll l).FailedBy p kind := by
  induction l generalizing s with
  | nil => exact h
  | cons q l ih => exact ih (h.reevaluate q)

theorem State.FailedBy.of_same {s t : State} {p : Nat} {kind : PointFaultKind} (h : s.FailedBy p kind) (points : t.points = s.points) :
    t.FailedBy p kind := by
  simpa only [State.FailedBy, State.pt, points] using h

/-- A point goes FAILED: engine control is told, then the fault reported. -/
theorem State.failReported_sent (s : State) (p : Nat) (kind : PointFaultKind) (q : Nat) :
    ((s.markFailed p kind).pt q).Sent ((s.failReported p kind).pt q) :=
  ((s.markFailed p kind).countTold.changeCauses_sent _ _ q).trans ((State.offer_onlySends _ _).sent q)

theorem State.markFailed_pt (s : State) {p : Nat} (inside : 1 ≤ p ∧ p ≤ 63) (kind : PointFaultKind) : (s.markFailed p kind).pt p
    = { s.pt p with
        state := .failed, command := .none, lastFault := some kind, supervision := none, retryTimer := none, deglitchTimer := none } :=
  State.pt_setPt_self _ p _ inside

theorem State.countFailed_pos {s : State} {p : Nat} (inside : 1 ≤ p ∧ p ≤ 63) (failed : (s.pt p).state = .failed) : s.countFailed ≠ 0 := by
  rw [State.countFailed_eq, Nat.ne_zero_iff_zero_lt, List.countP_pos_iff]
  exact ⟨p, mem_ids.mpr inside, decide_eq_true failed⟩

theorem causesReport_congr {s s' t t' : State} (before : s'.engine.causes = s.engine.causes) (after : t'.engine = t.engine) (ev : EngineEvent) :
    causesReport s' t' ev = causesReport s t ev := by
  unfold causesReport
  rw [before, after]

/-- A change of the cause set is reported once (R132). -/
theorem State.changeCauses_reported (s : State) (x : Causes) (ev : EngineEvent) :
    Offers s (s.changeCauses x ev) (causesReport s (s.changeCauses x ev) ev) := by
  unfold State.changeCauses
  split
  · rw [causesReport, if_pos rfl]
    exact .refl s
  · rename_i change
    extract_lets _ e s1
    have put : Offers s { s with engine := { e with state := e.settledState } } [] := .of_same rfl rfl rfl rfl rfl
    have told : Offers s s1 [.engineState e.settledState x ev] := put.after (State.offer_offers _ _)
    have engine : s1.engine = { e with state := e.settledState } := (State.offer_frame _ _).2.2.2.2.2.2.2.2.2.2.2.1
    have report (t : State) (same : t.engine = s1.engine) : causesReport s t ev = [.engineState e.settledState x ev] := by
      rw [causesReport, same, engine, if_neg change]
    split
    · rw [report s1 rfl]
      exact told
    · rw [report s1.recompute (by simp)]
      exact told.before s1.recompute_offers

/-- A point found lying falsely: FAILED by WRONG_LEG, which is reported after a change of the cause set; it lies as it does once FAILED. -/
theorem State.wrongLeg_told (s : State) {p : Nat} (inside : 1 ≤ p ∧ p ≤ 63) : (s.wrongLeg p).FailedBy p .wrongLeg
    ∧ Offers s (s.wrongLeg p)
      (causesReport s (s.wrongLeg p) (.causeSet .pointFailed) ++ [faultReport p (s.pt p) .wrongLeg .failed])
    ∧ ∀ q, ((s.wrongLeg p).pt q).lieEnd = ((s.markFailed p .wrongLeg).pt q).lieEnd := by
  have marked := s.markFailed_pt inside .wrongLeg
  unfold State.wrongLeg
  split
  · rename_i failed
    have self := State.pt_setPt_self s p { s.pt p with lastFault := some .wrongLeg } inside
    have told := State.offer_told (s.setPt p { s.pt p with lastFault := some .wrongLeg }) (faultReport p (s.pt p) .wrongLeg .failed)
    have put : Offers s (s.setPt p { s.pt p with lastFault := some .wrongLeg }) [] := .of_same rfl rfl rfl rfl rfl
    refine ⟨?_, ?_, fun q => ?_⟩
    · obtain ⟨_, _, e⟩ := told
      rw [e]
      refine State.FailedBy.of_same (s := s.setPt p { s.pt p with lastFault := some .wrongLeg }) ?_ rfl
      rw [State.FailedBy, self]
      exact ⟨failed, rfl⟩
    · rw [causesReport, if_pos (by simp)]
      exact put.after (State.offer_offers _ _)
    · obtain ⟨_, _, e⟩ := told
      rw [e]
      change ((s.setPt p _).pt q).lieEnd = _
      rcases eq_or_ne q p with rfl | other
      · rw [self, marked]
        simp only [PointRuntime.lieEnd, failed]
      · rw [State.pt_setPt_ne _ _ other, State.markFailed, State.pt_setPt_ne _ _ other]
        rfl
  · refine ⟨(s.failReported_sent p _ p).failedBy ?_, ?_, fun q => (s.failReported_sent p _ q).lieEnd⟩
    · rw [State.FailedBy, marked]
      exact ⟨rfl, rfl⟩
    · have some : (s.markFailed p .wrongLeg).countFailed ≠ 0 := State.countFailed_pos inside (by rw [marked])
      have failed : Offers s (s.markFailed p .wrongLeg).countTold [] := .of_same rfl rfl rfl rfl rfl
      have told := (s.markFailed p .wrongLeg).countTold.changeCauses_reported
        ((s.markFailed p .wrongLeg).engine.causesTold (s.markFailed p .wrongLeg).countFailed) (.causeSet .pointFailed)
      have event : (s.markFailed p .wrongLeg).tellFailed = (s.markFailed p .wrongLeg).countTold.changeCauses
          ((s.markFailed p .wrongLeg).engine.causesTold (s.markFailed p .wrongLeg).countFailed) (.causeSet .pointFailed) := by
        rw [State.tellFailed, if_neg some]
      rw [← event] at told
      rw [causesReport_congr (s' := s) (t' := s.failReported p .wrongLeg) (s := (s.markFailed p .wrongLeg).countTold) (t := (s.markFailed p .wrongLeg).tellFailed) rfl
        (State.offer_frame _ _).2.2.2.2.2.2.2.2.2.2.2.1]
      exact (failed.after told).trans (State.offer_offers _ _)

/-! ### The leg check (R91, R92) -/

/-- Slot `z` once it is MISROUTED. -/
def Slot.misroute (z : Slot) : Slot := { z with flags := { z.flags with misrouted := true } }

section
variable {s : State} {i p : Nat} {z : Slot}

/-- A slot unresolved at the point or above it takes what the lie walk reaches. -/
theorem State.legCheck_covered (hz : s.slot i = some z) (covers : Covers s z p) {q : Nat} (unresolved : z.unresolved = some q) (leg : Leg) :
    s.legCheck i p leg = s.takeRetarget i p leg (s.walkTarget z.expected (s.lieWalkFrom p leg)) q := by
  unfold State.legCheck
  simp only [hz, State.unresolvedCovers_iff.mpr covers, if_true, unresolved, Option.getD_some]

/-- Otherwise the leg of its path leaves it as it is, the other one makes it MISROUTED, and a path that does not name the point makes it
LOST. -/
theorem State.legCheck_outside (hz : s.slot i = some z) (outside : ¬Covers s z p) (leg : Leg) :
    (legAt z.path p = some leg → s.legCheck i p leg = s)
      ∧ (legAt z.path p = some leg.other → s.legCheck i p leg = s.misrouted i p leg.other leg)
      ∧ (legAt z.path p = none → s.legCheck i p leg = s.becomeLost i (.offPath p) true) := by
  have no : s.unresolvedCovers z p = false := Bool.eq_false_iff.mpr (mt State.unresolvedCovers_iff.mp outside)
  refine ⟨fun h => ?_, fun h => ?_, fun h => ?_⟩ <;> unfold State.legCheck <;> simp [hz, no, h, (Leg.other_ne leg).symm]

/-- What becomes of a slot whose head has left the guard by the other leg. -/
theorem State.misrouted_told (hz : s.slot i = some z) (pathLeg observed : Leg) : ∃ a, Told ((s.wrongLeg p).setSlot i (some z.misroute)) a
    ∧ Offers (s.wrongLeg p) a [.cutMisrouted i z.number p pathLeg observed]
    ∧ s.misrouted i p pathLeg observed = a.takeRetarget i p observed (a.retarget z.misroute p observed) p := by
  have own : (s.wrongLeg p).slot i = some z := (congrArg (readAt · none i) (s.wrongLeg_frame p).2.2.2.2.2.2.2.2.1).trans hz
  refine ⟨((s.wrongLeg p).setSlot i (some z.misroute)).offer (.cutMisrouted i z.number p pathLeg observed), State.offer_told _ _,
    (State.setSlot_offers _ i _).after (State.offer_offers _ _), ?_⟩
  unfold State.misrouted
  simp only [own]
  rfl

/-! ### The division check (R93) -/

theorem State.divisionCheck_kept (hz : s.slot i = some z) {leg : Leg} (h : Covers s z p ∨ legAt z.path p = some leg) :
    s.divisionCheck i p leg = s := by
  unfold State.divisionCheck
  simp only [hz]
  split
  · rfl
  · rename_i no
    have outside : ¬Covers s z p := fun covers => no (by simp [State.unresolvedCovers_iff.mpr covers])
    simp only [h.resolve_left outside, if_true]

theorem State.divisionCheck_lost (hz : s.slot i = some z) (held : z.flags.lost = false) (outside : ¬Covers s z p) (leg : Leg) :
    (legAt z.path p = some leg.other → s.divisionCheck i p leg = s.becomeLost i (.divided p) true)
      ∧ (legAt z.path p = none → s.divisionCheck i p leg = s.becomeLost i (.offPath p) true) := by
  have no : s.unresolvedCovers z p = false := Bool.eq_false_iff.mpr (mt State.unresolvedCovers_iff.mp outside)
  constructor <;> intro h <;> unfold State.divisionCheck <;>
    simp [hz, held, no, h, (Leg.other_ne leg).symm]

end

/-! ### Slots that another slot's crossing leaves alone -/

section
variable (s : State) {i j : Nat} (other : j ≠ i)
include other

theorem State.takeRetarget_ne (p : Nat) (leg : Leg) (r : Retarget) (base : Nat) : (s.takeRetarget i p leg r base).slot j = s.slot j := by
  unfold State.takeRetarget
  split
  · rfl
  · rw [State.slot, (State.offer_frame _ _).2.2.2.2.2.2.2.2.1, (State.alignClaims_frame _ _ _).2.2.2.2.2.2.2.2.1]
    exact s.slot_setSlot_ne _ other

theorem State.misrouted_ne (p : Nat) (pathLeg observed : Leg) : (s.misrouted i p pathLeg observed).slot j = s.slot j := by
  have wrong : (s.wrongLeg p).slot j = s.slot j := congrArg (readAt · none j) (s.wrongLeg_frame p).2.2.2.2.2.2.2.2.1
  cases hz : s.slot i with
  | none =>
    have none : (s.wrongLeg p).slot i = none := (congrArg (readAt · none i) (s.wrongLeg_frame p).2.2.2.2.2.2.2.2.1).trans hz
    unfold State.misrouted
    simpa only [none] using wrong
  | some z =>
    obtain ⟨a, ⟨_, _, rfl⟩, -, e⟩ := State.misrouted_told (p := p) hz pathLeg observed
    rw [e, State.takeRetarget_ne _ other]
    exact (State.slot_setSlot_ne _ _ other).trans wrong

theorem State.legCheck_ne (p : Nat) (leg : Leg) : (s.legCheck i p leg).slot j = s.slot j := by
  unfold State.legCheck
  repeat' split
  · rfl
  · exact s.takeRetarget_ne other ..
  · exact s.becomeLost_ne _ _ other
  · rfl
  · exact s.misrouted_ne other ..

theorem State.divisionCheck_ne (p : Nat) (leg : Leg) : (s.divisionCheck i p leg).slot j = s.slot j := by
  unfold State.divisionCheck
  repeat' split
  · rfl
  · rfl
  · exact s.becomeLost_ne _ _ other
  · rfl
  · exact s.becomeLost_ne _ _ other

end

/-! ### The outcomes -/

section
variable {u s : State} {i p : Nat} {x z : Slot}

/-- A slot unresolved at the point or above it (R91). -/
theorem Approached.resolved (h : Approached u s i x z) (covers : Covers s z p) {q : Nat} (unresolved : z.unresolved = some q) (leg : Leg) :
    Resettled u (s.legCheck i p leg) i q (u.retargeted z p leg (u.walkTarget z.expected (u.lieWalkFrom p leg)))
      ∧ Offers s (s.legCheck i p leg)
        [.cutRetargeted i z.number p (some leg) z.target (u.walkTarget z.expected (u.lieWalkFrom p leg))] := by
  have routes : SameRoutes u s := ⟨h.tables, h.reserved rfl rfl rfl h.slot h.others, fun q =>
    congrArg (fun v => (readAt v PointRuntime.reset q).lieEnd) h.points⟩
  have told := State.takeRetarget_told h.slot p leg (s.walkTarget z.expected (s.lieWalkFrom p leg)) q
  rw [← State.legCheck_covered h.slot covers unresolved leg, routes.lieWalkFrom, routes.walkTarget, routes.retargeted] at told
  refine ⟨⟨s.setSlot i _, h.tables, State.slot_setSlot_self _ i _ (State.slot_inside h.was), fun j other => ?_, told.1⟩, told.2⟩
  rw [State.slot_setSlot_ne _ _ other, h.others j other]

/-- The other leg: the point FAILED, the slot MISROUTED and retargeted (R89, R91, R123). -/
theorem Approached.misrouted (h : Approached u s i x z) (inside : 1 ≤ p ∧ p ≤ 63) (pathLeg leg : Leg) :
    Resettled u (s.misrouted i p pathLeg leg) i p
        ((u.markFailed p .wrongLeg).retargeted z.misroute p leg ((u.markFailed p .wrongLeg).retarget z.misroute p leg))
      ∧ Offers s (s.misrouted i p pathLeg leg) (causesReport s (s.misrouted i p pathLeg leg) (.causeSet .pointFailed)
        ++ [faultReport p (s.pt p) .wrongLeg .failed, .cutMisrouted i z.number p pathLeg leg,
          .cutRetargeted i z.number p (some leg) z.target ((u.markFailed p .wrongLeg).retarget z.misroute p leg)])
      ∧ (s.misrouted i p pathLeg leg).FailedBy p .wrongLeg := by
  obtain ⟨failed, fault, lies⟩ := s.wrongLeg_told inside
  obtain ⟨a, told, cut, e⟩ := State.misrouted_told (p := p) h.slot pathLeg leg
  have bounds := State.slot_inside h.was
  have frame := s.wrongLeg_frame p
  obtain ⟨link, reports, ha⟩ := told
  have own : a.slot i = some z.misroute := by
    rw [ha]
    exact State.slot_setSlot_self _ i _ bounds
  have others (j : Nat) (other : j ≠ i) : a.slot j = u.slot j := by
    rw [ha, ← h.others j other]
    exact (State.slot_setSlot_ne _ _ other).trans (congrArg (readAt · none j) frame.2.2.2.2.2.2.2.2.1)
  have tables : a.tables = u.tables := by
    rw [ha]
    exact frame.2.2.2.2.1.trans h.tables
  have marked (q : Nat) : (s.markFailed p .wrongLeg).pt q = (u.markFailed p .wrongLeg).pt q := by
    have points : (s.markFailed p .wrongLeg).points = (u.markFailed p .wrongLeg).points := by
      simp only [State.markFailed, State.setPt, State.dropThrow, State.pt, h.points]
    exact congrArg (fun v => readAt v PointRuntime.reset q) points
  have routes : SameRoutes (u.markFailed p .wrongLeg) a := by
    refine ⟨tables, h.reserved (y := z.misroute) rfl rfl rfl own others, fun q => ?_⟩
    rw [← marked, ← lies, ha]
    rfl
  obtain ⟨aligned, retargeted⟩ := State.takeRetarget_told own p leg (a.retarget z.misroute p leg) p
  rw [← e, routes.retarget, routes.retargeted] at aligned
  rw [← e, routes.retarget] at retargeted
  refine ⟨⟨a.setSlot i _, tables, State.slot_setSlot_self _ i _ bounds, fun j other => ?_, aligned⟩, ?_, ?_⟩
  · rw [State.slot_setSlot_ne _ _ other, others j other]
  · have engine : (s.misrouted i p pathLeg leg).engine = (s.wrongLeg p).engine := by
      rw [e, (State.takeRetarget_frame _ _ _ _ _ _).2.2.2.2.2.2.2.2.2.1, ha]
      rfl
    rw [causesReport_congr rfl engine]
    have all := (fault.trans cut).trans retargeted
    rw [List.append_assoc, List.append_assoc] at all
    exact all
  · refine failed.of_same ?_
    obtain ⟨_, _, told⟩ := aligned
    obtain ⟨_, claimed⟩ := State.alignClaims_claimed (a.setSlot i _) i p
    rw [told, claimed, ha]
    rfl

end

/-! ### The crossing -/

/-- The crossing at a guard-out counter: what comes after the tracking table's part of it. -/
theorem AxleHanded.out {frame : List Byte} {s u : State} {d p i n : Nat} {leg : Leg} {branch : Branch} {time : Clock}
    (handed : AxleHanded s u frame d .down time) (role : u.joint d = some ⟨.guardOut p leg, .sec (.guard p), .sec branch.sec⟩)
    (range : branch.sec.inRange = true) (head : (u.sec (.guard p)).runs.head? = some ⟨.slot i, n⟩)
    (fits : AxleFits .tail (u.sec branch.sec).runs (.slot i)) (normal : (u.sec branch.sec).disturbance = none) :
    ∃ sections t, exec (.telegramReceived .t false frame) s = .next t ∧ ∀ c l,
      ({ u with sections := sections } : State).takeCrossing i (.guardOut p leg) .down time false = (c.tailTest i).reevaluateAll l →
        Ended c t i ∧ ∀ kind, c.FailedBy p kind → t.FailedBy p kind := by
  obtain ⟨t, run, sends, sent⟩ := handed.crossed role
  have ne : branch.sec ≠ .guard p := by cases branch <;> nofun
  obtain ⟨sections, crossed, -⟩ := State.crossBetween_down (d := d) (time := time) (.guardOut p leg) ne range head fits normal
  have occupied : u.guardClear p = false := by
    obtain ⟨l, e⟩ := List.head?_eq_some_iff.mp head
    simp [State.guardClear, e]
  refine ⟨sections, t, run, fun c l taken => ?_⟩
  have cross : u.cross ⟨.guardOut p leg, .sec (.guard p), .sec branch.sec⟩ .down d time
      = ((c.tailTest i).reevaluateAll l).guardNotices p false false time (.slot i) := by
    change State.guardNotices (u.crossBetween (.guardOut p leg) (.guard p) branch.sec .down d time).1 p false _ time
      (u.crossBetween (.guardOut p leg) (.guard p) branch.sec .down d time).2 = _
    rw [crossed, occupied]
    simp only
    rw [taken]
  rw [cross] at sends sent
  obtain ⟨quiet, reported⟩ := State.guardNotices_out ((c.tailTest i).reevaluateAll l) p time (.slot i)
  refine ⟨.of_quiet ((State.reevaluateAll_quiet _ _).trans quiet) ((State.reevaluateAll_offers _ _).after reported) sends sent,
    fun kind failed => (sends.sent p).failedBy ?_⟩
  have tested : (c.tailTest i).FailedBy p kind := by
    obtain ⟨_, e⟩ := c.tailTest_claimed i
    rw [e]
    exact failed
  rcases State.guardNotices_out_eq ((c.tailTest i).reevaluateAll l) p time (.slot i) with e | e <;> rw [e]
  · exact tested.reevaluateAll l
  · exact (tested.reevaluateAll l).reevaluate p

theorem Covers.congr {s t : State} (tables : t.tables = s.tables) {x y : Slot} (same : y.unresolved = x.unresolved) (p : Nat) :
    Covers t y p ↔ Covers s x p := by
  simp only [Covers, same, State.below_congr tables]

/-- A head crossing, with the outcome of the leg check. -/
theorem AxleHanded.headLeaves {frame : List Byte} {s u : State} {d p i n : Nat} {leg : Leg} {branch : Branch} {time : Clock} {x z : Slot}
    (handed : AxleHanded s u frame d .down time) (role : u.joint d = some ⟨.guardOut p leg, .sec (.guard p), .sec branch.sec⟩)
    (range : branch.sec.inRange = true) (head : (u.sec (.guard p)).runs.head? = some ⟨.slot i, n⟩)
    (fits : AxleFits .tail (u.sec branch.sec).runs (.slot i)) (normal : (u.sec branch.sec).disturbance = none) (hx : u.slot i = some x)
    (held : x.flags.lost = false) (down : u.downstream x.head (.guardOut p leg) = true) (moved : HeadMoved u x (.guardOut p leg) time z) :
    ∃ a t, exec (.telegramReceived .t false frame) s = .next t ∧ Approached u a i x z ∧ Offers u a (stalledReport i z)
      ∧ Ended (a.legCheck i p leg) t i ∧ ∀ kind, (a.legCheck i p leg).FailedBy p kind → t.FailedBy p kind := by
  obtain ⟨sections, t, run, ended⟩ := handed.out role range head fits normal
  obtain ⟨a, told, offers, taken⟩ := State.takeCrossing_head (s := { u with sections := sections }) hx down moved
  rw [held] at taken
  have into : Offers u { u with sections := sections } [] := .of_same rfl rfl rfl rfl rfl
  exact ⟨a, t, run, told.approached hx moved, into.after offers, ended _ _ taken⟩

theorem AxleHanded.axleLeaves {frame : List Byte} {s u : State} {d p i n : Nat} {leg : Leg} {branch : Branch} {time : Clock} {x : Slot}
    (handed : AxleHanded s u frame d .down time) (role : u.joint d = some ⟨.guardOut p leg, .sec (.guard p), .sec branch.sec⟩)
    (range : branch.sec.inRange = true) (head : (u.sec (.guard p)).runs.head? = some ⟨.slot i, n⟩)
    (fits : AxleFits .tail (u.sec branch.sec).runs (.slot i)) (normal : (u.sec branch.sec).disturbance = none) (hx : u.slot i = some x)
    (passed : u.downstream x.head (.guardOut p leg) = false) : ∃ a t, exec (.telegramReceived .t false frame) s = .next t
      ∧ Approached u a i x x ∧ Offers u a [] ∧ Ended (a.divisionCheck i p leg) t i := by
  obtain ⟨sections, t, run, ended⟩ := handed.out role range head fits normal
  have taken := State.takeCrossing_lateral (s := { u with sections := sections }) (time := time) hx passed
  exact ⟨{ u with sections := sections }, t, run, ⟨rfl, rfl, rfl, rfl, rfl, hx, fun _ _ => rfl, hx, rfl, rfl⟩, .of_same rfl rfl rfl rfl rfl,
    (ended _ _ taken).1⟩

/-- Settles O40: the outcome of the leg check at a head crossing, and of the division check at any other. -/
theorem legAndDivisionChecks : Obligations.LegAndDivisionChecks := by
  unfold Obligations.LegAndDivisionChecks
  intro frame s u v d p i n leg branch time x z handed role low high range head fits normal hx held moved hv
  subst hv
  cases down : u.downstream x.head (.guardOut p leg) with
  | true =>
    obtain ⟨a, t, run, near, offers, ended, failed⟩ := handed.headLeaves role range head fits normal hx held down moved
    obtain ⟨path, unresolved, target, -, number, expected, flag, -⟩ := moved.keeps
    rw [held] at flag
    have covers := Covers.congr near.tables unresolved p
    have reported {bodies : List ReportBody} (checked : Offers a (a.legCheck i p leg) bodies) :
        Reported u t (stalledReport i z ++ bodies) := ((offers.trans checked).before ended.offers).reported
    refine ⟨t, run, ended.tables.trans (by simp [near.tables]), ended.cutList.trans (by simp [near.cutList]),
      ended.binder.trans (by simp [near.binder]), fun j other => ?_, fun _ => ⟨fun q hq cov => ?_, fun outside => ⟨fun onPath => ?_,
        fun offLeg => ?_, fun offPath => ?_⟩⟩, nofun⟩
    · exact ((ended.slot j).trans (a.legCheck_ne other p leg)).trans (near.others j other)
    · obtain ⟨resettled, told⟩ := near.resolved (covers.mpr cov) (unresolved.trans hq) leg
      obtain ⟨slot, -, line⟩ := resettled.ended ended
      rw [expected] at slot told line
      rw [number, target] at told
      have routed := u.walkTarget_routed z x.expected p leg
      exact ⟨_, routed, slot, line, reported told⟩
    · have same := (State.legCheck_outside near.slot (mt covers.mp outside) leg).1 (path ▸ onPath)
      have told := reported (bodies := []) (by rw [same]; exact .refl a)
      rw [List.append_nil] at told
      exact ⟨(ended.slot i).trans (same.symm ▸ near.slot), told⟩
    · have turned := (State.legCheck_outside near.slot (mt covers.mp outside) leg).2.1 (path ▸ offLeg)
      obtain ⟨resettled, told, fault⟩ := near.misrouted ⟨low, high⟩ leg.other leg
      rw [← turned] at resettled told fault
      obtain ⟨slot, -, line⟩ := resettled.ended ended
      obtain ⟨st, last⟩ := failed _ fault
      have point : a.pt p = u.pt p := congrArg (fun v => readAt v PointRuntime.reset p) near.points
      rw [causesReport_congr (s := u) (congrArg EngineControl.causes near.engine) ended.engine.symm, number, target, point] at told
      refine ⟨st, last, z.misroute, _, rfl, State.retarget_routed _ _ p leg, slot, line, ?_⟩
      have := reported told
      rwa [← List.append_assoc] at this
    · have cut := (State.legCheck_outside near.slot (mt covers.mp outside) leg).2.2 (path ▸ offPath)
      have told := State.becomeLost_reported near.slot flag (.offPath p)
      rw [← cut, number] at told
      exact ⟨(ended.gone (cut ▸ State.becomeLost_gone near.slot flag (.offPath p) true)).becameLost, reported told⟩
  | false =>
    obtain ⟨a, t, run, near, offers, ended⟩ := handed.axleLeaves role range head fits normal hx down
    have covers := Covers.congr near.tables (rfl : x.unresolved = x.unresolved) p
    have reported {bodies : List ReportBody} (checked : Offers a (a.divisionCheck i p leg) bodies) : Reported u t bodies :=
      ((offers.after checked).before ended.offers).reported
    have lost {cause : LostCause} (cut : a.divisionCheck i p leg = a.becomeLost i cause true) :
        BecameLost t i x ∧ Reported u t [.cutLost i x.number cause] :=
      ⟨(ended.gone (cut ▸ State.becomeLost_gone near.slot held cause true)).becameLost,
        reported (cut ▸ State.becomeLost_reported near.slot held cause)⟩
    refine ⟨t, run, ended.tables.trans (by simp [near.tables]), ended.cutList.trans (by simp [near.cutList]),
      ended.binder.trans (by simp [near.binder]), fun j other => ?_, nofun, fun _ => ⟨fun kept => ?_, fun outside offLeg => ?_,
        fun outside offPath => ?_⟩⟩
    · exact ((ended.slot j).trans (a.divisionCheck_ne other p leg)).trans (near.others j other)
    · have same := State.divisionCheck_kept near.slot (kept.imp_left covers.mpr)
      exact ⟨(ended.slot i).trans (same.symm ▸ near.slot), reported (by rw [same]; exact .refl a)⟩
    · exact lost ((State.divisionCheck_lost near.slot held (mt covers.mp outside) leg).1 offLeg)
    · exact lost ((State.divisionCheck_lost near.slot held (mt covers.mp outside) leg).2 offPath)

end Sys2Proof.Machine

/-! PROOF. The crossing at a track's clearance counter: CLEARING, cleared axles and the charge (R13, R14, R94 to R96). -/

namespace Sys2Proof.Machine

/-! ### The role step (R94, R95) -/

/-- The state once the slot that is not to be cleared into track `k` is LOST. -/
def State.astray (s : State) (i k : Nat) (lost : Bool) : State := if lost then s.becomeLost i (.wrongTrack k) true else s

section
variable {s : State} {i k : Nat} {z : Slot} {lost : Bool}

theorem State.astray_frame (s : State) (i k : Nat) (lost : Bool) : (s.astray i k lost).tables = s.tables
    ∧ (s.astray i k lost).cutList = s.cutList ∧ (s.astray i k lost).binder = s.binder ∧ (s.astray i k lost).sections = s.sections := by
  unfold State.astray
  split <;> simp

theorem State.astray_slot (hz : s.slot i = some z) (held : lost = true → z.flags.lost = false) :
    (s.astray i k lost).slot i = some (if lost then z.gone else z) := by
  unfold State.astray
  split
  · rename_i h
    exact State.becomeLost_self hz (held h) _ _
  · exact hz

theorem State.astray_ne {j : Nat} (other : j ≠ i) : (s.astray i k lost).slot j = s.slot j := by
  unfold State.astray
  split
  · exact s.becomeLost_ne _ _ other
  · rfl

theorem State.astray_offers (hz : s.slot i = some z) (held : lost = true → z.flags.lost = false) :
    Offers s (s.astray i k lost) (if lost then [.cutLost i z.number (.wrongTrack k)] else []) := by
  unfold State.astray
  split
  · rename_i h
    exact State.becomeLost_reported hz (held h) _
  · exact .refl s

theorem State.astray_stands (hz : s.slot i = some z) (held : z.flags.lost = false) (p : Nat) : (s.astray i k true).stands i p = false :=
  (State.becomeLost_gone hz held (.wrongTrack k) true).2.2 p

/-- A head crossing makes the slot CLEARING. -/
theorem State.startClearing_eq (hz : s.slot i = some z) (h : lost = (!z.flags.lost && decide (z.target ≠ some k))) :
    s.startClearing i k = ((s.astray i k lost).setSlot i
      (some { (if lost then z.gone else z).clearedOne with phase := .clearing k })).tryClear i := by
  have held : lost = true → z.flags.lost = false := fun l => by
    rw [h, Bool.and_eq_true, Bool.not_eq_true'] at l
    exact l.1
  have slot := State.astray_slot (k := k) hz held
  unfold State.startClearing
  simp only [hz]
  rw [← h, show (if lost then s.becomeLost i (.wrongTrack k) true else s) = s.astray i k lost from rfl, State.updSlot_eq slot]

/-- Any other crossing counts a cleared axle. -/
theorem State.clearedAxle_eq (hz : s.slot i = some z) (h : lost = (!z.flags.lost && decide (z.phase ≠ .clearing k))) :
    s.clearedAxle i k = ((s.astray i k lost).setSlot i (some (if lost then z.gone else z).clearedOne)).tryClear i := by
  have held : lost = true → z.flags.lost = false := fun l => by
    rw [h, Bool.and_eq_true, Bool.not_eq_true'] at l
    exact l.1
  have slot := State.astray_slot (k := k) hz held
  unfold State.clearedAxle
  simp only [hz]
  rw [← h, show (if lost then s.becomeLost i (.wrongTrack k) true else s) = s.astray i k lost from rfl, State.updSlot_eq slot]

end

/-! ### The crossing -/

/-- The crossing at a clearance counter up to the tracking table's part of it, and what comes after. -/
theorem AxleHanded.outOfYard {frame : List Byte} {s u : State} {d k i n : Nat} {time : Clock}
    (handed : AxleHanded s u frame d .down time) (role : u.joint d = some ⟨.clearance k, .sec (.trackLink k), .track k⟩)
    (inside : 1 ≤ k ∧ k ≤ 64) (head : (u.sec (.trackLink k)).runs.head? = some ⟨.slot i, n⟩) :
    ∃ sections t, exec (.telegramReceived .t false frame) s = .next t
      ∧ AxleTaken .head (u.sec (.trackLink k)).runs (.slot i) (State.sec { u with sections := sections } (.trackLink k)).runs
      ∧ ∀ c, ({ u with sections := sections } : State).takeCrossing i (.clearance k) .down time false
          = (c.tailTest i).reevaluateAll (State.toldOf { u with sections := sections } (c.tailTest i) i) →
        Ended c t i ∧ ∀ p, u.stands i p = true → StandsEvaluated t p := by
  obtain ⟨t, run, sends, sent⟩ := handed.crossed role
  obtain ⟨m, taken, shape⟩ := State.takeAxle_head (d := d) (time := time) head
  have self := u.sec_setSec_self (.trackLink k) { u.sec (.trackLink k) with runs := m } (decide_eq_true inside)
  rw [State.setSec_eq] at taken self
  generalize (u.setSec (.trackLink k) { u.sec (.trackLink k) with runs := m }).sections = sections at taken self
  refine ⟨sections, t, run, ?_, fun c crossed => ?_⟩
  · rw [self]
    exact shape
  · have cross : u.cross ⟨.clearance k, .sec (.trackLink k), .track k⟩ .down d time = (c.tailTest i).reevaluateAll (State.toldOf
        { u with sections := sections } (c.tailTest i) i) := by
      change State.handOver (u.takeAxle (.trackLink k) .head d time).1 (u.takeAxle (.trackLink k) .head d time).2 (.clearance k) .down time false
        = _
      rw [taken]
      exact crossed
    rw [cross] at sends sent
    refine ⟨.of_quiet (State.reevaluateAll_quiet _ _) (State.reevaluateAll_offers _ _) sends sent, fun p stood => ?_⟩
    have told : p ∈ State.toldOf { u with sections := sections } (c.tailTest i) i := State.mem_toldOf (.inl stood)
    exact (State.reevaluateAll_standsEvaluated (c.tailTest i) (.inl told)).of_same (sends.quiet.sameOutlook p) (sends.sent p)

/-- The state in which the clearing test is made: slot `i` is in it as `y`, which counts the axle. -/
structure Counted (u a : State) (i : Nat) (y : Slot) (before : List ReportBody) : Prop where
  tables : a.tables = u.tables
  cutList : a.cutList = u.cutList
  binder : a.binder = u.binder
  slot : a.slot i = some y
  others : ∀ j, j ≠ i → a.slot j = u.slot j
  offers : Offers u a before

/-- After the clearing test no more has happened than the tail test, re-evaluations and what the ports send. -/
theorem Counted.stays {u a t : State} {i : Nat} {y : Slot} {before : List ReportBody} (h : Counted u a i y before)
    (ended : Ended (a.tryClear i) t i) (stays : a.tryClear i = a) : t.slot i = some y ∧ t.tables = u.tables
      ∧ (∀ p, a.stands i p = false → t.stands i p = false) ∧ Reported u t before := by
  rw [stays] at ended
  refine ⟨(ended.slot i).trans h.slot, ended.tables.trans h.tables, fun p absent => ?_, (h.offers.before ended.offers).reported⟩
  refine Bool.eq_false_iff.mpr fun stands => ?_
  obtain ⟨c, m, own⟩ := State.stands_iff.mp stands
  rw [State.claimList, ended.claims] at m
  rw [State.stands_iff.mpr ⟨c, a.tailTest_subset i p m, own⟩] at absent
  cases absent

theorem State.freed_tailTest {s : State} {i : Nat} (free : s.slot i = none) : s.tailTest i = s := by
  unfold State.tailTest
  simp only [free]

/-- The slot clears. -/
theorem Counted.clears {u a t : State} {i c : Nat} {y : Slot} {before : List ReportBody} (h : Counted u a i y before)
    (ended : Ended (a.tryClear i) t i) (clears : a.tryClear i = a.clearInto i c y)
    (evaluated : ∀ p, u.stands i p = true → StandsEvaluated t p) : ClearedInto u t i c y.counted
      ∧ Reported u t (before ++ [.cutCleared i y.number y.ordinal y.target c y.counted y.cleared y.flags]) := by
  rw [clears] at ended
  have free := a.clearInto_slot i c y (State.slot_inside h.slot)
  have claims : t.claims = (a.clearInto i c y).claims := by rw [ended.claims, State.freed_tailTest free]
  refine ⟨⟨(ended.slot i).trans free, fun p => ?_, ?_, evaluated, _, rfl, ?_⟩,
    ((h.offers.trans (a.clearInto_offers i c y)).before ended.offers).reported⟩
  · rw [State.stands, State.claimList, claims]
    exact a.clearInto_stands i c y p
  · have demand := a.clearInto_demand i c y
    unfold State.demandNow State.slotsInUse at demand ⊢
    rw [ended.signal, ended.engine, ended.cutList, ended.slots, ended.tables]
    exact demand
  · rw [ended.tables, State.clearInto_tables, State.trackRecord, h.tables]
    rfl

/-- The slot that the crossing leaves, as its parts change. -/
theorem Slot.counted_eq {x z : Slot} (unresolved : z.unresolved = x.unresolved) (reservation : z.reservation = x.reservation)
    (cleared : z.cleared = x.cleared) (flag : z.flags.lost = x.flags.lost) (lost : Bool) (phase : SlotPhase) :
    { (if lost then z.gone else z).clearedOne with phase := phase } = { z with
      phase := phase, cleared := min 127 (x.cleared + 1), unresolved := (if lost then none else x.unresolved),
      reservation := (if lost then 0 else x.reservation), flags := { z.flags with lost := x.flags.lost || lost } } := by
  rw [← unresolved, ← reservation, ← cleared, ← flag]
  cases lost with
  | true =>
    rw [Bool.or_true]
    rfl
  | false =>
    rw [Bool.or_false]
    rfl

/-- The clearing test is made on the slot counted, a stray one being LOST first. -/
theorem Approached.counted {u a : State} {i k : Nat} {x z : Slot} {lost : Bool} {first : List ReportBody} (h : Approached u a i x z)
    (told : Offers u a first) (held : lost = true → z.flags.lost = false) (y : Slot) :
    Counted u ((a.astray i k lost).setSlot i (some y)) i y (first ++ if lost then [.cutLost i z.number (.wrongTrack k)] else []) := by
  obtain ⟨tables, cutList, binder, -⟩ := a.astray_frame i k lost
  refine ⟨tables.trans h.tables, cutList.trans h.cutList, binder.trans h.binder, State.slot_setSlot_self _ i _ (State.slot_inside h.was),
    fun j other => ?_, (told.trans (State.astray_offers h.slot held)).before (State.setSlot_offers _ i _)⟩
  rw [State.slot_setSlot_ne _ _ other, State.astray_ne other, h.others j other]

section
variable {frame : List Byte} {s u : State} {d k i n : Nat} {time : Clock} {x y z : Slot} {lost : Bool}

/-- The crossing up to the clearing test, from a slot that has been approached as `z`. -/
theorem AxleHanded.counted (handed : AxleHanded s u frame d .down time)
    (role : u.joint d = some ⟨.clearance k, .sec (.trackLink k), .track k⟩) (inside : 1 ≤ k ∧ k ≤ 64)
    (front : (u.sec (.trackLink k)).runs.head? = some ⟨.slot i, n⟩) (held : lost = true → z.flags.lost = false) (first : List ReportBody)
    (crossed : ∀ sections, ∃ a, Approached u a i x z ∧ a.sections = sections ∧ Offers u a first
      ∧ ∃ c, c = ((a.astray i k lost).setSlot i (some y)).tryClear i
        ∧ ({ u with sections := sections } : State).takeCrossing i (.clearance k) .down time false
          = (c.tailTest i).reevaluateAll (State.toldOf { u with sections := sections } (c.tailTest i) i)) :
    ∃ a t, exec (.telegramReceived .t false frame) s = .next t
      ∧ AxleTaken .head (u.sec (.trackLink k)).runs (.slot i) (t.sec (.trackLink k)).runs
      ∧ Counted u a i y (first ++ if lost then [.cutLost i z.number (.wrongTrack k)] else []) ∧ Ended (a.tryClear i) t i
      ∧ (∀ id, t.sec id = a.sec id) ∧ (lost = true → ∀ p, a.stands i p = false) ∧ ∀ p, u.stands i p = true → StandsEvaluated t p := by
  obtain ⟨sections, t, run, shape, ended⟩ := handed.outOfYard role inside front
  obtain ⟨a, near, within, told, c, rfl, taken⟩ := crossed sections
  obtain ⟨ended, evaluated⟩ := ended _ taken
  have moved : t.sections = sections := by
    rw [ended.sections, (State.tryClear_frame _ _).2.2.2.2.2.2.1, ← within]
    exact (a.astray_frame i k lost).2.2.2
  have same (id : SectionId) : t.sec id = State.sec { u with sections := sections } id := by
    unfold State.sec
    rw [moved]
  refine ⟨(a.astray i k lost).setSlot i (some y), t, run, by rw [same]; exact shape, near.counted told held y, ended, fun id => ?_,
    fun l p => ?_, evaluated⟩
  · unfold State.sec
    rw [ended.sections, (State.tryClear_frame _ _).2.2.2.2.2.2.1]
  · subst l
    exact State.astray_stands near.slot (held rfl) p

theorem State.headCounted (hx : u.slot i = some x) (down : u.downstream x.head (.clearance k) = true)
    (moved : HeadMoved u x (.clearance k) time z) (h : lost = (!x.flags.lost && decide (x.target ≠ some k)))
    (hy : y = { z with
      phase := .clearing k, cleared := min 127 (x.cleared + 1), unresolved := (if lost then none else x.unresolved),
      reservation := (if lost then 0 else x.reservation), flags := { z.flags with lost := x.flags.lost || lost } }) (sections : Sections) :
    ∃ a, Approached u a i x z ∧ a.sections = sections ∧ Offers u a (stalledReport i z)
      ∧ ∃ c, c = ((a.astray i k lost).setSlot i (some y)).tryClear i
        ∧ ({ u with sections := sections } : State).takeCrossing i (.clearance k) .down time false
          = (c.tailTest i).reevaluateAll (State.toldOf { u with sections := sections } (c.tailTest i) i) := by
  have into : Offers u { u with sections := sections } [] := .of_same rfl rfl rfl rfl rfl
  obtain ⟨-, unresolved, target, reservation, -, -, flag, -⟩ := moved.keeps
  obtain ⟨-, -, cleared⟩ := moved.counts
  obtain ⟨a, told, offers, taken⟩ := State.takeCrossing_head (s := { u with sections := sections }) hx down moved
  have near := told.approached hx moved
  refine ⟨a, near, ?_, into.after offers, _, ?_, taken⟩
  · obtain ⟨_, _, rfl⟩ := told
    rfl
  · rw [hy, ← Slot.counted_eq unresolved reservation cleared flag lost]
    exact State.startClearing_eq near.slot (by rw [flag, target]; exact h)

theorem State.axleCounted (hx : u.slot i = some x) (passed : u.downstream x.head (.clearance k) = false)
    (h : lost = (!x.flags.lost && decide (x.phase ≠ .clearing k)))
    (hy : y = { x with
      phase := x.phase, cleared := min 127 (x.cleared + 1), unresolved := (if lost then none else x.unresolved),
      reservation := (if lost then 0 else x.reservation), flags := { x.flags with lost := x.flags.lost || lost } }) (sections : Sections) :
    ∃ a, Approached u a i x x ∧ a.sections = sections ∧ Offers u a []
      ∧ ∃ c, c = ((a.astray i k lost).setSlot i (some y)).tryClear i
        ∧ ({ u with sections := sections } : State).takeCrossing i (.clearance k) .down time false
          = (c.tailTest i).reevaluateAll (State.toldOf { u with sections := sections } (c.tailTest i) i) := by
  have taken := State.takeCrossing_lateral (s := { u with sections := sections }) (time := time) hx passed
  refine ⟨{ u with sections := sections }, ⟨rfl, rfl, rfl, rfl, rfl, hx, fun _ _ => rfl, hx, rfl, rfl⟩, rfl, .of_same rfl rfl rfl rfl rfl,
    _, ?_, taken⟩
  have same : y = (if lost then x.gone else x).clearedOne := by
    rw [hy, ← Slot.counted_eq rfl rfl rfl rfl lost]
    cases lost <;> rfl
  rw [same]
  exact State.clearedAxle_eq (s := { u with sections := sections }) hx h

end

/-- Settles O41: the clearing test after the axle is counted clears the slot, or leaves it. -/
theorem clearingChargesTheTrack : Obligations.ClearingChargesTheTrack := by
  unfold Obligations.ClearingChargesTheTrack
  intro frame s u d k i n time x base y head lost before handed role low high front hx hhead hbase hlost hy hbefore
  have held : lost = true → x.flags.lost = false := fun l => by
    rw [hlost, Bool.and_eq_true, Bool.not_eq_true'] at l
    exact l.1
  obtain ⟨keeps, a, t, run, shape, counted, ended, sec, absent, evaluated⟩ : (y.number = x.number ∧ y.ordinal = x.ordinal
      ∧ y.target = x.target ∧ y.counted = x.counted) ∧ ∃ a t, exec (.telegramReceived .t false frame) s = .next t
      ∧ AxleTaken .head (u.sec (.trackLink k)).runs (.slot i) (t.sec (.trackLink k)).runs ∧ Counted u a i y before ∧ Ended (a.tryClear i) t i
      ∧ (∀ id, t.sec id = a.sec id) ∧ (lost = true → ∀ p, a.stands i p = false) ∧ ∀ p, u.stands i p = true → StandsEvaluated t p := by
    subst hbefore
    cases down : u.downstream x.head (.clearance k) with
    | true =>
      rw [down] at hhead
      subst hhead
      obtain ⟨-, -, target, -, number, -, flag, -⟩ := HeadMoved.keeps hbase
      obtain ⟨ordinal, cut, -⟩ := HeadMoved.counts hbase
      have reached := handed.counted role ⟨low, high⟩ front (fun l => flag.trans (held l)) _ (State.headCounted hx down hbase hlost hy)
      rw [number] at reached
      exact ⟨by rw [hy]; exact ⟨number, ordinal, target, cut⟩, reached⟩
    | false =>
      rw [down] at hhead
      subst hhead
      obtain rfl : base = x := hbase
      exact ⟨by rw [hy]; exact ⟨rfl, rfl, rfl, rfl⟩, handed.counted role ⟨low, high⟩ front held _ (State.axleCounted hx down hlost hy)⟩
  obtain ⟨number, ordinal, target, cut⟩ := keeps
  refine ⟨t, run, shape, ended.binder.trans (by simp [counted.binder]), ended.cutList.trans (by simp [counted.cutList]),
    fun j other => ?_, fun c clearing none apart => ?_, fun h => ?_⟩
  · rw [ended.slot, State.tryClear_ne _ other, counted.others j other]
  · have clears := counted.clears ended (State.tryClear_clears counted.slot clearing (fun id => sec id ▸ none id)
      (counted.binder.symm ▸ apart)) evaluated
    rwa [number, ordinal, target, cut] at clears
  · have stays := State.tryClear_stays counted.slot (h.imp_right fun h => h.imp (fun ⟨id, holds⟩ => ⟨id, sec id ▸ holds⟩)
      fun tracked => counted.binder.symm ▸ tracked)
    obtain ⟨slot, tables, gone, reported⟩ := counted.stays ended stays
    exact ⟨slot, tables, fun l p => gone p (absent l p), reported⟩

end Sys2Proof.Machine

/-! PROOF. A DOWN axle at the lead entry counter: binding, untracked cuts, counting and the cap (R16, R17, R32 to R37, R80, R104, R106). -/

namespace Sys2Proof.Machine

/-! ### The joining of a path's claim lists (R104) -/

theorem State.joinClaim_stands {s : State} {p i : Nat} (want : Option Leg) (stands : s.stands i p = true) : s.joinClaim p i want = s := by
  unfold State.joinClaim
  rw [if_pos stands]

theorem legAt_cons_self (q : Nat) (e : Leg) (path : Path) : legAt ((q, e) :: path) q = some e := by
  simp [legAt, List.lookup]

theorem legAt_cons_ne {k q : Nat} (e : Leg) (path : Path) (other : k ≠ q) : legAt ((q, e) :: path) k = legAt path k := by
  have : (k == q) = false := by simpa using other
  simp [legAt, List.lookup, this]

/-- A claim list that the slot stands in stays as it is. -/
theorem State.joinPath_stands {s : State} {i k : Nat} (path : Path) (stands : s.stands i k = true) :
    (s.joinPath i path).claimList k = s.claimList k := by
  induction path generalizing s with
  | nil => rfl
  | cons x path ih =>
    have same : (s.joinClaim x.1 i (some x.2)).claimList k = s.claimList k := by
      rcases eq_or_ne k x.1 with rfl | other
      · rw [State.joinClaim_stands _ stands]
      · exact s.joinClaim_ne i _ other
    exact (ih (by rw [State.stands, same]; exact stands)).trans same

theorem State.joinPath_off {s : State} {i k : Nat} {path : Path} (off : legAt path k = none) :
    (s.joinPath i path).claimList k = s.claimList k := by
  induction path generalizing s with
  | nil => rfl
  | cons x path ih =>
    rcases eq_or_ne k x.1 with rfl | other
    · exact absurd ((legAt_cons_self x.1 x.2 path).symm.trans off) nofun
    · exact (ih ((legAt_cons_ne x.2 path other).symm.trans off)).trans (s.joinClaim_ne i _ other)

/-- On its path the slot goes before the first younger entry. -/
theorem State.joinPath_on {s : State} {i k : Nat} {x : Slot} {path : Path} {e : Leg} (inside : 1 ≤ k ∧ k ≤ 63) (hx : s.slot i = some x)
    (absent : s.stands i k = false) (on : legAt path k = some e) : (s.joinPath i path).claimList k
      = (s.claimList k).takeWhile (fun c => !s.youngerThan x.ordinal c) ++ ⟨i, some e⟩
        :: (s.claimList k).dropWhile fun c => !s.youngerThan x.ordinal c := by
  induction path generalizing s with
  | nil => exact absurd on nofun
  | cons q path ih =>
    change ((s.joinClaim q.1 i (some q.2)).joinPath i path).claimList k = _
    rcases eq_or_ne k q.1 with rfl | other
    · cases (legAt_cons_self q.1 q.2 path).symm.trans on
      have list := State.joinClaim_claimList (some q.2) inside absent hx
      have joined : (s.joinClaim q.1 i (some q.2)).stands i q.1 = true := State.stands_iff.mpr ⟨⟨i, some q.2⟩, by rw [list]; simp, rfl⟩
      rw [State.joinPath_stands path joined, list]
    · have same := s.joinClaim_ne i (some q.2) other
      obtain ⟨claims, claimed⟩ := s.joinClaim_claimed q.1 i (some q.2)
      have slot : (s.joinClaim q.1 i (some q.2)).slot i = some x := by rw [claimed]; exact hx
      rw [ih slot (by rw [State.stands, same]; exact absent) ((legAt_cons_ne q.2 path other).symm.trans on), same, claimed]
      rfl

/-- The place of a claim: after no younger entry, and before the first one (R104). -/
theorem State.takeWhile_youngerThan {s u : State} {i k : Nat} {o : Ordinal} (absent : u.stands i k = false)
    (others : ∀ j, j ≠ i → s.slot j = u.slot j) :
    (∀ c ∈ (u.claimList k).takeWhile (fun c => !s.youngerThan o c), ∀ y, u.slot c.slot = some y → older o y.ordinal = false)
      ∧ ∀ c, ((u.claimList k).dropWhile fun c => !s.youngerThan o c).head? = some c →
        ∃ y, u.slot c.slot = some y ∧ older o y.ordinal = true := by
  have slot (c : Claim) (m : c ∈ u.claimList k) : s.slot c.slot = u.slot c.slot := others _ fun own => by
    rw [State.stands_iff.mpr ⟨c, m, own⟩] at absent
    cases absent
  constructor
  · intro c m y hy
    have test := List.mem_takeWhile_imp m
    rw [State.youngerThan, slot c (List.takeWhile_subset _ m), hy] at test
    simpa using test
  · intro c h
    have m := List.mem_of_mem_head? h
    have test := List.head?_dropWhile_not (fun c => !s.youngerThan o c) (u.claimList k)
    rw [h] at test
    simp only [State.youngerThan, slot c (List.dropWhile_subset _ m)] at test
    cases hy : u.slot c.slot with
    | none => simp [hy] at test
    | some y => exact ⟨y, rfl, by simpa [hy] using test⟩

/-! ### A slot is given a cut (R32, R33) -/

/-- What depends on the tables of a newly bound slot is not in the patch entries. -/
theorem State.boundSlot_congr {s u : State} {patches : Vector Patch 8} (tables : s.tables = { u.tables with patches := patches })
    (ordinal : s.binder.nextOrdinal = u.binder.nextOrdinal) (t : Clock) (record : Option CutRecord) (n target : Nat) (mark : Bool) :
    s.boundSlot t record n target mark = u.boundSlot t record n target mark := by
  obtain ⟨_, _, _, _, _, _, _, ⟨_, _, next⟩, _, _, _, _, _, _, _, _, _⟩ := s
  cases tables
  cases ordinal
  rfl

/-- The report of a binding. -/
def boundReport (i : Nat) (record : Option CutRecord) (ordinal : Ordinal) (target : Nat) (mark : Bool) : ReportBody :=
  match record with
  | some r => .cutBound i r.number ordinal target mark
  | none => .unlistedCut i ordinal target mark

section
variable (s : State) (t : Clock) {i : Nat} (record : Option CutRecord) (n target : Nat) (mark : Bool)

/-- The state in which a slot just given a cut joins the claim lists of its path. -/
def State.handed (s : State) (i : Nat) (x : Slot) : State :=
  { (s.setSlot i (some x)).recompute with
    binder := { (s.setSlot i (some x)).recompute.binder with nextOrdinal := s.binder.nextOrdinal + 1 } }

/-- The state once the binder has opened on the slot. -/
def State.openOn (s : State) (i : Nat) (t : Clock) : State := State.restartGap { s with binder := { s.binder with state := .tracked i } } t

theorem State.openOn_offers (s : State) (i : Nat) (t : Clock) : Offers s (s.openOn i t) [] := .of_same rfl rfl rfl rfl rfl

theorem State.handed_offers (s : State) (i : Nat) (x : Slot) : Offers s (s.handed i x) [] :=
  (s.setSlot_offers i (some x)).after ((State.recompute_offers (s.setSlot i (some x))).before (.of_same rfl rfl rfl rfl rfl))

/-- The slot given a cut, and its path joined, the binding is reported and the binder opens on it. -/
theorem State.giveSlot_eq : s.giveSlot t i record n target mark = (((s.handed i (s.boundSlot t record n target mark)).joinPath i
    (s.boundSlot t record n target mark).path).offer (boundReport i record s.binder.nextOrdinal target mark)).openOn i t := by
  cases record <;> rfl

theorem State.joinPath_claimed (s : State) (i : Nat) (path : Path) : Claimed s (s.joinPath i path) :=
  .foldl (fun (a : State) (x : Nat × Leg) => a.joinClaim_claimed x.1 i (some x.2)) path s

theorem State.giveSlot_slots : (s.giveSlot t i record n target mark).slots
    = (s.setSlot i (some (s.boundSlot t record n target mark))).slots := by
  rw [State.giveSlot_eq]
  simp [State.openOn, State.restartGap, State.handed]

theorem State.giveSlot_claims : (s.giveSlot t i record n target mark).claims = ((s.handed i (s.boundSlot t record n target mark)).joinPath i
    (s.boundSlot t record n target mark).path).claims := by
  rw [State.giveSlot_eq]
  simp [State.openOn, State.restartGap]

theorem State.giveSlot_binder : (s.giveSlot t i record n target mark).binder
    = ⟨.tracked i, some (after t s.tables.params.separation), s.binder.nextOrdinal + 1⟩ := by
  rw [State.giveSlot_eq]
  simp [State.openOn, State.restartGap, State.handed]

/-- The demand is the one that the slot in use calls for. -/
theorem State.giveSlot_demand : (s.giveSlot t i record n target mark).signal.demand = (s.giveSlot t i record n target mark).demandNow := by
  have fresh : (s.setSlot i (some (s.boundSlot t record n target mark))).recompute.signal.demand
      = (s.setSlot i (some (s.boundSlot t record n target mark))).demandNow := State.recompute_demand _
  have signal : (s.giveSlot t i record n target mark).signal = (s.setSlot i (some (s.boundSlot t record n target mark))).recompute.signal := by
    rw [State.giveSlot_eq]
    simp [State.openOn, State.restartGap, State.handed]
  rw [signal, fresh]
  unfold State.demandNow State.slotsInUse
  rw [State.giveSlot_slots]
  simp

theorem State.giveSlot_offers : Offers s (s.giveSlot t i record n target mark) [boundReport i record s.binder.nextOrdinal target mark] := by
  rw [State.giveSlot_eq]
  exact (((s.handed_offers i _).before (State.joinPath_claimed _ i _).offers).after (State.offer_offers _ _)).before (State.openOn_offers _ i t)

end

/-- What a slot FREE till then, and its claims, have become once it has been given a cut as `x`. -/
structure Given (u g : State) (i : Nat) (x : Slot) : Prop where
  slot : g.slot i = some x
  others : ∀ j, j ≠ i → g.slot j = u.slot j
  off : ∀ k, legAt x.path k = none → g.claimList k = u.claimList k
  on : ∀ k e, 1 ≤ k → k ≤ 63 → legAt x.path k = some e → ∃ a b, u.claimList k = a ++ b ∧ g.claimList k = a ++ ⟨i, some e⟩ :: b
    ∧ (∀ c ∈ a, ∀ y, u.slot c.slot = some y → older x.ordinal y.ordinal = false)
    ∧ ∀ c, b.head? = some c → ∃ y, u.slot c.slot = some y ∧ older x.ordinal y.ordinal = true

theorem State.giveSlot_given {u s : State} {i : Nat} (inside : 1 ≤ i ∧ i ≤ 16) (absent : ∀ k, u.stands i k = false)
    (slots : s.slots = u.slots) (claims : s.claims = u.claims) (t : Clock) (record : Option CutRecord) (n target : Nat) (mark : Bool) :
    Given u (s.giveSlot t i record n target mark) i (s.boundSlot t record n target mark) := by
  have list (k : Nat) : (s.giveSlot t i record n target mark).claimList k = ((s.handed i (s.boundSlot t record n target mark)).joinPath i
      (s.boundSlot t record n target mark).path).claimList k := congrArg (readAt · [] k) (s.giveSlot_claims t record n target mark)
  generalize hx : s.boundSlot t record n target mark = x at list ⊢
  have base (k : Nat) : (s.handed i x).claimList k = u.claimList k := by
    simp [State.claimList, State.handed, claims]
  have given (j : Nat) : (s.handed i x).slot j = (s.setSlot i (some x)).slot j := by
    simp [State.slot, State.handed]
  have same (j : Nat) : (s.giveSlot t i record n target mark).slot j = (s.setSlot i (some x)).slot j := by
    rw [State.slot, State.giveSlot_slots, hx]
    rfl
  have other (j : Nat) (other : j ≠ i) : (s.setSlot i (some x)).slot j = u.slot j :=
    (State.slot_setSlot_ne _ _ other).trans (congrArg (readAt · none j) slots)
  refine ⟨(same i).trans (State.slot_setSlot_self _ i _ inside), fun j h => (same j).trans (other j h), fun k off => ?_,
    fun k e low high on => ?_⟩
  · rw [list, State.joinPath_off off, base]
  · have place := State.takeWhile_youngerThan (s := s.handed i x) (o := x.ordinal) (absent k) (fun j h => (given j).trans (other j h))
    refine ⟨_, _, (List.takeWhile_append_dropWhile (p := fun c => !(s.handed i x).youngerThan x.ordinal c)).symm, ?_, place⟩
    rw [list, State.joinPath_on ⟨low, high⟩ ((given i).trans (State.slot_setSlot_self _ i _ inside))
      (by rw [State.stands, base]; exact absent k) on, base]

/-! ### The choice of the target (R16, R17) -/

/-- A candidate may draw upon a patch entry, and changes nothing else. -/
theorem State.candidate_eq (s : State) (r : CutRecord) : ∃ patches,
    (s.candidate r).2 = { s with tables := { s.tables with patches := patches } } := by
  unfold State.candidate
  cases r.route with
  | track k => exact ⟨s.tables.patches, rfl⟩
  | destination code =>
    cases h : s.patchFor code with
    | none => exact ⟨s.tables.patches, by simp only [h]⟩
    | some k => exact ⟨_, by simp only [h]; rfl⟩

/-- The candidate, and what it draws upon, come from the tables. -/
theorem State.candidate_congr {s t : State} (tables : t.tables = s.tables) (r : CutRecord) :
    (t.candidate r).1 = (s.candidate r).1 ∧ (t.candidate r).2.tables = (s.candidate r).2.tables := by
  have patch (code : Nat) : t.patchFor code = s.patchFor code := by
    unfold State.patchFor
    rw [tables]
  have route (code : Nat) : t.routeEntry code = s.routeEntry code := by
    unfold State.routeEntry
    rw [tables]
  unfold State.candidate
  cases r.route with
  | track k => exact ⟨rfl, tables⟩
  | destination code =>
    simp only [patch, route, tables]
    cases s.patchFor code with
    | none => exact ⟨rfl, tables⟩
    | some k => exact ⟨rfl, rfl⟩

theorem State.chooseTarget_congr {s t : State} (tables : t.tables = s.tables) (slots : t.slots = s.slots) (c n : Nat) (noAlternate : Bool) :
    t.chooseTarget c n noAlternate = s.chooseTarget c n noAlternate := by
  have available (k : Nat) : t.available k n = s.available k n := by
    unfold State.available State.trackRecord State.reserved
    rw [tables, slots]
  unfold State.chooseTarget State.alternates State.trackRecord
  simp only [available, tables]

/-! ### The crossing -/

/-- No section holds what no unit of the lead changes: the axle enters L(root) as that list stood. -/
theorem State.crossLeadDown_slot {u g : State} {i d : Nat} {lead : SectionId} {time : Clock} (owned : u.binderDown time = (g, .slot i))
    (range : lead.inRange = true) (fits : AxleFits .tail (u.sec lead).runs (.slot i)) (normal : (u.sec lead).disturbance = none) :
    ∃ sections, (State.sec { g with sections := sections } lead).holds i = true ∧ u.crossLeadDown lead d time
      = ((State.capClosure { g with sections := sections }).takeCrossing i .lead .down time false).gapAtOnce := by
  have same : g.sec lead = u.sec lead := by
    have frame := (u.binderDown_frame time).2.2.2.2.1
    rw [owned] at frame
    unfold State.sec
    rw [frame]
  obtain ⟨m, entered, r, mem, owner⟩ := State.enterAxle_tail (u := g) (d := d) (time := time) (same ▸ fits) (same ▸ normal)
  have self := g.sec_setSec_self lead ⟨none, m⟩ range
  rw [State.setSec_eq] at entered self
  generalize (g.setSec lead ⟨none, m⟩).sections = sections at entered self
  refine ⟨sections, ?_, ?_⟩
  · rw [self]
    exact List.any_eq_true.mpr ⟨r, mem, decide_eq_true owner⟩
  · unfold State.crossLeadDown
    simp only [owned, entered]
    rfl

/-- An axle of no slot enters L(root) alone. -/
theorem State.crossLeadDown_unknown {u g : State} {d : Nat} {lead : SectionId} {time : Clock} (owned : u.binderDown time = (g, .unknown))
    (fits : AxleFits .tail (u.sec lead).runs .unknown) (normal : (u.sec lead).disturbance = none) :
    ∃ sections, u.crossLeadDown lead d time = (State.capClosure { g with sections := sections }).gapAtOnce := by
  have same : g.sec lead = u.sec lead := by
    have frame := (u.binderDown_frame time).2.2.2.2.1
    rw [owned] at frame
    unfold State.sec
    rw [frame]
  obtain ⟨m, entered, -⟩ := State.enterAxle_tail (u := g) (d := d) (time := time) (same ▸ fits) (same ▸ normal)
  rw [State.setSec_eq] at entered
  generalize (g.setSec lead ⟨none, m⟩).sections = sections at entered
  refine ⟨sections, ?_⟩
  unfold State.crossLeadDown
  simp only [owned, entered]
  rfl

theorem State.gapAtOnce_open {s : State} (open_ : due s.clock s.binder.gap = false) : s.gapAtOnce = s := by
  unfold State.gapAtOnce
  rw [open_]
  rfl

/-- No counter lies downstream of the lead's own, so an axle there is no head crossing, and does no more than be told. -/
theorem State.takeCrossing_lead {c : State} {i : Nat} {y : Slot} {time : Clock} (hy : c.slot i = some y) :
    c.takeCrossing i .lead .down time false = (c.tailTest i).reevaluateAll (c.toldOf (c.tailTest i) i) := by
  have none : c.downstream y.head .lead = false := by cases y.head <;> rfl
  exact State.takeCrossing_lateral hy none

section
variable {frame : List Byte} {s u : State} {d p : Nat} {time : Clock}

/-- A slot's axle at the lead: what comes after the cap's test. -/
theorem AxleHanded.entered (handed : AxleHanded s u frame d .down time) (role : u.joint d = some ⟨.lead, .outside, .sec (.pointLink p)⟩)
    {c : State} {i : Nat} {y : Slot} (crossed : u.crossLeadDown (.pointLink p) d time = (c.takeCrossing i .lead .down time false).gapAtOnce)
    (hy : c.slot i = some y) (open_ : due c.clock c.binder.gap = false) : ∃ t, exec (.telegramReceived .t false frame) s = .next t
      ∧ Ended c t i ∧ ∀ k, t.stands i k = true → StandsEvaluated t k := by
  obtain ⟨t, run, sends, sent⟩ := handed.crossed role
  have cross : u.cross ⟨.lead, .outside, .sec (.pointLink p)⟩ .down d time = (c.tailTest i).reevaluateAll (c.toldOf (c.tailTest i) i) := by
    change u.crossLeadDown (.pointLink p) d time = _
    rw [crossed, State.takeCrossing_lead hy, State.gapAtOnce_open (by simpa using open_)]
  rw [cross] at sends sent
  have ended : Ended c t i := .of_quiet (State.reevaluateAll_quiet _ _) (State.reevaluateAll_offers _ _) sends sent
  refine ⟨t, run, ended, fun k stands => ?_⟩
  have stood : (c.tailTest i).stands i k = true := by
    rw [State.stands, State.claimList, ended.claims] at stands
    exact stands
  exact (State.reevaluateAll_standsEvaluated (c.tailTest i) (.inl (State.mem_toldOf (.inr stood)))).of_same (sends.quiet.sameOutlook k)
    (sends.sent k)

/-- An axle of no slot at the lead. -/
theorem AxleHanded.enteredUnknown (handed : AxleHanded s u frame d .down time)
    (role : u.joint d = some ⟨.lead, .outside, .sec (.pointLink p)⟩) {g : State} (owned : u.binderDown time = (g, .unknown))
    (fits : AxleFits .tail (u.sec (.pointLink p)).runs .unknown) (normal : (u.sec (.pointLink p)).disturbance = none)
    (other : ∀ i, g.binder.state ≠ .tracked i) (open_ : due g.clock g.binder.gap = false) :
    ∃ t, exec (.telegramReceived .t false frame) s = .next t ∧ t.binder = g.binder ∧ t.slots = g.slots ∧ t.cutList = g.cutList
      ∧ t.tables = g.tables ∧ t.claims = g.claims ∧ Offers g t [] := by
  obtain ⟨t, run, sends, sent⟩ := handed.crossed role
  obtain ⟨sections, crossed⟩ := State.crossLeadDown_unknown (d := d) owned fits normal
  have kept : State.capClosure { g with sections := sections } = { g with sections := sections } := by
    unfold State.capClosure
    split
    · rename_i i tracked
      exact absurd tracked (other i)
    all_goals rfl
  have cross : u.cross ⟨.lead, .outside, .sec (.pointLink p)⟩ .down d time = { g with sections := sections } := by
    change u.crossLeadDown (.pointLink p) d time = _
    rw [crossed, kept, State.gapAtOnce_open (s := { g with sections := sections }) open_]
  rw [cross] at sends sent
  have into : Offers g { g with sections := sections } [] := .of_same rfl rfl rfl rfl rfl
  exact ⟨t, run, sends.binder, sends.slots, sends.cutList, sends.tables, sends.claims, into.after sent⟩

end

/-! ### The binder closed, a slot FREE (R32, R33) -/

/-- The statement's part on a cut bound to slot `i` in state `t`, with what the route resolution has chosen. -/
structure Bound (u t : State) (i : Nat) (time : Clock) (record : Option CutRecord) (n target : Nat) (mark : Bool) : Prop where
  given : Given u t i (u.boundSlot time record n target mark)
  binder : t.binder = ⟨.tracked i, some (after time u.tables.params.separation), u.binder.nextOrdinal + 1⟩
  demand : t.signal.demand = t.demandNow
  reported : Reported u t [boundReport i record u.binder.nextOrdinal target mark]
  evaluated : ∀ k, t.stands i k = true → StandsEvaluated t k

/-- The tail test leaves the claims of a slot whose head is at the lead. -/
theorem State.tailTest_lead {s : State} {i : Nat} {x : Slot} (hx : s.slot i = some x) (lead : x.head = .lead) (k : Nat) :
    (s.tailTest i).claimList k = s.claimList k := by
  refine State.tailTest_ahead hx ?_
  rw [lead]
  rfl

theorem State.freeSlot_inside {s : State} {i : Nat} (free : s.freeSlot = some i) : 1 ≤ i ∧ i ≤ 16 :=
  mem_ids.mp (List.mem_of_find?_eq_some free)

/-- The crossing that binds, from the state `v` that route resolution leaves. -/
theorem AxleHanded.bound {frame : List Byte} {s u v : State} {d p i n target : Nat} {time : Clock} {record : Option CutRecord} {mark : Bool}
    {patches : Vector Patch 8} (handed : AxleHanded s u frame d .down time)
    (role : u.joint d = some ⟨.lead, .outside, .sec (.pointLink p)⟩) (inside : 1 ≤ p ∧ p ≤ 63)
    (normal : (u.sec (.pointLink p)).disturbance = none) (fits : AxleFits .tail (u.sec (.pointLink p)).runs (.slot i))
    (open_ : reached u.clock (after time u.tables.params.separation) = false) (free : u.freeSlot = some i)
    (absent : ∀ k, u.stands i k = false) (owned : u.binderDown time = (v.giveSlot time i record n target mark, .slot i))
    (tables : v.tables = { u.tables with patches := patches }) (slots : v.slots = u.slots) (claims : v.claims = u.claims)
    (binder : v.binder = u.binder) (clock : v.clock = u.clock) (offers : Offers u v []) :
    ∃ t, exec (.telegramReceived .t false frame) s = .next t ∧ Bound u t i time record n target mark ∧ t.cutList = v.cutList
      ∧ t.tables = v.tables := by
  have fresh := State.boundSlot_congr tables (congrArg Binder.nextOrdinal binder) time record n target mark
  have given := State.giveSlot_given (State.freeSlot_inside free) absent slots claims time record n target mark
  have opened := v.giveSlot_binder time (i := i) record n target mark
  have demand := v.giveSlot_demand time (i := i) record n target mark
  have told := offers.trans (v.giveSlot_offers time (i := i) record n target mark)
  have frame' := v.giveSlot_frame time i record n target mark
  rw [fresh] at given
  rw [binder, show v.tables.params = u.tables.params by rw [tables]] at opened
  rw [binder] at told
  generalize v.giveSlot time i record n target mark = g at *
  obtain ⟨sections, -, crossed⟩ := State.crossLeadDown_slot (d := d) (lead := .pointLink p) owned (decide_eq_true inside) fits normal
  have kept : State.capClosure { g with sections := sections } = { g with sections := sections } := by
    unfold State.capClosure
    simp only [opened, State.slot, show readAt g.slots none i = _ from given.slot, Option.any_some]
    exact if_neg (show ¬decide (Config.axleCap ≤ 1) = true by decide)
  rw [kept] at crossed
  have notDue : due g.clock g.binder.gap = false := by
    rw [opened, frame'.1, clock]
    exact open_
  obtain ⟨t, run, ended, evaluated⟩ := handed.entered role (c := { g with sections := sections }) crossed given.slot notDue
  have list (k : Nat) : t.claimList k = g.claimList k := by
    rw [State.claimList, ended.claims]
    exact State.tailTest_lead (s := { g with sections := sections }) given.slot rfl k
  have into : Offers g { g with sections := sections } [] := .of_same rfl rfl rfl rfl rfl
  refine ⟨t, run, ⟨⟨(ended.slot i).trans given.slot, fun j other => (ended.slot j).trans (given.others j other), fun k off => ?_,
    fun k e low high on => ?_⟩, ended.binder.trans opened, ?_, (told.before (into.after ended.offers)).reported, evaluated⟩,
    ended.cutList.trans frame'.2.2.2.2.2.1, ended.tables.trans frame'.2.2.2.2.1⟩
  · rw [list, given.off k off]
  · rw [list]
    exact given.on k e low high on
  · unfold State.demandNow State.slotsInUse at demand ⊢
    rw [ended.signal, ended.engine, ended.cutList, ended.slots, ended.tables]
    exact demand

/-! ### The cap (R36) -/

theorem State.capClosure_below {s : State} {i : Nat} {x : Slot} (tracked : s.binder.state = .tracked i) (hx : s.slot i = some x)
    (below : x.counted < 127) : s.capClosure = s := by
  have few : ¬Config.axleCap ≤ x.counted := Nat.not_le_of_lt below
  unfold State.capClosure
  simp only [tracked, hx, Option.any_some, decide_eq_true_eq, if_neg few]

theorem State.capClosure_full {s : State} {i : Nat} {x : Slot} (tracked : s.binder.state = .tracked i) (hx : s.slot i = some x)
    (full : 127 ≤ x.counted) (holds : ∃ id, (s.sec id).holds i = true) : s.capClosure = s.shut i := by
  have cap : Config.axleCap ≤ x.counted := full
  have closed := State.closeCut_stays tracked hx (.inr holds)
  unfold State.capClosure
  simp only [tracked, hx, Option.any_some, decide_eq_true_eq, if_pos cap, closed]

/-- An axle of the open cut is counted; the one that brings the count to 127 closes the cut. -/
theorem AxleHanded.counts {frame : List Byte} {s u : State} {d p i : Nat} {time gap : Clock} {x : Slot}
    (handed : AxleHanded s u frame d .down time) (role : u.joint d = some ⟨.lead, .outside, .sec (.pointLink p)⟩)
    (inside : 1 ≤ p ∧ p ≤ 63) (normal : (u.sec (.pointLink p)).disturbance = none)
    (fits : AxleFits .tail (u.sec (.pointLink p)).runs (.slot i)) (hgap : gap = after time u.tables.params.separation)
    (open_ : reached u.clock gap = false) (tracked : u.binder.state = .tracked i) (hx : u.slot i = some x) :
    ∃ t, exec (.telegramReceived .t false frame) s = .next t ∧ (∀ j, j ≠ i → t.slot j = u.slot j) ∧ t.cutList = u.cutList
      ∧ t.tables = u.tables
      ∧ (x.counted < 126 → t.slot i = some { x with counted := x.counted + 1 } ∧ t.binder = { u.binder with gap := some gap }
        ∧ Reported u t [])
      ∧ (126 ≤ x.counted → t.binder = { u.binder with state := .closed, gap := none }
        ∧ Reported u t (mismatchReport i { x with counted := 127 })
        ∧ ∃ y, Closed { x with counted := 127 } y ∧ t.slot i = some y) := by
  have bounds := State.slot_inside hx
  have owned : u.binderDown time
      = ((u.setSlot i (some { x with counted := min 127 (x.counted + 1) })).restartGap time, .slot i) := by
    unfold State.binderDown
    simp only [tracked, State.updSlot_eq hx]
    rfl
  obtain ⟨sections, holds, crossed⟩ := State.crossLeadDown_slot (d := d) (lead := .pointLink p) owned (decide_eq_true inside) fits normal
  generalize hm : ({ (u.setSlot i (some { x with counted := min 127 (x.counted + 1) })).restartGap time with sections := sections } : State)
    = m at holds crossed
  have slot : m.slot i = some { x with counted := min 127 (x.counted + 1) } := by
    rw [← hm]
    exact State.slot_setSlot_self u i _ bounds
  have others (j : Nat) (other : j ≠ i) : m.slot j = u.slot j := by
    rw [← hm]
    exact State.slot_setSlot_ne u _ other
  have binder : m.binder = { u.binder with gap := some gap } := by
    rw [← hm, hgap]
    rfl
  have into : Offers u m [] := by
    rw [← hm]
    exact .of_same rfl rfl rfl rfl rfl
  have cuts : m.cutList = u.cutList := by rw [← hm]; rfl
  have tables : m.tables = u.tables := by rw [← hm]; rfl
  have clock : m.clock = u.clock := by rw [← hm]; rfl
  have own : m.binder.state = .tracked i := by rw [binder, tracked]
  by_cases few : x.counted < 126
  · rw [Nat.min_eq_right (by omega)] at slot
    rw [State.capClosure_below own slot (show x.counted + 1 < 127 by omega)] at crossed
    obtain ⟨t, run, ended, -⟩ := handed.entered role crossed slot (by rw [binder, clock]; exact open_)
    exact ⟨t, run, fun j other => (ended.slot j).trans (others j other), ended.cutList.trans cuts, ended.tables.trans tables,
      fun _ => ⟨(ended.slot i).trans slot, ended.binder.trans binder, (into.before ended.offers).reported⟩, fun h => absurd few (by omega)⟩
  · rw [Nat.min_eq_left (by omega)] at slot
    rw [State.capClosure_full own slot (Nat.le_refl 127) ⟨_, holds⟩] at crossed
    have shut : (m.shut i).binder = { u.binder with state := .closed, gap := none } := by
      simp [State.shut, State.shutBinder, binder]
    obtain ⟨t, run, ended, -⟩ := handed.entered role crossed (State.shut_slot slot) (by rw [shut]; rfl)
    refine ⟨t, run, fun j other => ?_, ended.cutList.trans ?_, ended.tables.trans ?_, fun h => absurd h few, fun _ =>
      ⟨ended.binder.trans shut, ((into.after (State.shut_offers slot)).before ended.offers).reported, _, Slot.closed_closed _,
        (ended.slot i).trans (State.shut_slot slot)⟩⟩
    · rw [ended.slot, State.shut_ne other, others j other]
    · simpa [State.shut] using cuts
    · simpa [State.shut] using tables

/-- Settles O36, by the state of the binder and the slot that is FREE. -/
theorem leadAxlesBindAndCount : Obligations.LeadAxlesBindAndCount := by
  unfold Obligations.LeadAxlesBindAndCount
  intro frame s u d p time gap handed role low high normal hgap open_
  refine ⟨fun i closed free fits absent => ?_, fun closed full fits => ?_, fun untracked fits => ?_, fun i x tracked hx fits =>
    handed.counts role ⟨low, high⟩ normal fits hgap open_ tracked hx⟩
  · subst hgap
    cases cuts : u.cutList with
    | nil =>
      have owned : u.binderDown time = (u.giveSlot time i none 1 u.tables.params.rejectTrack
          (!u.available u.tables.params.rejectTrack 1), .slot i) := by
        unfold State.binderDown
        simp only [closed, free, cuts]
        rfl
      obtain ⟨t, run, bound, list, tables⟩ := handed.bound role ⟨low, high⟩ normal fits open_ free absent owned (patches := u.tables.patches)
        rfl rfl rfl rfl rfl (.refl u)
      exact ⟨t, none, 1, _, _, run, .inl ⟨rfl, rfl, rfl, rfl, rfl, list.trans cuts, tables⟩, bound.given.slot, bound.given.others,
        bound.binder, bound.demand, bound.reported, bound.evaluated, bound.given.off, bound.given.on⟩
    | cons r rest =>
      have shorter := State.recompute_frame { u with cutList := rest }
      have offers : Offers u (State.recompute { u with cutList := rest }) [] := by
        refine Offers.after ?_ (State.recompute_offers _)
        exact .of_same rfl rfl rfl rfl rfl
      generalize hv : State.recompute { u with cutList := rest } = v at shorter offers
      obtain ⟨clock, -, -, -, tables, cutList, binder, -, slots, claims, -⟩ := shorter
      obtain ⟨patches, drawn⟩ := v.candidate_eq r
      obtain ⟨same, sameTables⟩ := State.candidate_congr (s := u) tables r
      have owned : u.binderDown time = ((v.candidate r).2.giveSlot time i (some r) r.expected
          ((v.candidate r).2.chooseTarget (v.candidate r).1 r.expected r.noAlternate).1
          ((v.candidate r).2.chooseTarget (v.candidate r).1 r.expected r.noAlternate).2, .slot i) := by
        unfold State.binderDown
        simp only [closed, free, cuts]
        rw [State.bindListed, hv]
      have chosen : (v.candidate r).2.chooseTarget (v.candidate r).1 r.expected r.noAlternate
          = (u.candidate r).2.chooseTarget (u.candidate r).1 r.expected r.noAlternate := by
        rw [same]
        refine State.chooseTarget_congr sameTables ?_ _ _ _
        obtain ⟨_, e⟩ := u.candidate_eq r
        rw [drawn, e]
        exact slots
      obtain ⟨t, run, bound, list, after⟩ := handed.bound role ⟨low, high⟩ normal fits open_ free absent owned (patches := patches)
        (by rw [drawn, tables]) (by rw [drawn]; exact slots) (by rw [drawn]; exact claims) (by rw [drawn]; exact binder)
        (by rw [drawn]; exact clock) (by rw [drawn]; exact offers.before (.of_same rfl rfl rfl rfl rfl))
      exact ⟨t, some r, r.expected, _, _, run, .inr ⟨r, rest, _, _, rfl, rfl, rfl, rfl, chosen, list.trans (by rw [drawn]; exact cutList),
        after.trans sameTables⟩, bound.given.slot, bound.given.others, bound.binder, bound.demand, bound.reported, bound.evaluated,
        bound.given.off, bound.given.on⟩
  · have owned : u.binderDown time = (u.startUntracked time, .unknown) := by
      unfold State.binderDown
      simp only [closed, full]
    have binder : (u.startUntracked time).binder = ⟨.untracked, some gap, u.binder.nextOrdinal⟩ := by
      rw [hgap]
      simp [State.startUntracked, State.restartGap]
    obtain ⟨t, run, tb, slots, cuts, tables, claims, sent⟩ := handed.enteredUnknown role owned fits normal (by rw [binder]; nofun)
      (by rw [binder]; simpa [State.startUntracked, State.restartGap, due] using open_)
    have told : Offers u (u.startUntracked time) [.trackingOverflow time u.cutList.length] :=
      (u.offer_offers _).before (.of_same rfl rfl rfl rfl rfl)
    refine ⟨t, run, (told.before sent).reported, tb.trans binder, slots.trans ?_, cuts.trans ?_, tables.trans ?_, claims.trans ?_⟩ <;>
      simp [State.startUntracked, State.restartGap]
  · have owned : u.binderDown time = (u.restartGap time, .unknown) := by
      unfold State.binderDown
      simp only [untracked]
    have binder : (u.restartGap time).binder = { u.binder with gap := some gap } := by rw [hgap]; rfl
    obtain ⟨t, run, tb, slots, cuts, tables, claims, sent⟩ := handed.enteredUnknown role owned fits normal
      (by rw [binder, untracked]; nofun) (by rw [binder]; exact open_)
    have told : Offers u (u.restartGap time) [] := .of_same rfl rfl rfl rfl rfl
    exact ⟨t, run, tb.trans binder, slots, cuts, tables, claims, (told.before sent).reported⟩

end Sys2Proof.Machine

/-! SUPPORT. The claim lists as lists of slot numbers, the order of R38 by distances to the next crest ordinal, and what an operation that
only takes slots out of the claim lists leaves of them (R38, R84, R96, R104). -/

namespace Sys2Proof.Machine

/-! ### The order of R38 by distances -/

/-- The bindings since the ordinal `o` was given, its own included, where `next` is the next to be given. -/
def bindingsSince (next o : Ordinal) : Nat := (next - o).toNat

/-- Within 32,768 bindings the older ordinal is the one given longer ago. -/
theorem older_iff_since {next a b : Ordinal} (ha : 1 ≤ bindingsSince next a ∧ bindingsSince next a ≤ 32768)
    (hb : 1 ≤ bindingsSince next b ∧ bindingsSince next b ≤ 32768) :
    older a b = true ↔ bindingsSince next b < bindingsSince next a := by
  unfold bindingsSince at *
  simp only [older, Bool.or_eq_true, Bool.and_eq_true, decide_eq_true_eq]
  constructor
  · rintro (close | ⟨half, less⟩) <;> bv_omega
  · intro less
    exact .inl (by bv_omega)

theorem bindingsSince_succ {next o : Ordinal} (h : bindingsSince next o ≤ 32767) :
    bindingsSince (next + 1) o = bindingsSince next o + 1 := by
  unfold bindingsSince at *
  bv_omega

theorem bindingsSince_self (o : Ordinal) : bindingsSince (o + 1) o = 1 := by
  unfold bindingsSince
  bv_omega

theorem bindingsSince_inj {next a b : Ordinal} (h : bindingsSince next a = bindingsSince next b) : a = b := by
  unfold bindingsSince at h
  bv_omega

/-! ### Claim lists as lists of slots -/

/-- The slots that stand in the claim list of a point, in its order. -/
def State.standers (s : State) (p : Nat) : List Nat := (s.claimList p).map Claim.slot

/-- The slot is in use and not LOST. -/
def State.tracked (s : State) (i : Nat) : Prop := ∃ x, s.slot i = some x ∧ x.flags.lost = false

/-- Slot `i` is older than slot `j`, where both are in use. -/
def State.olderSlot (s : State) (i j : Nat) : Prop :=
  ∀ x y, s.slot i = some x → s.slot j = some y → older x.ordinal y.ordinal = true

/-- The slots in use were bound within the last `n` bindings, each by its own. -/
def State.boundWithin (s : State) (n : Nat) : Prop :=
  (∀ i x, s.slot i = some x →
      1 ≤ bindingsSince s.binder.nextOrdinal x.ordinal ∧ bindingsSince s.binder.nextOrdinal x.ordinal ≤ n)
    ∧ ∀ i j x y, s.slot i = some x → s.slot j = some y → x.ordinal = y.ordinal → i = j

theorem State.recent_iff (s : State) : s.recent ↔ s.boundWithin 32767 := .rfl

theorem State.mem_standers {s : State} {i p : Nat} : i ∈ s.standers p ↔ s.stands i p = true := by
  simp [State.standers, State.stands_iff]

theorem State.claimsSound_iff (s : State) :
    s.claimsSound ↔ ∀ p, (s.standers p).Nodup ∧ ∀ i ∈ s.standers p, s.tracked i := by
  simp [State.claimsSound, State.standers, State.tracked]

theorem State.claimsOrdered_iff (s : State) : s.claimsOrdered ↔ ∀ p, (s.standers p).Pairwise s.olderSlot := by
  simp only [State.claimsOrdered, State.standers, List.pairwise_map]
  rfl

/-- The claim lists are sound; and, where `k` holds, the slots in use were bound within the last `n` bindings and the lists stand in
the order of R38. -/
structure State.ClaimsHold (s : State) (k : Prop) (n : Nat) : Prop where
  sound : s.claimsSound
  bound : k → s.boundWithin n
  ordered : k → s.claimsOrdered

theorem State.ClaimsHold.weaken {s : State} {k : Prop} {m n : Nat} (h : s.ClaimsHold k m) (le : m ≤ n) : s.ClaimsHold k n :=
  ⟨h.sound, fun hk => ⟨fun i x hx => ((h.bound hk).1 i x hx).imp_right (le_trans · le), (h.bound hk).2⟩, h.ordered⟩

/-! ### Operations that only take slots out of the claim lists -/

/-- From `s` to `t` no slot is bound and none joins a claim list; a slot that still stands in one is still in use and not LOST. -/
structure Sheds (s t : State) : Prop where
  ordinals : t.binder.nextOrdinal = s.binder.nextOrdinal
  slots : ∀ i y, t.slot i = some y → ∃ x, s.slot i = some x ∧ x.ordinal = y.ordinal
  lists : ∀ p, (t.standers p).Sublist (s.standers p)
  tracked : ∀ i p, i ∈ t.standers p → s.tracked i → t.tracked i

theorem Sheds.refl (s : State) : Sheds s s := ⟨rfl, fun _ y h => ⟨y, h, rfl⟩, fun _ => .refl _, fun _ _ _ h => h⟩

theorem Sheds.trans {s t u : State} (h : Sheds s t) (k : Sheds t u) : Sheds s u where
  ordinals := k.ordinals.trans h.ordinals
  slots i z hz := by
    obtain ⟨y, hy, yz⟩ := k.slots i z hz
    obtain ⟨x, hx, xy⟩ := h.slots i y hy
    exact ⟨x, hx, xy.trans yz⟩
  lists p := (k.lists p).trans (h.lists p)
  tracked i p m held := k.tracked i p m (h.tracked i p ((k.lists p).subset m) held)

theorem Sheds.foldl {α : Type} {f : State → α → State} (step : ∀ s a, Sheds s (f s a)) (l : List α) (s : State) :
    Sheds s (l.foldl f s) := by
  induction l generalizing s with
  | nil => exact .refl s
  | cons a l ih => exact (step s a).trans (ih _)

/-- Nothing that the claim lists rest on has changed. -/
theorem Sheds.of_same {s t : State} (h : (t.binder.nextOrdinal, t.slots, t.claims) = (s.binder.nextOrdinal, s.slots, s.claims)) :
    Sheds s t := by
  obtain ⟨ordinals, slots, claims⟩ : _ ∧ _ ∧ _ := by simpa using h
  have slot : t.slot = s.slot := by funext i; rw [State.slot, slots]; rfl
  have lists : t.standers = s.standers := by funext p; rw [State.standers, State.claimList, claims]; rfl
  exact ⟨ordinals, fun i y hy => ⟨y, by rw [← slot]; exact hy, rfl⟩, fun p => by rw [lists],
    fun i _ _ held => by rw [State.tracked, slot]; exact held⟩

/-- A slot that stands in no claim list stands in none afterwards. -/
theorem Sheds.absent {s t : State} (h : Sheds s t) {i : Nat} (absent : ∀ p, s.stands i p = false) (p : Nat) : t.stands i p = false := by
  refine Bool.eq_false_iff.mpr fun stands => ?_
  have m := (h.lists p).subset (State.mem_standers.mpr stands)
  exact absurd (State.mem_standers.mp m) (by simp [absent p])

theorem Sheds.hold {s t : State} (h : Sheds s t) {k : Prop} {n : Nat} (held : s.ClaimsHold k n) : t.ClaimsHold k n where
  sound := by
    have sound := s.claimsSound_iff.mp held.sound
    refine t.claimsSound_iff.mpr fun p => ⟨(h.lists p).nodup (sound p).1, fun i m => ?_⟩
    exact h.tracked i p m ((sound p).2 i ((h.lists p).subset m))
  bound hk := by
    obtain ⟨near, apart⟩ := held.bound hk
    constructor
    · intro i y hy
      obtain ⟨x, hx, same⟩ := h.slots i y hy
      rw [h.ordinals, ← same]
      exact near i x hx
    · intro i j y z hy hz same
      obtain ⟨x, hx, xy⟩ := h.slots i y hy
      obtain ⟨w, hw, wz⟩ := h.slots j z hz
      exact apart i j x w hx hw (xy.trans (same.trans wz.symm))
  ordered hk := by
    refine t.claimsOrdered_iff.mpr fun p => ((s.claimsOrdered_iff.mp (held.ordered hk) p).sublist (h.lists p)).imp ?_
    intro i j before y z hy hz
    obtain ⟨x, hx, xy⟩ := h.slots i y hy
    obtain ⟨w, hw, wz⟩ := h.slots j z hz
    rw [← xy, ← wz]
    exact before x w hx hw

/-! ### The slots -/

/-- A slot is rewritten, its ordinal kept, and not LOST where it was not. -/
theorem Sheds.setSlot {s : State} {i : Nat} {x y : Slot} (hx : s.slot i = some x) (ordinal : y.ordinal = x.ordinal)
    (lost : x.flags.lost = false → y.flags.lost = false) : Sheds s (s.setSlot i (some y)) := by
  have self : (s.setSlot i (some y)).slot i = some y := s.slot_setSlot_self i _ (State.slot_inside hx)
  refine ⟨rfl, fun j z hz => ?_, fun p => .refl _, fun j p _ ⟨z, hz, held⟩ => ?_⟩
  · rcases eq_or_ne j i with rfl | other
    · cases self.symm.trans hz
      exact ⟨x, hx, ordinal.symm⟩
    · exact ⟨z, (s.slot_setSlot_ne _ other).symm.trans hz, rfl⟩
  · rcases eq_or_ne j i with rfl | other
    · cases hx.symm.trans hz
      exact ⟨y, self, lost held⟩
    · exact ⟨z, (s.slot_setSlot_ne _ other).trans hz, held⟩

theorem Sheds.updSlot (s : State) (i : Nat) (f : Slot → Slot) (ordinal : ∀ x, (f x).ordinal = x.ordinal)
    (lost : ∀ x, (f x).flags.lost = x.flags.lost) : Sheds s (s.updSlot i f) := by
  cases hx : s.slot i with
  | none => exact .of_same (by simp [State.updSlot, hx])
  | some x =>
    rw [State.updSlot_eq hx]
    exact .setSlot hx (ordinal x) fun held => (lost x).trans held

theorem State.release_sheds (s : State) (i : Nat) : Sheds s (s.release i) := .updSlot s i _ (fun _ => rfl) fun _ => rfl

/-- A slot that stands in no claim list goes FREE. -/
theorem State.freeUp_sheds {s : State} {i : Nat} (absent : ∀ p, s.stands i p = false) : Sheds s (s.freeUp i) := by
  have freed : Sheds s (s.setSlot i none) := by
    refine ⟨rfl, fun j z hz => ?_, fun p => .refl _, fun j p m ⟨z, hz, held⟩ => ⟨z, ?_, held⟩⟩
    · rcases s.slot_setSlot_cases i j none with h | ⟨-, h⟩ <;> rw [h] at hz
      · exact ⟨z, hz, rfl⟩
      · cases hz
    · refine (s.slot_setSlot_ne _ fun e => ?_).trans hz
      have stands := State.mem_standers.mp (show i ∈ s.standers p from e ▸ m)
      rw [absent p] at stands
      cases stands
  exact freed.trans (.of_same (by simp [State.freeUp]))

end Sys2Proof.Machine

/-! SUPPORT. What takes slots out of the claim lists: claims given up, slots LOST, and what point control does of a guard (R85, R96, R106 to R123). -/

namespace Sys2Proof.Machine

/-! ### The claim lists -/

theorem State.claimList_setClaims (s : State) (p : Nat) (l : List Claim) (k : Nat) :
    (s.setClaims p l).claimList k = s.claimList k ∨ (k = p ∧ (s.setClaims p l).claimList k = l) :=
  readAt_writeAt_cases _ _ _ _ _

/-- One claim list is rewritten with no slot that did not stand in it, in its order. -/
theorem Sheds.setClaims (s : State) {p : Nat} {l : List Claim} (sub : (l.map Claim.slot).Sublist (s.standers p)) :
    Sheds s (s.setClaims p l) := by
  refine ⟨rfl, fun i y hy => ⟨y, hy, rfl⟩, fun k => ?_, fun _ _ _ held => held⟩
  rcases s.claimList_setClaims p l k with same | ⟨rfl, new⟩
  · rw [State.standers, same]
    exact .refl _
  · rw [State.standers, new]
    exact sub

theorem State.changeClaim_sheds (s : State) (p i : Nat) (want : Option Leg) : Sheds s (s.changeClaim p i want) := by
  refine .setClaims s ?_
  rw [List.map_map]
  refine (List.map_congr_left fun c _ => ?_) ▸ List.Sublist.refl _
  simp only [Function.comp]
  split <;> rfl

theorem State.leaveClaim_sheds (s : State) (p i : Nat) : Sheds s (s.leaveClaim p i) :=
  .setClaims s (List.filter_sublist.map _)

theorem State.leaveAll_sheds (s : State) (i : Nat) : Sheds s (s.leaveAll i) := by
  refine ⟨rfl, fun i y hy => ⟨y, hy, rfl⟩, fun k => ?_, fun _ _ _ held => held⟩
  rw [State.standers, State.claimList_leaveAll]
  exact List.filter_sublist.map _

theorem State.tailTest_sheds (s : State) (i : Nat) : Sheds s (s.tailTest i) := by
  unfold State.tailTest
  split
  · exact .refl s
  · split
    · exact .refl s
    · exact .foldl (fun a p => a.leaveClaim_sheds p i) _ s

/-- A slot that becomes LOST leaves every claim list (R96). -/
theorem State.becomeLost_sheds (s : State) (i : Nat) (cause : LostCause) (reported : Bool) : Sheds s (s.becomeLost i cause reported) := by
  cases hx : s.slot i with
  | none => simpa [State.becomeLost, hx] using Sheds.refl s
  | some x =>
    cases held : x.flags.lost with
    | true =>
      rw [State.becomeLost_lost hx held]
      exact .refl s
    | false =>
      have list (p : Nat) := State.becomeLost_claimList hx held cause reported p
      refine ⟨by simp, fun j y hy => ?_, fun p => ?_, fun j p m tracked => ?_⟩
      · rcases eq_or_ne j i with rfl | other
        · cases (State.becomeLost_self hx held cause reported).symm.trans hy
          exact ⟨x, hx, rfl⟩
        · exact ⟨y, (s.becomeLost_ne cause reported other).symm.trans hy, rfl⟩
      · rw [State.standers, list]
        exact List.filter_sublist.map _
      · have other : j ≠ i := by
          rw [State.standers, list] at m
          rintro rfl
          obtain ⟨c, m, own⟩ := List.mem_map.mp m
          exact of_decide_eq_true (List.mem_filter.mp m).2 own
        obtain ⟨y, hy, lost⟩ := tracked
        exact ⟨y, (s.becomeLost_ne cause reported other).trans hy, lost⟩

theorem State.offer_sheds (s : State) (body : ReportBody) : Sheds s (s.offer body) := .of_same (by simp)

theorem State.recompute_sheds (s : State) : Sheds s s.recompute := .of_same (by simp)

theorem State.reevaluateAll_sheds (s : State) (l : List Nat) : Sheds s (s.reevaluateAll l) := .of_same (by simp)

/-! ### Point control (R56, R106 to R123) -/

theorem State.violation_sheds (s : State) (p : Nat) (entry : Option (Clock × Owner)) (inStop : Bool) :
    Sheds s (s.violation p entry inStop) := by
  have told : Sheds s ((s.markFailed p .guardViolation).tellViolation inStop) := .of_same (by simp)
  have lost := told.trans (Sheds.foldl (f := fun a i => a.becomeLost i (.guardViolation p) true)
    (fun a i => a.becomeLost_sheds i _ true) (s.violators p (entry.map Prod.snd)) _)
  exact lost.trans (State.offer_sheds _ _)

theorem State.guardEntry_sheds (s : State) (p : Nat) (t : Clock) (owner : Owner) : Sheds s (s.guardEntry p t owner) := by
  unfold State.guardEntry
  split
  case h_1 => exact .of_same (by simp)
  case h_2 | h_3 => exact s.violation_sheds ..
  all_goals exact .refl s

theorem State.guardOccupied_sheds (s : State) (p : Nat) (inStop : Bool) : Sheds s (s.guardOccupied p inStop) := by
  unfold State.guardOccupied
  split
  case h_1 => exact .of_same (by simp)
  case h_2 =>
    split
    · exact s.violation_sheds ..
    · exact .refl s
  all_goals exact .refl s

theorem State.guardChange_sheds (s : State) (p : Nat) (before : Bool) : Sheds s (s.guardChange p before) := by
  unfold State.guardChange
  split
  · exact .refl s
  · split
    · exact .of_same (by simp)
    · exact s.guardOccupied_sheds p false

theorem State.guardNotices_sheds (s : State) (p : Nat) (entry before : Bool) (t : Clock) (owner : Owner) :
    Sheds s (s.guardNotices p entry before t owner) := by
  refine Sheds.trans ?_ (State.guardChange_sheds _ p before)
  split
  · exact s.guardEntry_sheds p t owner
  · exact .refl s

theorem State.refuseStart_sheds (s : State) (p : Nat) : Sheds s (s.refuseStart p) := by
  unfold State.refuseStart
  split
  case h_1 => exact .of_same (by simp)
  case h_2 => exact s.violation_sheds ..
  all_goals exact .of_same (by simp)

theorem State.selectThrow_sheds (n : Nat) (s : State) : Sheds s (s.selectThrow n) := by
  have selects (a : State) : Sheds a (a.select .t) := .of_same (by simp)
  induction n generalizing s with
  | zero => exact selects s
  | succ n ih =>
    unfold State.selectThrow
    split
    · split
      · exact selects s
      · exact (s.refuseStart_sheds _).trans (ih _)
    · exact selects s

theorem State.selectWaiting_sheds (s : State) (p : Port) : Sheds s (s.selectWaiting p) := by
  cases p with
  | y => exact .of_same (by simp [State.selectWaiting])
  | t => exact State.selectThrow_sheds _ s

theorem State.deglitchExpired_sheds (s : State) (p : Nat) : Sheds s (s.deglitchExpired p) := by
  have stopped : Sheds s (s.setPt p { s.pt p with deglitchTimer := none }) := .of_same (by simp)
  unfold State.deglitchExpired
  refine stopped.trans ?_
  split
  · exact .refl _
  · exact .of_same (by simp)
  · split
    · exact .refl _
    · split
      · exact .of_same (by simp)
      · exact State.violation_sheds ..

theorem State.deglitchStart_sheds (s : State) (p deglitch : Nat) : Sheds s (s.deglitchStart p deglitch) := by
  unfold State.deglitchStart
  split
  · exact .refl s
  · have started : Sheds s (s.setPt p { s.pt p with deglitchTimer := some (after s.clock deglitch) }) := .of_same (by simp)
    refine started.trans ?_
    simp only
    split
    · exact State.deglitchExpired_sheds ..
    · exact .refl _

theorem State.statusAtRest_sheds (s : State) (p : Nat) (e : Leg) (rec : PointRecord) (detected : Option Leg) :
    Sheds s (s.statusAtRest p e rec detected) := by
  unfold State.statusAtRest
  split
  · exact .of_same (by simp)
  · split
    · exact Sheds.trans (.of_same (by simp)) (State.deglitchStart_sheds ..)
    · exact s.deglitchStart_sheds ..

theorem State.statusTaken_sheds (s : State) (p : Nat) (rec : PointRecord) (detected : Option Leg) (drive : Drive) :
    Sheds s (s.statusTaken p rec detected drive) := by
  have read : Sheds s (s.setPt p { s.pt p with detected := detected, drive := drive }) := .of_same (by simp)
  unfold State.statusTaken
  refine read.trans ?_
  split
  case h_1 | h_5 => exact .of_same (by simp)
  case h_6 =>
    split
    · exact .refl _
    · exact .of_same (by simp)
  case h_7 => exact .refl _
  all_goals exact State.statusAtRest_sheds ..

theorem State.pointStatus_sheds (s : State) (src p : Nat) (detected : Option Leg) (drive : Drive) :
    Sheds s (s.pointStatus src p detected drive) := by
  unfold State.pointStatus
  split
  · split
    · exact s.statusTaken_sheds ..
    · exact .of_same rfl
  · exact .of_same rfl

end Sys2Proof.Machine

/-! SUPPORT. What takes slots out of the claim lists: disturbances, run removal, clearing, rolling back, closing and the stall deadline (R35 to R40, R52 to R59, R83, R93 to R98). -/

namespace Sys2Proof.Machine

/-! ### Sections (R52 to R59) -/

theorem State.disturb_sheds (s : State) (id : SectionId) (cause : DisturbCause) (d : Option Nat) (t : Option Clock) (owner : Owner) :
    Sheds s (s.disturb id cause d t owner) := by
  unfold State.disturb
  split
  · split
    · exact .refl s
    · exact s.becomeLost_sheds ..
  · have disturbed : Sheds s (s.setSec id { s.sec id with disturbance := some ⟨cause, d, t⟩ }) := .of_same (by simp)
    refine Sheds.trans ?_ (State.offer_sheds _ _)
    exact disturbed.trans (.foldl (fun a i => a.becomeLost_sheds i _ false) _ _)

theorem State.takeAxle_sheds (s : State) (id : SectionId) (side : Side) (d : Nat) (t : Clock) : Sheds s (s.takeAxle id side d t).1 := by
  unfold State.takeAxle
  split
  · exact .of_same (by simp)
  · simp only
    exact s.disturb_sheds ..

theorem State.enterAxle_sheds (s : State) (id : SectionId) (side : Side) (owner : Owner) (d : Nat) (t : Clock) :
    Sheds s (s.enterAxle id side owner d t).1 := by
  unfold State.enterAxle
  split
  · rename_i runs _
    have entered : Sheds s (s.setSec id { s.sec id with runs := runs }) := .of_same (by simp)
    simp only
    split
    · exact entered.trans (State.becomeLost_sheds ..)
    · exact entered
  · exact s.disturb_sheds ..

theorem State.restore_sheds (s : State) (id : SectionId) : Sheds s (s.restore id) := by
  have emptied : Sheds s (s.setSec id ⟨none, []⟩) := .of_same (by simp)
  refine emptied.trans ?_
  cases id with
  | guard p => exact State.guardChange_sheds ..
  | pointLink _ | trackLink _ => exact .refl _

theorem State.removeRuns_sheds (s : State) (i : Nat) : Sheds s (s.removeRuns i) := by
  have disturbed := (Sheds.of_same (s := s) (t := s.cutRuns i) (by simp)).trans
    (Sheds.foldl (f := fun a id => a.disturb id .runOverflow none none .unknown) (fun a id => a.disturb_sheds id _ _ _ _)
      (s.overflowing i) _)
  exact disturbed.trans (.foldl (fun a p => a.guardChange_sheds p _) _ _)

/-! ### Slots that clear, roll back or are dropped (R40, R83, R94, R95, R98) -/

/-- A slot leaves every claim list, the points it stood at re-evaluate, and it goes FREE. -/
theorem State.leaves_sheds {s t : State} {i : Nat} {points : List Nat} (before : Sheds s t) :
    Sheds s (((t.leaveAll i).reevaluateAll points).freeUp i) := by
  have left := (t.leaveAll_sheds i).trans ((t.leaveAll i).reevaluateAll_sheds points)
  refine (before.trans left).trans (State.freeUp_sheds fun p => ?_)
  exact ((t.leaveAll i).reevaluateAll_sheds points).absent (t.leaveAll_stands i) p

theorem State.tryClear_sheds (s : State) (i : Nat) : Sheds s (s.tryClear i) := by
  unfold State.tryClear
  split
  · exact .refl s
  · rename_i x _
    split
    · rename_i t _
      split
      · have charged : Sheds s (s.charge t x.counted) := .of_same (by simp)
        exact State.leaves_sheds ((charged.trans (State.release_sheds _ i)).trans (State.offer_sheds _ _))
      · exact .refl s
    all_goals exact .refl s

theorem State.updTryClear_sheds {s t : State} (before : Sheds s t) (i : Nat) (f : Slot → Slot) (ordinal : ∀ x, (f x).ordinal = x.ordinal)
    (lost : ∀ x, (f x).flags.lost = x.flags.lost) : Sheds s ((t.updSlot i f).tryClear i) :=
  (before.trans (.updSlot t i f ordinal lost)).trans (State.tryClear_sheds _ i)

theorem State.startClearing_sheds (s : State) (i t : Nat) : Sheds s (s.startClearing i t) := by
  unfold State.startClearing
  split
  · exact .refl s
  · refine State.updTryClear_sheds ?_ i _ (fun _ => rfl) fun _ => rfl
    split
    · exact s.becomeLost_sheds ..
    · exact .refl s

theorem State.clearedAxle_sheds (s : State) (i t : Nat) : Sheds s (s.clearedAxle i t) := by
  unfold State.clearedAxle
  split
  · exact .refl s
  · refine State.updTryClear_sheds ?_ i _ (fun _ => rfl) fun _ => rfl
    split
    · exact s.becomeLost_sheds ..
    · exact .refl s

theorem State.returnRecord_sheds (s : State) (r : Option CutRecord) : Sheds s (s.returnRecord r) := by
  cases r <;> exact .of_same (by simp)

theorem State.shutBinder_sheds (s : State) : Sheds s s.shutBinder := .of_same rfl

theorem State.rollBack_sheds (s : State) (i : Nat) (x : Slot) : Sheds s (s.rollBack i x) := by
  have left := (s.leaveAll_sheds i).trans (State.reevaluateAll_sheds _ (s.standing i))
  have released := left.trans (State.release_sheds _ i)
  have absent := ((State.reevaluateAll_sheds _ (s.standing i)).trans (State.release_sheds _ i)).absent (s.leaveAll_stands i)
  have freed := (released.trans (State.freeUp_sheds absent)).trans (State.returnRecord_sheds _ x.record)
  unfold State.rollBack
  simp only
  split
  · exact freed.trans (State.shutBinder_sheds _)
  · exact freed

theorem State.rollbackTest_sheds (s : State) (i : Nat) : Sheds s (s.rollbackTest i) := by
  unfold State.rollbackTest
  split
  · exact .refl s
  · split
    · exact s.rollBack_sheds ..
    · exact .refl s

theorem State.binderLoses_sheds (s : State) (i : Nat) : Sheds s (s.binderLoses i) := by
  unfold State.binderLoses
  split
  · exact .of_same rfl
  · exact .refl s

theorem State.dropSlot_sheds (s : State) (i : Nat) (x : Slot) : Sheds s (s.dropSlot i x) := by
  have cut := ((State.reevaluateAll_sheds (s.leaveAll i) (s.standing i)).trans (State.release_sheds _ i)).trans
    (State.removeRuns_sheds _ i)
  have freed := ((s.leaveAll_sheds i).trans cut).trans (State.freeUp_sheds (cut.absent (s.leaveAll_stands i)))
  exact (freed.trans (State.binderLoses_sheds _ i)).trans (State.offer_sheds _ _)

/-! ### The closing of a cut and the stall deadline (R35 to R37, R76, R83) -/

theorem Slot.closed_same (x : Slot) : x.closed.ordinal = x.ordinal ∧ x.closed.flags.lost = x.flags.lost := by
  unfold Slot.closed
  cases x.record <;> exact ⟨rfl, rfl⟩

theorem State.closeSlot_sheds (s : State) (i : Nat) : Sheds s (s.closeSlot i) := by
  unfold State.closeSlot
  split
  · exact .refl s
  · rename_i x hx
    have closed : Sheds s (s.setSlot i (some x.closed)) := .setSlot hx x.closed_same.1 x.closed_same.2.trans
    simp only
    split
    · split
      · exact closed.trans (State.offer_sheds _ _)
      · exact closed
    · exact closed

theorem State.closeCut_sheds (s : State) : Sheds s s.closeCut := by
  unfold State.closeCut
  split
  · exact ((s.closeSlot_sheds _).trans (State.shutBinder_sheds _)).trans (State.tryClear_sheds _ _)
  all_goals exact s.shutBinder_sheds

theorem State.capClosure_sheds (s : State) : Sheds s s.capClosure := by
  unfold State.capClosure
  split
  · split
    · exact s.closeCut_sheds
    · exact .refl s
  all_goals exact .refl s

theorem State.gapAtOnce_sheds (s : State) : Sheds s s.gapAtOnce := by
  unfold State.gapAtOnce
  split
  · exact s.closeCut_sheds
  · exact .refl s

theorem State.stallExpired_sheds (s : State) (i : Nat) : Sheds s (s.stallExpired i) := by
  unfold State.stallExpired
  split
  · exact .refl s
  · rename_i x hx
    refine Sheds.trans (Sheds.setSlot hx ?_ ?_) (State.offer_sheds _ _)
    · rfl
    · exact id

theorem State.stallAtOnce_sheds (s : State) (i : Nat) : Sheds s (s.stallAtOnce i) := by
  unfold State.stallAtOnce
  split
  · exact s.stallExpired_sheds i
  · exact .refl s

theorem State.divisionCheck_sheds (s : State) (i p : Nat) (observed : Leg) : Sheds s (s.divisionCheck i p observed) := by
  unfold State.divisionCheck
  split
  · exact .refl s
  · split
    · exact .refl s
    · split
      · exact s.becomeLost_sheds ..
      · split
        · exact .refl s
        · exact s.becomeLost_sheds ..

end Sys2Proof.Machine

/-! SUPPORT. The operations by which a slot joins claim lists: they keep the lists sound and in the order of R38 while the slots in use were
bound within the last 32,768 bindings (R38, R84, R104). -/

namespace Sys2Proof.Machine

/-- An entry put before the first one that `q` turns down keeps a list in order. -/
theorem pairwise_insert {α : Type} {r : α → α → Prop} {q : α → Bool} {a : α} {l : List α} (before : ∀ b ∈ l, q b = true → r b a)
    (after : ∀ b ∈ l, q b = false → r a b) (trans : ∀ b ∈ l, ∀ c ∈ l, r a b → r b c → r a c) (h : l.Pairwise r) :
    (l.takeWhile q ++ a :: l.dropWhile q).Pairwise r := by
  induction l with
  | nil => simp
  | cons b l ih =>
    obtain ⟨first, rest⟩ := List.pairwise_cons.mp h
    cases hq : q b with
    | true =>
      simp only [List.takeWhile_cons, List.dropWhile_cons, hq, if_true, List.cons_append]
      refine List.pairwise_cons.mpr ⟨fun c m => ?_, ih (fun c m => before c (.tail _ m)) (fun c m => after c (.tail _ m))
        (fun c m d n => trans c (.tail _ m) d (.tail _ n)) rest⟩
      rcases List.mem_append.mp m with m | m
      · exact first c (List.takeWhile_subset _ m)
      · rcases List.mem_cons.mp m with rfl | m
        · exact before b List.mem_cons_self hq
        · exact first c (List.dropWhile_subset _ m)
    | false =>
      simp only [List.takeWhile_cons, List.dropWhile_cons, hq, Bool.false_eq_true, if_false, List.nil_append]
      have next := after b List.mem_cons_self hq
      refine List.pairwise_cons.mpr ⟨fun c m => ?_, h⟩
      rcases List.mem_cons.mp m with rfl | m
      · exact next
      · exact trans b List.mem_cons_self c (.tail _ m) next (first c m)

/-! ### The order among slots bound recently -/

section
variable {s : State} {n : Nat} {i j : Nat} {x y : Slot}

theorem State.boundWithin.older_iff (h : s.boundWithin n) (le : n ≤ 32768) (hx : s.slot i = some x) (hy : s.slot j = some y) :
    older x.ordinal y.ordinal = true
      ↔ bindingsSince s.binder.nextOrdinal y.ordinal < bindingsSince s.binder.nextOrdinal x.ordinal := by
  have near := h.1
  exact older_iff_since ((near i x hx).imp_right (le_trans · le)) ((near j y hy).imp_right (le_trans · le))

/-- Of two slots one is older (R38). -/
theorem State.boundWithin.older_of_not (h : s.boundWithin n) (le : n ≤ 32768) (hx : s.slot i = some x) (hy : s.slot j = some y)
    (other : i ≠ j) (young : older x.ordinal y.ordinal = false) : older y.ordinal x.ordinal = true := by
  have distinct : bindingsSince s.binder.nextOrdinal x.ordinal ≠ bindingsSince s.binder.nextOrdinal y.ordinal := fun same =>
    other (h.2 i j x y hx hy (bindingsSince_inj same))
  have unordered := mt (h.older_iff le hx hy).mpr (Bool.eq_false_iff.mp young)
  exact (h.older_iff le hy hx).mpr (by omega)

theorem State.boundWithin.olderSlot_trans {k : Nat} (h : s.boundWithin n) (le : n ≤ 32768) (hy : s.slot j = some y)
    (first : s.olderSlot i j) (second : s.olderSlot j k) : s.olderSlot i k := by
  intro x z hx hz
  have a := (h.older_iff le hx hy).mp (first x y hx hy)
  have b := (h.older_iff le hy hz).mp (second y z hy hz)
  exact (h.older_iff le hx hz).mpr (by omega)

end

/-! ### What keeps the claim lists -/

/-- The claim lists of `t` are sound and in order as those of `s` were. -/
structure KeepsClaims (s t : State) : Prop where
  hold : ∀ {k : Prop} {n : Nat}, n ≤ 32768 → s.ClaimsHold k n → t.ClaimsHold k n

theorem Sheds.keeps {s t : State} (h : Sheds s t) : KeepsClaims s t := ⟨fun _ held => h.hold held⟩

theorem KeepsClaims.refl (s : State) : KeepsClaims s s := ⟨fun _ h => h⟩

theorem KeepsClaims.trans {s t u : State} (h : KeepsClaims s t) (g : KeepsClaims t u) : KeepsClaims s u :=
  ⟨fun le held => g.hold le (h.hold le held)⟩

/-- The slot is not LOST. -/
def State.notLost (s : State) (i : Nat) : Prop := ∀ x, s.slot i = some x → x.flags.lost = false

theorem State.notLost_of_slots {s t : State} {i : Nat} (slots : t.slots = s.slots) (h : s.notLost i) : t.notLost i := by
  rw [State.notLost, State.slot, slots]
  exact h

theorem State.setSlot_notLost (s : State) (i : Nat) {x : Slot} (held : x.flags.lost = false) : (s.setSlot i (some x)).notLost i := by
  intro y hy
  rw [s.slot_setSlot_self i _ (State.slot_inside hy)] at hy
  cases hy
  exact held

theorem Claimed.notLost {s t : State} {i : Nat} (h : Claimed s t) (held : s.notLost i) : t.notLost i := by
  obtain ⟨claims, rfl⟩ := h
  exact held

/-- A slot joins a claim list after every older entry (R104). -/
theorem State.joinClaim_keeps {s : State} {i : Nat} (held : s.notLost i) (p : Nat) (want : Option Leg) :
    KeepsClaims s (s.joinClaim p i want) := by
  refine ⟨fun {k n} le hold => ?_⟩
  unfold State.joinClaim
  split
  · exact hold
  rename_i absent
  split
  · exact hold
  rename_i x hx
  have other (c : Claim) (m : c ∈ s.claimList p) : c.slot ≠ i := fun own => absent (State.stands_iff.mpr ⟨c, m, own⟩)
  have used (c : Claim) (m : c ∈ s.claimList p) : ∃ y, s.slot c.slot = some y ∧ y.flags.lost = false := (hold.sound p).2 c m
  simp only
  refine ⟨fun q => ?_, hold.bound, fun hk q => ?_⟩
  · rcases s.claimList_setClaims p _ q with same | ⟨rfl, new⟩
    · rw [same]
      exact hold.sound q
    · rw [new]
      have perm := (List.perm_middle (a := (⟨i, want⟩ : Claim)) (l₁ := (s.claimList q).takeWhile fun c => !s.youngerThan x.ordinal c)
        (l₂ := (s.claimList q).dropWhile fun c => !s.youngerThan x.ordinal c))
      rw [List.takeWhile_append_dropWhile] at perm
      constructor
      · refine (perm.map _).nodup_iff.mpr (List.nodup_cons.mpr ⟨fun m => ?_, (hold.sound q).1⟩)
        obtain ⟨c, m, own⟩ := List.mem_map.mp m
        exact other c m own
      · intro c m
        rcases List.mem_cons.mp (perm.mem_iff.mp m) with rfl | m
        · exact ⟨x, hx, held x hx⟩
        · exact used c m
  · rcases s.claimList_setClaims p _ q with same | ⟨rfl, new⟩
    · rw [same]
      exact hold.ordered hk q
    · rw [new]
      have bound := hold.bound hk
      refine pairwise_insert (r := fun a b : Claim => s.olderSlot a.slot b.slot) (fun b m older => ?_) (fun b m younger => ?_)
        (fun b m c _ => ?_) (hold.ordered hk q)
      · intro y z hy hz
        cases hx.symm.trans hz
        refine bound.older_of_not le hx hy (other b m).symm ?_
        simpa [State.youngerThan, hy] using older
      · intro z y hz hy
        cases hx.symm.trans hz
        simpa [State.youngerThan, hy] using younger
      · obtain ⟨y, hy, -⟩ := used b m
        exact bound.olderSlot_trans le hy

theorem State.alignAt_keeps {s : State} {i : Nat} (held : s.notLost i) (x : Slot) (base p : Nat) :
    KeepsClaims s (s.alignAt i x base p) := by
  unfold State.alignAt
  split
  · exact (s.leaveClaim_sheds p i).keeps
  · split
    · exact (s.changeClaim_sheds p i _).keeps
    · split
      · exact .refl s
      · exact State.joinClaim_keeps held p _

/-- A fold of steps that change the claim lists alone, each keeping them. -/
theorem KeepsClaims.foldl {α : Type} {i : Nat} {f : State → α → State} (claimed : ∀ s a, Claimed s (f s a))
    (keeps : ∀ s a, s.notLost i → KeepsClaims s (f s a)) (l : List α) {s : State} (held : s.notLost i) : KeepsClaims s (l.foldl f s) := by
  induction l generalizing s with
  | nil => exact .refl s
  | cons a l ih => exact (keeps s a held).trans (ih ((claimed s a).notLost held))

theorem State.alignClaims_keeps {s : State} {i : Nat} (held : s.notLost i) (base : Nat) : KeepsClaims s (s.alignClaims i base) := by
  unfold State.alignClaims
  split
  · exact .refl s
  · exact .foldl (fun a _ => a.alignAt_claimed ..) (fun _ p h => State.alignAt_keeps h _ base p) _ held

theorem State.joinPath_keeps {s : State} {i : Nat} (held : s.notLost i) (path : Path) : KeepsClaims s (s.joinPath i path) :=
  .foldl (fun a _ => a.joinClaim_claimed ..) (fun _ x h => State.joinClaim_keeps h x.1 _) path held

/-! ### Settlement and the checks of a crossing (R86 to R92) -/

/-- A slot not LOST is rewritten and its claims are brought into line. -/
theorem State.setAlign_keeps {s : State} {i : Nat} {x y : Slot} (hx : s.slot i = some x) (held : y.flags.lost = false)
    (ordinal : y.ordinal = x.ordinal) (base : Nat) : KeepsClaims s ((s.setSlot i (some y)).alignClaims i base) :=
  (Sheds.setSlot hx ordinal fun _ => held).keeps.trans (State.alignClaims_keeps (s.setSlot_notLost i held) base)

theorem State.retargeted_same (s : State) (x : Slot) (p : Nat) (leg : Leg) (r : Retarget) :
    (s.retargeted x p leg r).ordinal = x.ordinal ∧ (s.retargeted x p leg r).flags.lost = x.flags.lost := by
  cases r <;> exact ⟨rfl, rfl⟩

theorem State.takeRetarget_keeps {s : State} {i : Nat} (held : s.notLost i) (p : Nat) (leg : Leg) (result : Retarget) (base : Nat) :
    KeepsClaims s (s.takeRetarget i p leg result base) := by
  unfold State.takeRetarget
  split
  · exact .refl s
  · rename_i x hx
    obtain ⟨ordinal, lost⟩ := s.retargeted_same x p leg result
    exact (State.setAlign_keeps hx (lost.trans (held x hx)) ordinal base).trans (State.offer_sheds _ _).keeps

theorem State.becomeUnresolved_keeps {s : State} {i : Nat} (held : s.notLost i) (p : Nat) : KeepsClaims s (s.becomeUnresolved i p) := by
  unfold State.becomeUnresolved
  split
  · exact .refl s
  · rename_i x hx
    refine KeepsClaims.trans (State.setAlign_keeps hx ?_ ?_ p) (State.offer_sheds _ _).keeps
    · exact held x hx
    · rfl

/-- A slot not LOST is rewritten, a report is offered, and the slot takes the result of a retargeting. -/
theorem State.setRetarget_keeps {s : State} {i : Nat} {x y : Slot} (hx : s.slot i = some x) (held : y.flags.lost = false)
    (ordinal : y.ordinal = x.ordinal) (body : ReportBody) (p : Nat) (leg : Leg) (result : Retarget) (base : Nat) :
    KeepsClaims s (((s.setSlot i (some y)).offer body).takeRetarget i p leg result base) := by
  have told := (Sheds.setSlot hx ordinal fun _ => held).trans (State.offer_sheds (s.setSlot i (some y)) body)
  refine told.keeps.trans (State.takeRetarget_keeps ?_ p leg result base)
  exact State.notLost_of_slots (by simp) (s.setSlot_notLost i held)

theorem State.cornered_keeps {s : State} {i : Nat} (held : s.notLost i) (p : Nat) (pathLeg lying : Leg) :
    KeepsClaims s (s.cornered i p pathLeg lying) := by
  unfold State.cornered
  split
  · exact .refl s
  · rename_i x hx
    refine State.setRetarget_keeps hx ?_ ?_ _ p lying _ p
    · exact held x hx
    · rfl

theorem State.settleBy_keeps {s : State} {i : Nat} (held : s.notLost i) (p : Nat) (pathLeg : Leg) (lies : Option Leg) :
    KeepsClaims s (s.settleBy i p pathLeg lies) := by
  unfold State.settleBy
  split
  · exact State.becomeUnresolved_keeps held p
  · split
    · exact .refl s
    · exact State.cornered_keeps held ..

theorem State.settleOnPath_keeps {s : State} {i : Nat} (held : s.notLost i) (p : Nat) (pathLeg : Leg) :
    KeepsClaims s (s.settleOnPath i p pathLeg) := by
  unfold State.settleOnPath
  split
  case h_1 | h_2 => exact (s.becomeLost_sheds ..).keeps
  case h_3 =>
    have withdrawn : Sheds s (s.withdrawn p) := .of_same (by simp)
    exact withdrawn.keeps.trans (State.settleBy_keeps (State.notLost_of_slots (by simp) held) ..)
  all_goals exact State.settleBy_keeps held ..

theorem State.settle_keeps {s : State} {i : Nat} (held : s.notLost i) (p : Nat) : KeepsClaims s (s.settle i p) := by
  unfold State.settle
  split
  · exact .refl s
  · split
    · exact State.settleOnPath_keeps held ..
    · split
      · split
        case h_1 | h_2 => exact (s.becomeLost_sheds ..).keeps
        all_goals exact .refl s
      · exact (s.becomeLost_sheds ..).keeps

theorem State.misrouted_keeps {s : State} {i : Nat} (held : s.notLost i) (p : Nat) (pathLeg observed : Leg) :
    KeepsClaims s (s.misrouted i p pathLeg observed) := by
  have wrong : Sheds s (s.wrongLeg p) := .of_same (by simp)
  have same : (s.wrongLeg p).notLost i := State.notLost_of_slots (by simp) held
  unfold State.misrouted
  refine wrong.keeps.trans ?_
  simp only
  split
  · exact .refl _
  · rename_i x hx
    refine State.setRetarget_keeps hx ?_ ?_ _ p observed _ p
    · exact same x hx
    · rfl

theorem State.legCheck_keeps {s : State} {i : Nat} (held : s.notLost i) (p : Nat) (observed : Leg) :
    KeepsClaims s (s.legCheck i p observed) := by
  unfold State.legCheck
  split
  · exact .refl s
  · split
    · exact State.takeRetarget_keeps held ..
    · split
      · exact (s.becomeLost_sheds ..).keeps
      · split
        · exact .refl s
        · exact State.misrouted_keeps held ..

theorem State.reenter_keeps (s : State) (i p : Nat) : KeepsClaims s (s.reenter i p) := by
  unfold State.reenter
  split
  · exact .refl s
  · rename_i x hx
    split
    · exact .refl s
    · rename_i free
      have held : s.notLost i := fun y hy => by
        cases hx.symm.trans hy
        simp at free
        exact free.1
      split
      · exact State.joinClaim_keeps held p _
      · exact (s.becomeLost_sheds ..).keeps

theorem State.roleStep_keeps {s : State} {i : Nat} {lost : Bool} (held : lost = false → s.notLost i) (c : Counter) :
    KeepsClaims s (s.roleStep i lost c) := by
  cases c with
  | lead => exact .refl s
  | clearance t => exact (s.startClearing_sheds i t).keeps
  | guardIn p =>
    cases lost with
    | true => exact .refl s
    | false => exact State.settle_keeps (held rfl) p
  | guardOut p x =>
    cases lost with
    | true => exact .refl s
    | false => exact State.legCheck_keeps (held rfl) p x

/-! ### Crossings (R45 to R50, R80, R81) -/

theorem State.headMoved_same (s : State) (x : Slot) (c : Counter) (t : Clock) :
    (s.headMoved x c t).ordinal = x.ordinal ∧ (s.headMoved x c t).flags.lost = x.flags.lost := by
  simp only [State.headMoved, State.armStall, State.sampled]
  split <;> exact ⟨rfl, rfl⟩

theorem State.stallAtOnce_notLost {s : State} {i : Nat} (held : s.notLost i) : (s.stallAtOnce i).notLost i := by
  unfold State.stallAtOnce
  split
  · unfold State.stallExpired
    split
    · exact held
    · rename_i x hx
      refine State.notLost_of_slots (s := s.setSlot i (some { x with
        stall := { x.stall with running := false }, flags := { x.flags with stalled := true } })) (by simp) (s.setSlot_notLost i ?_)
      exact held x hx
  · exact held

theorem State.headCrossing_keeps {s : State} {i : Nat} {x : Slot} (hx : s.slot i = some x) (c : Counter) (t : Clock) :
    KeepsClaims s (s.headCrossing i x c t) := by
  obtain ⟨ordinal, lost⟩ := s.headMoved_same x c t
  have moved : Sheds s (s.setSlot i (some (s.headMoved x c t))) := .setSlot hx ordinal lost.trans
  refine (moved.trans (State.stallAtOnce_sheds _ i)).keeps.trans (State.roleStep_keeps (fun held => ?_) c)
  exact State.stallAtOnce_notLost (s.setSlot_notLost i (lost.trans held))

theorem State.lateral_keeps (s : State) (i : Nat) (c : Counter) : KeepsClaims s (s.lateral i c) := by
  cases c with
  | lead => exact .refl s
  | guardIn p => exact s.reenter_keeps i p
  | guardOut p x => exact (s.divisionCheck_sheds i p x).keeps
  | clearance t => exact (s.clearedAxle_sheds i t).keeps

theorem State.unanchor_sheds (s : State) (i : Nat) : Sheds s (s.unanchor i) := .updSlot s i _ (fun _ => rfl) fun _ => rfl

theorem State.countDown_sheds (s : State) (i : Nat) : Sheds s (s.countDown i) := .updSlot s i _ (fun _ => rfl) fun _ => rfl

theorem State.upStep_keeps (s : State) (i : Nat) (c : Counter) : KeepsClaims s (s.upStep i c) := by
  cases c with
  | lead => exact (s.rollbackTest_sheds i).keeps
  | guardIn p => exact .refl s
  | guardOut p x => exact s.reenter_keeps i p
  | clearance t => exact .refl s

theorem State.takeCrossing_keeps (s : State) (i : Nat) (c : Counter) (dir : Direction) (t : Clock) (discarded : Bool) :
    KeepsClaims s (s.takeCrossing i c dir t discarded) := by
  unfold State.takeCrossing
  split
  · exact .refl s
  · split
    · exact .refl s
    · rename_i x hx
      have sorted : KeepsClaims s (s.sortCrossing i x c dir t) := by
        unfold State.sortCrossing
        split
        · split
          · exact State.headCrossing_keeps hx c t
          · exact s.lateral_keeps i c
        · exact (s.unanchor_sheds i).keeps.trans (State.upStep_keeps _ i c)
      exact sorted.trans ((State.tailTest_sheds _ i).trans (State.reevaluateAll_sheds _ _)).keeps

theorem State.handOver_keeps (s : State) (owner : Owner) (c : Counter) (dir : Direction) (t : Clock) (discarded : Bool) :
    KeepsClaims s (s.handOver owner c dir t discarded) := by
  cases owner with
  | unknown => exact .refl s
  | slot i => exact s.takeCrossing_keeps i c dir t discarded

theorem State.crossBetween_keeps (s : State) (c : Counter) (u v : SectionId) (dir : Direction) (d : Nat) (t : Clock) :
    KeepsClaims s (s.crossBetween c u v dir d t).1 := by
  cases dir with
  | down => exact ((s.takeAxle_sheds u .head d t).trans (State.enterAxle_sheds _ v ..)).keeps.trans (State.handOver_keeps ..)
  | up => exact ((s.takeAxle_sheds v .tail d t).trans (State.enterAxle_sheds _ u ..)).keeps.trans (State.handOver_keeps ..)

theorem State.crossGuard_keeps (s : State) (p : Nat) (c : Counter) (u v : SectionId) (entry : Bool) (dir : Direction) (d : Nat)
    (t : Clock) : KeepsClaims s (s.crossGuard p c u v entry dir d t) :=
  (s.crossBetween_keeps c u v dir d t).trans (State.guardNotices_sheds ..).keeps

theorem State.crossLeadUp_keeps (s : State) (lead : SectionId) (d : Nat) (t : Clock) : KeepsClaims s (s.crossLeadUp lead d t) := by
  have taken := s.takeAxle_sheds lead .tail d t
  unfold State.crossLeadUp
  simp only
  split
  · exact taken.keeps
  · exact (taken.trans (State.countDown_sheds _ _)).keeps.trans (State.takeCrossing_keeps ..)

theorem State.crossClearUp_keeps (s : State) (k d : Nat) (t : Clock) : KeepsClaims s (s.crossClearUp k d t) := by
  unfold State.crossClearUp
  simp only
  refine KeepsClaims.trans (Sheds.keeps ?_) (State.handOver_keeps ..)
  refine Sheds.trans ?_ (State.enterAxle_sheds ..)
  split
  · exact .refl s
  · exact .updSlot s _ _ (fun _ => rfl) fun _ => rfl

end Sys2Proof.Machine

/-! SUPPORT. Every command binds one cut at most, and keeps the claim lists (R38, R84, R96, R104). -/

namespace Sys2Proof.Machine

/-- From `s` to `t` one cut is bound at most, and the claim lists of `t` are sound and in order as those of `s` were. -/
structure BindsOne (s t : State) : Prop where
  hold : ∀ {k : Prop}, s.ClaimsHold k 32767 → t.ClaimsHold k 32768

theorem KeepsClaims.bindsOne {s t : State} (h : KeepsClaims s t) : BindsOne s t :=
  ⟨fun held => (h.hold (by decide) held).weaken (by decide)⟩

theorem Sheds.bindsOne {s t : State} (h : Sheds s t) : BindsOne s t := h.keeps.bindsOne

theorem KeepsClaims.thenBinds {s t u : State} (h : KeepsClaims s t) (g : BindsOne t u) : BindsOne s u :=
  ⟨fun held => g.hold (h.hold (by decide) held)⟩

theorem BindsOne.thenKeeps {s t u : State} (h : BindsOne s t) (g : KeepsClaims t u) : BindsOne s u :=
  ⟨fun held => g.hold (by decide) (h.hold held)⟩

/-! ### Binding (R32, R33, R38) -/

/-- A FREE slot given a cut takes the next ordinal: it is the youngest, and stands in no claim list yet. -/
theorem State.handed_bindsOne {s : State} {i : Nat} {x : Slot} (inside : 1 ≤ i ∧ i ≤ 16) (free : s.slot i = none)
    (ordinal : x.ordinal = s.binder.nextOrdinal) : BindsOne s (s.handed i x) := by
  have self : (s.handed i x).slot i = some x := by
    rw [State.slot, show (s.handed i x).slots = (s.setSlot i (some x)).slots by simp [State.handed]]
    exact s.slot_setSlot_self i _ inside
  have others {j : Nat} (other : j ≠ i) : (s.handed i x).slot j = s.slot j := by
    rw [State.slot, show (s.handed i x).slots = (s.setSlot i (some x)).slots by simp [State.handed]]
    exact s.slot_setSlot_ne _ other
  have lists (p : Nat) : (s.handed i x).standers p = s.standers p := by simp [State.standers, State.claimList, State.handed]
  have next : (s.handed i x).binder.nextOrdinal = s.binder.nextOrdinal + 1 := rfl
  refine ⟨fun {k} hold => ?_⟩
  have sound := s.claimsSound_iff.mp hold.sound
  have used {j p : Nat} (m : j ∈ s.standers p) : j ≠ i := by
    rintro rfl
    obtain ⟨y, hy, -⟩ := (sound p).2 j m
    cases free.symm.trans hy
  refine ⟨(s.handed i x).claimsSound_iff.mpr fun p => ?_, fun hk => ⟨fun j y hy => ?_, fun j l y z hy hz same => ?_⟩,
    fun hk => (s.handed i x).claimsOrdered_iff.mpr fun p => ?_⟩
  · rw [lists]
    refine ⟨(sound p).1, fun j m => ?_⟩
    rw [State.tracked, others (used m)]
    exact (sound p).2 j m
  · rw [next]
    rcases eq_or_ne j i with rfl | other
    · cases self.symm.trans hy
      rw [ordinal, bindingsSince_self]
      decide
    · have near := (hold.bound hk).1 j y ((others other).symm.trans hy)
      rw [bindingsSince_succ near.2]
      omega
  · have newest {m : Nat} {w : Slot} (hw : s.slot m = some w) : w.ordinal ≠ x.ordinal := by
      have near := (hold.bound hk).1 m w hw
      intro same
      rw [same, ordinal, bindingsSince, BitVec.sub_self] at near
      exact absurd near.1 (by decide)
    rcases eq_or_ne j i with rfl | hj <;> rcases eq_or_ne l j with rfl | hl
    · rfl
    · cases self.symm.trans hy
      exact absurd same.symm (newest ((others hl).symm.trans hz))
    · rfl
    · rcases eq_or_ne l i with rfl | hl
      · cases self.symm.trans hz
        exact absurd same (newest ((others hj).symm.trans hy))
      · exact (hold.bound hk).2 j l y z ((others hj).symm.trans hy) ((others hl).symm.trans hz) same
  · rw [lists]
    refine (s.claimsOrdered_iff.mp (hold.ordered hk) p).imp_of_mem fun {a b} ma mb older => ?_
    rw [State.olderSlot, others (used ma), others (used mb)]
    exact older

theorem State.boundSlot_flags (s : State) (t : Clock) (record : Option CutRecord) (n target : Nat) (mark : Bool) :
    (s.boundSlot t record n target mark).ordinal = s.binder.nextOrdinal
      ∧ (s.boundSlot t record n target mark).flags.lost = false := ⟨rfl, rfl⟩

theorem State.openOn_sheds (s : State) (i : Nat) (t : Clock) : Sheds s (s.openOn i t) := .of_same rfl

theorem State.giveSlot_bindsOne {s : State} {i : Nat} (inside : 1 ≤ i ∧ i ≤ 16) (free : s.slot i = none) (t : Clock)
    (record : Option CutRecord) (n target : Nat) (mark : Bool) : BindsOne s (s.giveSlot t i record n target mark) := by
  obtain ⟨ordinal, held⟩ := s.boundSlot_flags t record n target mark
  have new : (s.handed i (s.boundSlot t record n target mark)).notLost i :=
    State.notLost_of_slots (s := s.setSlot i (some (s.boundSlot t record n target mark))) (by simp [State.handed])
      (s.setSlot_notLost i held)
  rw [State.giveSlot_eq]
  exact (State.handed_bindsOne inside free ordinal).thenKeeps
    ((State.joinPath_keeps new _).trans ((State.offer_sheds _ _).trans (State.openOn_sheds _ i t)).keeps)

theorem State.freeSlot_free {s : State} {i : Nat} (h : s.freeSlot = some i) : s.slot i = none := by
  have := List.find?_some h
  simpa using this

theorem State.bindListed_bindsOne {s : State} {i : Nat} (free : s.freeSlot = some i) (t : Clock) (r : CutRecord)
    (rest : List CutRecord) : BindsOne s (s.bindListed t i r rest) := by
  have taken : Sheds s (({ s with cutList := rest } : State).recompute.candidate r).2 := .of_same (by simp)
  have slots : (({ s with cutList := rest } : State).recompute.candidate r).2.slots = s.slots := by simp
  refine taken.keeps.thenBinds (State.giveSlot_bindsOne (State.freeSlot_inside free) ?_ ..)
  rw [State.slot, slots]
  exact State.freeSlot_free free

theorem State.restartGap_sheds (s : State) (t : Clock) : Sheds s (s.restartGap t) := .of_same rfl

theorem State.startUntracked_sheds (s : State) (t : Clock) : Sheds s (s.startUntracked t) :=
  .of_same (by simp [State.startUntracked, State.restartGap])

theorem State.binderDown_bindsOne (s : State) (t : Clock) : BindsOne s (s.binderDown t).1 := by
  unfold State.binderDown
  split
  · rename_i i _
    have counted : Sheds s (s.updSlot i fun x => { x with counted := min Config.axleCap (x.counted + 1) }) :=
      .updSlot s i _ (fun _ => rfl) fun _ => rfl
    exact (counted.trans (State.restartGap_sheds _ t)).bindsOne
  · exact (s.restartGap_sheds t).bindsOne
  · split
    · exact (s.startUntracked_sheds t).bindsOne
    · exact State.bindListed_bindsOne ‹_› ..
    · exact State.giveSlot_bindsOne (State.freeSlot_inside ‹_›) (State.freeSlot_free ‹_›) ..

/-! ### Telegrams (R43 to R50, R149 to R157) -/

theorem State.crossLeadDown_bindsOne (s : State) (lead : SectionId) (d : Nat) (t : Clock) : BindsOne s (s.crossLeadDown lead d t) := by
  refine (s.binderDown_bindsOne t).thenKeeps ?_
  refine KeepsClaims.trans (Sheds.keeps ?_) ((State.handOver_keeps ..).trans (State.gapAtOnce_sheds _).keeps)
  exact (State.enterAxle_sheds ..).trans (State.capClosure_sheds _)

theorem State.cross_bindsOne (s : State) (j : Joint) (dir : Direction) (d : Nat) (t : Clock) : BindsOne s (s.cross j dir d t) := by
  unfold State.cross
  split
  · exact s.crossLeadDown_bindsOne ..
  · exact (s.crossLeadUp_keeps ..).bindsOne
  · exact (s.crossGuard_keeps ..).bindsOne
  · exact (s.crossGuard_keeps ..).bindsOne
  · exact ((s.takeAxle_sheds ..).keeps.trans (State.handOver_keeps ..)).bindsOne
  · exact (s.crossClearUp_keeps ..).bindsOne
  · exact (KeepsClaims.refl s).bindsOne

theorem State.axle_bindsOne (s : State) (d : Nat) (dir : Direction) (age : Nat) : BindsOne s (s.axle d dir age) := by
  unfold State.axle
  split
  case h_1 => exact (KeepsClaims.refl s).bindsOne
  all_goals
    split
    · exact s.cross_bindsOne ..
    · exact Sheds.bindsOne (.of_same rfl)

theorem State.consume_bindsOne (s : State) (m : Telegram) : BindsOne s (s.consume m) := by
  unfold State.consume
  split
  · split
    · exact s.axle_bindsOne ..
    · exact (KeepsClaims.refl s).bindsOne
  · split
    · exact (s.pointStatus_sheds ..).bindsOne
    · exact (KeepsClaims.refl s).bindsOne

theorem State.takeCredits_sheds (s : State) (p : Port) (n : Nat) : Sheds s (s.takeCredits p n) := by
  have credited : Sheds s (s.addCredits p n) := .of_same (by simp)
  unfold State.takeCredits
  simp only
  split
  · exact credited.trans (State.selectWaiting_sheds _ p)
  · exact credited

theorem State.classify_bindsOne (s : State) (p : Port) (m : Telegram) : BindsOne s (s.classify p m) := by
  unfold State.classify
  split
  · exact Sheds.bindsOne (.of_same (by simp))
  · split
    · exact (s.consume_bindsOne m).thenKeeps (Sheds.of_same (by simp)).keeps
    · split
      all_goals exact Sheds.bindsOne (.of_same (by simp))

theorem State.receive_bindsOne (s : State) (p : Port) (beganFull : Bool) (frame : List Byte) :
    BindsOne s (s.receive p beganFull frame) := by
  have earlier : Sheds s (s.handleEarlier p) := .of_same (by simp)
  refine earlier.keeps.thenBinds ?_
  unfold State.receive State.receiveFrame
  split
  · exact Sheds.bindsOne (.of_same (by simp))
  · split
    · exact Sheds.bindsOne (.of_same (by simp))
    · exact (State.takeCredits_sheds ..).keeps.thenBinds (State.classify_bindsOne ..)

theorem State.endSending_sheds (s : State) (p : Port) : Sheds s (s.endSending p) := by
  unfold State.endSending
  split
  · exact .refl s
  · exact Sheds.trans (.of_same (by simp)) (State.selectWaiting_sheds _ p)

/-! ### Requests (R162 to R173) -/

/-- Every slot is FREE and every claim list is empty. -/
theorem State.claimsHold_of_empty {s : State} (slots : ∀ i, s.slot i = none) (claims : ∀ p, s.claimList p = []) (k : Prop) (n : Nat) :
    s.ClaimsHold k n := by
  refine ⟨fun p => by simp [claims], fun _ => ⟨fun i x hx => ?_, fun i _ x _ hx => ?_⟩, fun _ p => by simp [claims]⟩ <;>
    cases (slots i).symm.trans hx

theorem State.warmReset_keeps (s : State) : KeepsClaims s s.warmReset := by
  refine ⟨fun _ _ => State.claimsHold_of_empty (fun i => ?_) (fun p => ?_) ..⟩
  · simp [State.slot, State.warmReset, State.warmState, readAt]
  · simp [State.claimList, State.warmReset, State.warmState, readAt]

theorem State.deviceReset_keeps (s : State) (straps : Byte) : KeepsClaims s (s.deviceReset straps) := by
  refine ⟨fun _ _ => State.claimsHold_of_empty (fun i => ?_) (fun p => ?_) ..⟩
  · simp [State.slot, State.deviceReset, State.atDeviceReset, readAt]
  · simp [State.claimList, State.deviceReset, State.atDeviceReset, readAt]

/-- A request that only takes slots out of the claim lists, or resets. -/
def Effect.KeepsClaims (f : Effect) : Prop := ∀ src s, Machine.KeepsClaims s (f src s).1

theorem Effect.KeepsClaims.of_sheds {f : State → State × Answer} (h : ∀ s, Sheds s (f s).1) : (controlled f).KeepsClaims := by
  intro src s
  unfold controlled
  split
  · exact (h s).keeps
  · exact .refl s

theorem Effect.KeepsClaims.of_unchanged {f : Effect} (h : ∀ src s, (f src s).1 = s) : f.KeepsClaims := fun src s => by
  rw [h src s]
  exact .refl s

theorem OnlySends.sheds {s t : State} (h : OnlySends s t) : Sheds s t := .of_same (by rw [h.binder, h.slots, h.claims])

theorem Effect.KeepsClaims.handle {f : Effect} (h : f.KeepsClaims) (s : State) (q : Req) (code : RequestCode) :
    Machine.KeepsClaims s (s.handle q code f) := by
  by_cases carried : ∃ m, s.mayAnswer q m
  · obtain ⟨m, answers⟩ := carried
    exact (h m.src.toNat s).trans (State.handle_onlySends code f answers).sheds.keeps
  · rw [State.handle_idle code f fun m answers => carried ⟨m, answers⟩]
    exact .refl s

/-! ### The table writes and the cut list -/

section
variable (s : State)

theorem tableWritePoint_sheds (p x) : Sheds s (tableWritePoint p x s).1 := by
  unfold tableWritePoint
  repeat' split
  all_goals exact .of_same (by simp [refuse, done])

theorem tableWritePointRemove_sheds (p) : Sheds s (tableWritePointRemove p s).1 := by
  unfold tableWritePointRemove
  repeat' split
  all_goals exact .of_same (by simp [refuse, done])

theorem tableWriteTrack_sheds (t x) : Sheds s (tableWriteTrack t x s).1 := by
  unfold tableWriteTrack
  repeat' split
  all_goals exact .of_same (by simp [refuse, done])

theorem tableWriteTrackRegister_sheds (t x) : Sheds s (tableWriteTrackRegister t x s).1 := by
  unfold tableWriteTrackRegister
  repeat' split
  all_goals exact .of_same (by simp [refuse, done])

theorem tableWriteTrackRemove_sheds (t) : Sheds s (tableWriteTrackRemove t s).1 := by
  unfold tableWriteTrackRemove
  repeat' split
  all_goals exact .of_same (by simp [refuse, done])

theorem tableWriteParameter_sheds (item v) : Sheds s (tableWriteParameter item v s).1 := by
  unfold tableWriteParameter
  repeat' split
  all_goals exact .of_same (by simp [refuse, done])

theorem tableWriteRoute_sheds (code value) : Sheds s (tableWriteRoute code value s).1 := by
  unfold tableWriteRoute
  repeat' split
  all_goals exact .of_same rfl

theorem tableWritePatch_sheds (k x) : Sheds s (tableWritePatch k x s).1 := by
  unfold tableWritePatch
  repeat' split
  all_goals exact .of_same rfl

theorem setCutList_sheds (l : List CutRecord) : Sheds s (s.setCutList l) := .of_same (by simp)

theorem withNewCut_sheds (n x) {next : CutRecord → State × Answer} (h : ∀ r, Sheds s (next r).1) : Sheds s (s.withNewCut n x next).1 := by
  unfold State.withNewCut
  repeat' split
  · exact .refl s
  · exact .refl s
  · exact .refl s
  · exact h _

theorem cutAppend_sheds (n x) : Sheds s (cutAppend n x s).1 := withNewCut_sheds s n x fun _ => setCutList_sheds s _

theorem cutInsertBefore_sheds (reference n x) : Sheds s (cutInsertBefore reference n x s).1 := by
  refine withNewCut_sheds s n x fun r => ?_
  split
  · exact setCutList_sheds s _
  · exact .refl s

theorem cutWithdraw_sheds (n) : Sheds s (cutWithdraw n s).1 := by
  unfold cutWithdraw
  split
  · exact setCutList_sheds s _
  · exact .refl s

theorem cutAmend_sheds (n x) : Sheds s (cutAmend n x s).1 := by
  unfold cutAmend
  repeat' split
  · exact .refl s
  · exact .refl s
  · exact setCutList_sheds s _
  · exact .refl s

/-! ### The yard's requests and engine control -/

theorem slotDrop_sheds (i) : Sheds s (slotDrop i s).1 := by
  unfold slotDrop
  repeat' split
  · exact .refl s
  · exact .refl s
  · exact s.dropSlot_sheds ..
  · exact .refl s

theorem sectionRestore_sheds (id) : Sheds s (sectionRestore id s).1 := by
  unfold sectionRestore
  repeat' split
  · exact .refl s
  · exact .refl s
  · exact .refl s
  · exact s.restore_sheds ..

theorem restoreAll_sheds : Sheds s (restoreAll s).1 := .foldl (fun a id => a.restore_sheds id) _ s

theorem withPoint_sheds (p) {f : State → State × Answer} (h : Sheds s (f s).1) : Sheds s (withPoint p f s).1 := by
  unfold withPoint
  repeat' split
  · exact .refl s
  · exact .refl s
  · exact h

theorem pointHold_sheds (p) : Sheds s (pointHold p s).1 := by
  refine withPoint_sheds s p ?_
  repeat' split
  all_goals exact .of_same (by simp [done])

theorem pointRelease_sheds (p) : Sheds s (pointRelease p s).1 := by
  refine withPoint_sheds s p ?_
  split
  all_goals exact .of_same (by simp [done])

theorem pointSet_sheds (p leg) : Sheds s (pointSet p leg s).1 := by
  unfold pointSet
  split
  · exact .refl s
  · refine withPoint_sheds s p ?_
    repeat' split
    all_goals exact .of_same (by simp [done, refuse])

theorem pointClearFault_sheds (p) : Sheds s (pointClearFault p s).1 := by
  refine withPoint_sheds s p ?_
  split
  all_goals exact .of_same (by simp [done, refuse])

theorem pointClearRetries_sheds (p) : Sheds s (pointClearRetries p s).1 := withPoint_sheds s p (.of_same (by simp [done]))

theorem start_sheds : Sheds s (start s).1 := by
  unfold start
  repeat' split
  all_goals exact .of_same (by simp [done, refuse])

theorem enterEngine_sheds (ev : EngineEvent) : Sheds s (s.enterEngine ev) := .of_same (by simp)

theorem haltEngine_sheds : Sheds s s.haltEngine := by
  have halted : Sheds s s.halting := .of_same rfl
  have told := halted.trans (Sheds.foldl (f := fun a p => a.guardOccupied p true) (fun a p => a.guardOccupied_sheds p true)
    ((ids 63).filter s.guardClear) _)
  exact told.trans (enterEngine_sheds _ .stopEngine)

theorem stopEngine_sheds : Sheds s (stopEngine s).1 := by
  unfold stopEngine
  repeat' split
  · exact .refl s
  · exact .refl s
  · exact haltEngine_sheds s

theorem halt_sheds : Sheds s (halt s).1 := by
  unfold halt
  split
  all_goals exact .of_same (by simp [done, refuse])

theorem resume_sheds : Sheds s (resume s).1 := by
  unfold resume
  split
  all_goals exact .of_same (by simp [done, refuse])

theorem service_sheds (phase) : Sheds s (service phase s).1 := by
  unfold service
  split
  · exact .refl s
  · split
    · exact .refl s
    · simp only [done]
      split
      all_goals exact .of_same (by simp)

theorem fenceWrite_sheds (fence) : Sheds s (fenceWrite fence s).1 := by
  unfold fenceWrite
  repeat' split
  all_goals exact .of_same rfl

/-! ### The timers (R35, R83, R112 to R118, R141, R146) -/

theorem State.supervisionExpiry_sheds (p : Nat) : Sheds s (s.supervisionExpiry p) := by
  unfold State.supervisionExpiry State.supervisionFault
  repeat' split
  all_goals exact .of_same (by simp)

theorem State.retryExpiry_sheds (p : Nat) : Sheds s (s.retryExpiry p) := by
  unfold State.retryExpiry State.retryOver
  repeat' split
  all_goals exact .of_same (by simp)

theorem State.deglitchExpiry_sheds (p : Nat) : Sheds s (s.deglitchExpiry p) := by
  unfold State.deglitchExpiry
  split
  · exact s.deglitchExpired_sheds p
  · exact .refl s

theorem State.controllerExpiry_sheds : Sheds s s.controllerExpiry := by
  unfold State.controllerExpiry
  split
  · exact .refl s
  · split
    · exact .of_same (by simp [State.lapse])
    · exact .refl s

end

theorem claimControl_keeps : Effect.KeepsClaims claimControl := by
  intro src s
  unfold claimControl
  repeat' split
  all_goals exact Sheds.keeps (.of_same rfl)

theorem linkRead_keeps (part first : Nat) : Effect.KeepsClaims fun _ => linkRead part first := by
  intro src s
  simp only
  unfold linkRead
  split
  all_goals exact Sheds.keeps (.of_same (by simp [State.emptyErrors, answerPart, refuse]))

theorem warmReset_keeps : Effect.KeepsClaims warmReset := by
  intro src s
  unfold warmReset
  split
  · exact s.warmReset_keeps
  · exact .refl s

end Sys2Proof.Machine

/-! PROOF. No claim list comes to hold a slot twice, nor a slot that is FREE or LOST, and each stays in the order of R38 (R84, R96, R104). -/

namespace Sys2Proof.Machine

/-- Every command binds one cut at most, and keeps the claim lists. -/
theorem exec_bindsOne {c : Instr} {s t : State} (e : exec c s = .next t) : BindsOne s t := by
  have request {f : Effect} (h : f.KeepsClaims) (q code) : BindsOne s (s.handle q code f) := (h.handle s q code).bindsOne
  have held {f : State → State × Answer} (h : ∀ s, Sheds s (f s).1) (q code) : BindsOne s (s.handle q code (controlled f)) :=
    request (.of_sheds h) q code
  have read {f : State → State × Answer} (h : ∀ s, (f s).1 = s) (q code) : BindsOne s (s.handle q code fun _ => f) :=
    request (.of_unchanged fun _ => h) q code
  cases c <;> cases e
  case deviceReset straps => exact (s.deviceReset_keeps straps).bindsOne
  case telegramReceived => exact s.receive_bindsOne ..
  case passTelegramMove p => exact Sheds.bindsOne (.of_same (by simp))
  case unknownRequest q code => exact request (.of_unchanged (unknownRequest_unchanged code)) ..
  case statusRead => exact read (fun s => (reads_unchanged s).1 _) ..
  case tableRead => exact read (fun s => tableRead_unchanged _ _ s) ..
  case cutListRead => exact read (fun s => (reads_unchanged s).2.1 _) ..
  case slotRead => exact read (fun s => (reads_unchanged s).2.2.1 _ _ _) ..
  case sectionRead => exact read (fun s => (reads_unchanged s).2.2.2.1 _ _) ..
  case pointRead => exact read (fun s => (reads_unchanged s).2.2.2.2 _ _ _) ..
  case linkRead => exact request (linkRead_keeps _ _) ..
  case claimControl => exact request claimControl_keeps ..
  case releaseControl => exact held (fun s => .of_same rfl) ..
  case tableWritePoint => exact held (fun s => tableWritePoint_sheds s _ _) ..
  case tableWritePointRemove => exact held (fun s => tableWritePointRemove_sheds s _) ..
  case tableWriteTrack => exact held (fun s => tableWriteTrack_sheds s _ _) ..
  case tableWriteTrackRegister => exact held (fun s => tableWriteTrackRegister_sheds s _ _) ..
  case tableWriteTrackRemove => exact held (fun s => tableWriteTrackRemove_sheds s _) ..
  case tableWriteParameter => exact held (fun s => tableWriteParameter_sheds s _ _) ..
  case tableWriteRoute => exact held (fun s => tableWriteRoute_sheds s _ _) ..
  case tableWritePatch => exact held (fun s => tableWritePatch_sheds s _ _) ..
  case cutAppend => exact held (fun s => cutAppend_sheds s _ _) ..
  case cutInsertBefore => exact held (fun s => cutInsertBefore_sheds s _ _ _) ..
  case cutWithdraw => exact held (fun s => cutWithdraw_sheds s _) ..
  case cutAmend => exact held (fun s => cutAmend_sheds s _ _) ..
  case cutListClear => exact held (fun s => setCutList_sheds s _) ..
  case slotDrop => exact held (fun s => slotDrop_sheds s _) ..
  case sectionRestore => exact held (fun s => sectionRestore_sheds s _) ..
  case restoreAll => exact held restoreAll_sheds ..
  case pointHold => exact held (fun s => pointHold_sheds s _) ..
  case pointRelease => exact held (fun s => pointRelease_sheds s _) ..
  case pointSet => exact held (fun s => pointSet_sheds s _ _) ..
  case pointClearFault => exact held (fun s => pointClearFault_sheds s _) ..
  case pointClearRetries => exact held (fun s => pointClearRetries_sheds s _) ..
  case start => exact held start_sheds ..
  case stopEngine => exact held stopEngine_sheds ..
  case halt => exact held halt_sheds ..
  case resume => exact held resume_sheds ..
  case service => exact held (fun s => service_sheds s _) ..
  case fenceWrite => exact held (fun s => fenceWrite_sheds s _) ..
  case warmReset => exact request warmReset_keeps ..
  case endOfTransmission p => exact (s.endSending_sheds p).bindsOne
  case gapTimerExpiry => exact s.gapAtOnce_sheds.bindsOne
  case stallDeadlineExpiry i => exact (s.stallAtOnce_sheds i).bindsOne
  case supervisionTimerExpiry p => exact (s.supervisionExpiry_sheds p).bindsOne
  case retryTimerExpiry p => exact (s.retryExpiry_sheds p).bindsOne
  case deglitchTimerExpiry p => exact (s.deglitchExpiry_sheds p).bindsOne
  case refreshTimerExpiry =>
    refine Sheds.bindsOne (.of_same ?_)
    simp only [State.refreshExpiry]
    split <;> simp
  case controllerSupervisionExpiry => exact s.controllerExpiry_sheds.bindsOne

theorem step_bindsOne {s t : State} (e : step s = .next t) : BindsOne s t := by
  unfold step at e
  split at e
  · cases e
    have ticked : Sheds s s.tick := .of_same rfl
    have selected (u : State) : Sheds u ((u.select .y).select .t) := .of_same (by simp)
    exact (ticked.trans (selected s.tick)).bindsOne
  · rename_i rest _
    exact (Sheds.of_same (s := s) (t := { s with pending := rest }) rfl).keeps.thenBinds (exec_bindsOne e)

/-- Settles O46: every command binds one cut at most, and the invariant of the claim lists is kept by every operation. -/
theorem claimListsStaySound : Obligations.ClaimListsStaySound := by
  unfold Obligations.ClaimListsStaySound
  intro s t sound e
  have hold : s.ClaimsHold (s.recent ∧ s.claimsOrdered) 32767 := ⟨sound, And.left, And.right⟩
  obtain ⟨sound', -, ordered'⟩ := (step_bindsOne e).hold hold
  exact ⟨sound', fun recent ordered => ordered' ⟨recent, ordered⟩⟩

end Sys2Proof.Machine

/-! PROOF. Samples, estimates, learned times, intervals, the age order and event times (R38, R43, R63, R64, R70, R73, R76). -/

namespace Sys2Proof.Machine

/-! ### Samples and estimates (R63, R64) -/

theorem clampSpeed_eq (v : Nat) : clampSpeed v = max 20 (min 1200 v) := by
  unfold clampSpeed clamp
  split
  · omega
  · split <;> omega

theorem sampleOf_eq {d v : Nat} {entered left : Clock} (later : 1 ≤ elapsed entered left)
    (low : v * (elapsed entered left).toNat ≤ d * 1000) (high : d * 1000 < (v + 1) * (elapsed entered left).toNat) :
    sampleOf d entered left = max 20 (min 1200 v) := by
  have quotient : d * 1000 / (elapsed entered left).toNat = v := Nat.div_eq_of_lt_le low high
  simp only [sampleOf, later, if_true, quotient, clampSpeed_eq]

/-- The weighted sum and the sum of the weights used are those of the lists (R64). -/
theorem weighted_eq (ws vs : List Nat) : weighted ws vs = ((List.zipWith (· * ·) ws vs).sum, (ws.take vs.length).sum) := by
  induction ws generalizing vs with
  | nil => cases vs <;> rfl
  | cons w ws ih =>
    cases vs with
    | nil => rfl
    | cons v vs => simp [weighted, ih]

/-- The weighted sum of samples within bounds lies within the bounds times the sum of the weights. -/
theorem zipWith_sum_bounds (ws vs : List Nat) (h : ∀ v ∈ vs, 20 ≤ v ∧ v ≤ 1200) :
    20 * (ws.take vs.length).sum ≤ (List.zipWith (· * ·) ws vs).sum
      ∧ (List.zipWith (· * ·) ws vs).sum ≤ 1200 * (ws.take vs.length).sum := by
  induction ws generalizing vs with
  | nil => cases vs <;> simp
  | cons w ws ih =>
    cases vs with
    | nil => simp
    | cons v vs =>
      obtain ⟨low, high⟩ := h v List.mem_cons_self
      obtain ⟨least, most⟩ := ih vs fun x m => h x (.tail _ m)
      have least_term := Nat.mul_le_mul_left w low
      have most_term := Nat.mul_le_mul_left w high
      simp only [List.zipWith_cons_cons, List.length_cons, List.take_succ_cons, List.sum_cons]
      omega

/-- A mean rounded half up of values within 20..1,200 lies there. -/
theorem roundedMean {N W est : Nat} (pos : 0 < W) (low : 20 * W ≤ N) (high : N ≤ 1200 * W) (h : est = clampSpeed ((2 * N + W) / (2 * W))) :
    2 * W * est ≤ 2 * N + W ∧ 2 * N + W < 2 * W * (est + 1) ∧ 20 ≤ est ∧ est ≤ 1200 := by
  have floor : 20 ≤ (2 * N + W) / (2 * W) := (Nat.le_div_iff_mul_le (by omega)).mpr (by omega)
  have ceiling : (2 * N + W) / (2 * W) < 1201 := (Nat.div_lt_iff_lt_mul (by omega)).mpr (by omega)
  obtain rfl : est = (2 * N + W) / (2 * W) := by rw [h, clampSpeed_eq]; omega
  exact ⟨Nat.mul_div_le .., Nat.lt_mul_div_succ _ (by omega), floor, by omega⟩

/-! ### Learned times and intervals (R70, R73, R76) -/

theorem learn_eq {T tMin tMax : Nat} {m change : Int} (order : tMin ≤ tMax)
    (nearest : 2 * (8 * change - (m - T)).natAbs < 8 ∨ (2 * (8 * change - (m - T)).natAbs = 8 ∧ (m - T).natAbs < (8 * change).natAbs)) :
    ((learn T m tMin tMax : Nat) : Int) = max (tMin : Int) (min (tMax : Int) ((T : Int) + change)) := by
  have rounded : change = if 0 ≤ m - T then (m - T + 4) / 8 else -((-(m - T) + 4) / 8) := by
    split <;> omega
  simp only [learn, ← rounded, clamp]
  split
  · omega
  · split <;> omega

theorem stallInterval_eq {l v allowance c : Nat} (low : l * 1000 ≤ c * v) (high : c * v < l * 1000 + v) :
    stallInterval l v allowance = min 65535 (c + allowance) := by
  have quotient : divUp (l * 1000) v = c := Nat.div_eq_of_lt_le (by omega) (by rw [Nat.add_mul]; omega)
  rw [stallInterval, quotient]
  rfl

/-! ### The age order (R38) -/

theorem older_iff (a b : Ordinal) : older a b = true ↔
    (1 ≤ (b.toNat + 65536 - a.toNat) % 65536 ∧ (b.toNat + 65536 - a.toNat) % 65536 ≤ 32767)
      ∨ ((b.toNat + 65536 - a.toNat) % 65536 = 32768 ∧ a.toNat < b.toNat) := by
  have distance : (b - a).toNat = (b.toNat + 65536 - a.toNat) % 65536 := by bv_omega
  simp only [older, distance, Bool.or_eq_true, Bool.and_eq_true, decide_eq_true_eq]

theorem older_antisymm {a b : Ordinal} (distinct : a ≠ b) : older a b = !older b a := by
  rw [Bool.eq_iff_iff, Bool.not_eq_true', ← Bool.not_eq_true, older_iff, older_iff]
  have := a.isLt
  have := b.isLt
  have : a.toNat ≠ b.toNat := fun same => distinct (BitVec.eq_of_toNat_eq same)
  omega

theorem older_irrefl (a : Ordinal) : older a a = false := by simp [older]

/-! ### Event times (R43) -/

theorem eventTime_toNat {wrapped : Bool} {arrival : Clock} {age : Nat} (small : age ≤ 255) (h : wrapped = true ∨ age ≤ arrival.toNat) :
    (eventTime wrapped arrival age).toNat = (arrival.toNat + 4294967296 - age) % 4294967296 := by
  have recent : (!wrapped && decide (arrival.toNat < age)) = false := by
    rcases h with rfl | h
    · rfl
    · simp [Nat.not_lt.mpr h]
  simp only [eventTime, recent, Bool.false_eq_true, if_false]
  bv_omega

/-- Settles O51, rule by rule. -/
theorem arithmeticFollowsTheRules : Obligations.ArithmeticFollowsTheRules := by
  unfold Obligations.ArithmeticFollowsTheRules
  refine ⟨⟨fun d entered left => ⟨fun early => ?_, fun later v low high => sampleOf_eq later low high⟩,
    fun w1 w2 w3 w4 samples first some_ _ bounds => ?_⟩, fun T tMin tMax m change order nearest => learn_eq order nearest,
    ⟨fun l v allowance c _ low high => stallInterval_eq low high, fun now a => ?_⟩,
    fun a b => ⟨older_iff a b, older_antisymm, older_irrefl a⟩,
    fun wrapped arrival age small => ⟨fun fresh early => ?_, eventTime_toNat small⟩⟩
  · simp only [sampleOf, show ¬1 ≤ elapsed entered left by omega, if_false]
  · obtain ⟨low, high⟩ := zipWith_sum_bounds [w1, w2, w3, w4] samples bounds
    refine roundedMean ?_ low high (by rw [estimateOf, weighted_eq])
    cases samples with
    | nil => exact absurd rfl some_
    | cons v vs =>
      simp only [List.length_cons, List.take_succ_cons, List.sum_cons]
      omega
  · simp only [relative, Config.horizon]
    omega
  · simp [eventTime, fresh, early]

end Sys2Proof.Machine

/-! PROOF. The editing requests of the cut list: CUT_APPEND, CUT_INSERT_BEFORE, CUT_WITHDRAW, CUT_AMEND and CUT_LIST_CLEAR (R23 to R29). -/

namespace Sys2Proof.Machine

/-! ### What the editing of the list does -/

/-- A record passes the checks of R23 when its number and axle count are in range and it names one destination or one track. -/
theorem cutRecordOf_iff (n : Nat) (x : CutFields) (r : CutRecord) : cutRecordOf n x = some r ↔
    n ≤ 65535 ∧ 1 ≤ x.expected ∧ x.expected ≤ 96 ∧ r = ⟨n, r.route, x.expected, x.noAlternate⟩
      ∧ ((∃ code, x.destination = some code ∧ x.track = none ∧ code ≤ 1023 ∧ r.route = .destination code)
        ∨ ∃ k, x.destination = none ∧ x.track = some k ∧ 1 ≤ k ∧ k ≤ 64 ∧ r.route = .track k) := by
  obtain ⟨number, route, expected, noAlternate⟩ := r
  obtain ⟨destination, track, expected', noAlternate'⟩ := x
  unfold cutRecordOf
  cases destination with
  | none =>
    cases track with
    | none => simp
    | some k =>
      simp only [inRange, Nat.zero_le, true_and, Bool.and_eq_true, decide_eq_true_eq]
      grind
  | some code =>
    cases track with
    | none =>
      simp only [inRange, Nat.zero_le, true_and, Bool.and_eq_true, decide_eq_true_eq]
      grind
    | some k => simp

theorem State.listed_iff {s : State} {n : Nat} : s.listed n = true ↔ ∃ y ∈ s.cutList, y.number = n := by
  simp [State.listed]

/-- A record goes directly before the first one with the number named. -/
theorem insertBefore_split {reference : Nat} {r y : CutRecord} {a b : List CutRecord} (here : y.number = reference)
    (before : ∀ z ∈ a, z.number ≠ reference) : insertBefore reference r (a ++ y :: b) = a ++ r :: y :: b := by
  have passed : ∀ z ∈ a, decide (z.number ≠ reference) = true := fun z m => decide_eq_true (before z m)
  rw [insertBefore, List.takeWhile_append_of_pos passed, List.dropWhile_append_of_pos passed]
  simp [here]

section
variable {s : State} {n : Nat} {x : CutFields} {r : CutRecord} {next : CutRecord → State × Answer}

/-- A record that passes the checks, with a number not held, goes on where the list has room. -/
theorem State.withNewCut_taken (valid : cutRecordOf n x = some r) (fresh : s.numberHeld n = false) (room : s.cutList.length < 32) :
    s.withNewCut n x next = next r := by
  simp only [State.withNewCut, valid, fresh, Bool.false_eq_true, if_false, show ¬Config.cutListRoom ≤ s.cutList.length from Nat.not_le.mpr room]

/-- The refusals of a new record, in the order of the checks. -/
theorem State.withNewCut_refused {a : Answer} (h : (cutRecordOf n x = none ∧ a = .badArgument)
      ∨ (cutRecordOf n x ≠ none ∧ s.numberHeld n = true ∧ a = .duplicate)
      ∨ (cutRecordOf n x ≠ none ∧ s.numberHeld n = false ∧ 32 ≤ s.cutList.length ∧ a = .full)) : s.withNewCut n x next = (s, a) := by
  unfold State.withNewCut
  rcases h with ⟨invalid, rfl⟩ | ⟨valid, held, rfl⟩ | ⟨valid, fresh, full, rfl⟩
  · simp only [invalid, refuse]
  · obtain ⟨r, hr⟩ := Option.ne_none_iff_exists'.mp valid
    simp only [hr, held, if_true, refuse]
  · obtain ⟨r, hr⟩ := Option.ne_none_iff_exists'.mp valid
    simp only [hr, fresh, Bool.false_eq_true, if_false, show Config.cutListRoom ≤ s.cutList.length from full, if_true, refuse]

end

/-- A request of the holder's that edits the cut list is answered; the demand follows the list, and the ports send. -/
theorem State.cutList_edited {s : State} {q : Req} {m : Telegram} {f : State → State × Answer} {l : List CutRecord}
    (code : RequestCode) (holder : s.fromHolder q m) (effect : f s = done (s.setCutList l)) :
    Answered s (s.handle q code (controlled f)) q m code (.done .plain)
      ∧ (s.handle q code (controlled f)).cutList = l ∧ ListChanged s (s.handle q code (controlled f)) := by
  have edited : Queues s { s with cutList := l } [] := .of_same rfl rfl rfl rfl rfl rfl rfl
  obtain ⟨answered, sends, -⟩ := State.controlled_done (code := code) holder effect
    (edited.after (State.recompute_queues { s with cutList := l }))
  have computed := State.recompute_onlySends { s with cutList := l }
  have list : (s.handle q code (controlled f)).cutList = l := sends.cutList.trans computed.cutList
  refine ⟨answered, list, ?_, ?_⟩
  · rw [sends.signal, sends.demandNow]
    exact (State.recompute_demand _).trans computed.demandNow.symm
  · rw [list, sends.signal]
    exact computed.trans sends

/-! ### CUT_APPEND and CUT_INSERT_BEFORE (R25, R26) -/

section
variable {s : State} {n reference : Nat} {x : CutFields} {r : CutRecord}

theorem cutInsertBefore_absent (valid : cutRecordOf n x = some r) (fresh : s.numberHeld n = false) (room : s.cutList.length < 32)
    (absent : ∀ z ∈ s.cutList, z.number ≠ reference) : cutInsertBefore reference n x s = (s, s.notListed reference) := by
  have unlisted : s.listed reference = false := Bool.eq_false_iff.mpr fun listed => by
    obtain ⟨z, m, named⟩ := State.listed_iff.mp listed
    exact absent z m named
  rw [cutInsertBefore, State.withNewCut_taken valid fresh room]
  simp only [unlisted, Bool.false_eq_true, if_false, refuse]

theorem cutInsertBefore_listed {y : CutRecord} {a b : List CutRecord} (valid : cutRecordOf n x = some r) (fresh : s.numberHeld n = false)
    (room : s.cutList.length < 32) (split : s.cutList = a ++ y :: b) (here : y.number = reference)
    (before : ∀ z ∈ a, z.number ≠ reference) : cutInsertBefore reference n x s = done (s.setCutList (a ++ r :: y :: b)) := by
  have listed : s.listed reference = true := State.listed_iff.mpr ⟨y, by simp [split], here⟩
  rw [cutInsertBefore, State.withNewCut_taken valid fresh room]
  simp only [listed, if_true]
  rw [split, insertBefore_split here before]

end

/-- Settles O17: a record that passes the checks is appended or inserted, and the refusals come in the order of the checks. -/
theorem cutAppendAndInsert : Obligations.CutAppendAndInsert := by
  unfold Obligations.CutAppendAndInsert
  refine ⟨cutRecordOf_iff, fun q m s n x holder => ⟨fun r valid fresh room => ⟨?_, ?_, ?_⟩, fun reference a refused => ⟨?_, ?_⟩⟩⟩
  · exact ⟨_, rfl, State.cutList_edited .cutAppend holder (State.withNewCut_taken valid fresh room)⟩
  · intro reference a b y split here before
    exact ⟨_, rfl, State.cutList_edited .cutInsertBefore holder (cutInsertBefore_listed valid fresh room split here before)⟩
  · intro reference absent
    exact ⟨_, rfl, State.controlled_unchanged holder (cutInsertBefore_absent valid fresh room absent)⟩
  · exact ⟨_, rfl, State.controlled_unchanged holder (State.withNewCut_refused refused)⟩
  · exact ⟨_, rfl, State.controlled_unchanged holder (State.withNewCut_refused refused)⟩

/-! ### CUT_WITHDRAW, CUT_AMEND and CUT_LIST_CLEAR (R27 to R29) -/

section
variable {s : State} {n : Nat} {x : CutFields}

theorem cutWithdraw_listed (listed : s.listed n = true) :
    cutWithdraw n s = done (s.setCutList (s.cutList.filter fun r => decide (r.number ≠ n))) := if_pos listed

theorem cutWithdraw_unlisted (unlisted : s.listed n = false) : cutWithdraw n s = (s, s.notListed n) :=
  if_neg (Bool.eq_false_iff.mp unlisted)

theorem cutAmend_listed {r : CutRecord} (valid : cutRecordOf n x = some r) (unbound : s.slotWithNumber n = false)
    (listed : s.listed n = true) : cutAmend n x s = done (s.setCutList (s.cutList.map fun y => if y.number = n then r else y)) := by
  simp only [cutAmend, valid, unbound, listed, Bool.false_eq_true, if_false, if_true]

/-- The refusals of CUT_AMEND, in the order of its checks. -/
theorem cutAmend_refused {a : Answer} (h : (cutRecordOf n x = none ∧ a = .badArgument)
      ∨ (cutRecordOf n x ≠ none ∧ s.slotWithNumber n = true ∧ a = .wrongState none)
      ∨ (cutRecordOf n x ≠ none ∧ s.slotWithNumber n = false ∧ s.listed n = false ∧ a = .notFound)) : cutAmend n x s = (s, a) := by
  unfold cutAmend
  rcases h with ⟨invalid, rfl⟩ | ⟨valid, bound, rfl⟩ | ⟨valid, unbound, unlisted, rfl⟩
  · simp only [invalid, refuse]
  · obtain ⟨r, hr⟩ := Option.ne_none_iff_exists'.mp valid
    simp only [hr, bound, if_true, refuse]
  · obtain ⟨r, hr⟩ := Option.ne_none_iff_exists'.mp valid
    simp only [hr, unbound, unlisted, Bool.false_eq_true, if_false, refuse]

end

/-- Settles O18: the record named is removed or replaced, the list emptied, and the refusals come in the order of the checks. -/
theorem cutWithdrawAmendAndClear : Obligations.CutWithdrawAmendAndClear := by
  unfold Obligations.CutWithdrawAmendAndClear
  refine ⟨fun q m s n holder => ⟨fun listed => ?_, fun unlisted => ?_⟩,
    fun q m s holder => ⟨fun n x r valid unbound listed => ?_, fun n x a refused => ?_, ?_⟩⟩
  · exact ⟨_, rfl, State.cutList_edited .cutWithdraw holder (cutWithdraw_listed listed)⟩
  · exact ⟨_, rfl, State.controlled_unchanged holder (cutWithdraw_unlisted unlisted)⟩
  · exact ⟨_, rfl, State.cutList_edited .cutAmend holder (cutAmend_listed valid unbound listed)⟩
  · exact ⟨_, rfl, State.controlled_unchanged holder (cutAmend_refused refused)⟩
  · exact ⟨_, rfl, State.cutList_edited .cutListClear holder rfl⟩

end Sys2Proof.Machine

/-! PROOF. CUT_LIST_READ, SECTION_READ and SLOT_READ (R24, R60, R100, R166). -/

namespace Sys2Proof.Machine

/-! ### The 190 sections -/

theorem mem_allSections {id : SectionId} : id ∈ allSections ↔ id.inRange = true := by
  cases id <;> simp [allSections, SectionId.inRange]

/-- The list of the sections stands in the order of R42. -/
theorem allSections_ascending : allSections.Pairwise fun a b => sectionPlace a < sectionPlace b := by
  have lift (n : Nat) (f : Nat → SectionId) (shift : ∀ a b, a < b → sectionPlace (f a) < sectionPlace (f b)) :
      ((ids n).map f).Pairwise fun a b => sectionPlace a < sectionPlace b :=
    List.pairwise_map.mpr ((ids_ascending n).imp fun h => shift _ _ h)
  refine List.pairwise_append.mpr ⟨List.pairwise_append.mpr ⟨lift 63 .guard ?_, lift 63 .pointLink ?_, ?_⟩, lift 64 .trackLink ?_, ?_⟩
  · exact fun a b h => h
  · exact fun a b h => Nat.add_lt_add_left h 63
  · simp only [List.mem_map, mem_ids]
    rintro _ ⟨a, ha, rfl⟩ _ ⟨b, hb, rfl⟩
    simp only [sectionPlace]
    omega
  · exact fun a b h => Nat.add_lt_add_left h 126
  · simp only [List.mem_append, List.mem_map, mem_ids]
    rintro _ (⟨a, ha, rfl⟩ | ⟨a, ha, rfl⟩) _ ⟨b, hb, rfl⟩ <;> simp only [sectionPlace] <;> omega

/-! ### SLOT_READ part 2 (R166) -/

theorem Section.holds_iff {x : Section} {i : Nat} : x.holds i = true ↔ ∃ r ∈ x.runs, r.owner = .slot i := by
  simp [Section.holds]

/-- The axles of a slot in a section are the counts of its runs. -/
theorem Section.axlesOf_eq (x : Section) (i : Nat) :
    x.axlesOf i = (x.runs.map fun r => if r.owner = .slot i then r.count else 0).sum := by
  unfold Section.axlesOf
  induction x.runs with
  | nil => rfl
  | cons r l ih =>
    by_cases own : r.owner = .slot i
    · simp [own, ih]
    · simp [own, ih]

/-- The claim that a scan of a claim list finds for a slot is its first. -/
theorem State.claim_found {s : State} {i p : Nat} {want : Option Leg} :
    (∃ c, (s.claimList p).find? (fun c => decide (c.slot = i)) = some c ∧ c.want = want)
      ↔ ∃ a b, s.claimList p = a ++ ⟨i, want⟩ :: b ∧ ∀ c ∈ a, c.slot ≠ i := by
  constructor
  · rintro ⟨c, found, rfl⟩
    obtain ⟨own, a, b, split, before⟩ := List.find?_eq_some_iff_append.mp found
    obtain rfl := of_decide_eq_true own
    exact ⟨a, b, split, fun d m => by simpa using before d m⟩
  · rintro ⟨a, b, split, before⟩
    refine ⟨⟨i, want⟩, ?_, rfl⟩
    rw [split]
    exact find?_first (fun d m => decide_eq_false (before d m)) (decide_eq_true rfl)

theorem State.mem_slotEntries_claim {s : State} {i p : Nat} {want : Option Leg} : .claim p want ∈ s.slotEntries i ↔
    1 ≤ p ∧ p ≤ 63 ∧ ∃ a b, s.claimList p = a ++ ⟨i, want⟩ :: b ∧ ∀ c ∈ a, c.slot ≠ i := by
  rw [← State.claim_found]
  simp only [State.slotEntries, List.mem_append, List.mem_filterMap, Option.map_eq_some_iff, List.mem_map, mem_ids]
  constructor
  · rintro (⟨p, inside, c, found, same⟩ | ⟨id, _, same⟩)
    · cases same
      exact ⟨inside.1, inside.2, c, found, rfl⟩
    · cases same
  · rintro ⟨low, high, c, found, rfl⟩
    exact .inl ⟨p, ⟨low, high⟩, c, found, rfl⟩

theorem State.mem_slotEntries_runs {s : State} {i n : Nat} {id : SectionId} : .runs id n ∈ s.slotEntries i ↔
    id.inRange = true ∧ (∃ r ∈ (s.sec id).runs, r.owner = .slot i)
      ∧ n = ((s.sec id).runs.map fun r => if r.owner = .slot i then r.count else 0).sum := by
  rw [← Section.axlesOf_eq, ← Section.holds_iff, ← mem_allSections]
  simp only [State.slotEntries, List.mem_append, List.mem_filterMap, Option.map_eq_some_iff, List.mem_map, List.mem_filter]
  constructor
  · rintro (⟨p, _, c, _, same⟩ | ⟨id, ⟨present, holds⟩, same⟩)
    · cases same
    · cases same
      exact ⟨present, holds, rfl⟩
  · rintro ⟨present, holds, rfl⟩
    exact .inr ⟨id, ⟨present, holds⟩, rfl⟩

theorem State.slotEntries_ascending (s : State) (i : Nat) : (s.slotEntries i).Pairwise fun a b => a.place < b.place := by
  unfold State.slotEntries
  refine List.pairwise_append.mpr ⟨?_, ?_, ?_⟩
  · refine List.pairwise_filterMap.mpr ((ids_ascending 63).imp fun h a ha b hb => ?_)
    obtain ⟨c, -, rfl⟩ := Option.map_eq_some_iff.mp ha
    obtain ⟨d, -, rfl⟩ := Option.map_eq_some_iff.mp hb
    exact h
  · exact List.pairwise_map.mpr ((allSections_ascending.filter _).imp fun h => Nat.add_lt_add_left h 63)
  · intro a ha b hb
    obtain ⟨p, inside, ha⟩ := List.mem_filterMap.mp ha
    obtain ⟨c, -, rfl⟩ := Option.map_eq_some_iff.mp ha
    obtain ⟨id, present, rfl⟩ := List.mem_map.mp hb
    have range := mem_allSections.mp (List.mem_filter.mp present).1
    have inside := mem_ids.mp inside
    cases id <;> simp only [SectionId.inRange, decide_eq_true_eq] at range <;> simp only [SlotEntry.place, sectionPlace] <;> omega

theorem State.slotEntries_listed (s : State) (i : Nat) : SlotListed s i (s.slotEntries i) :=
  ⟨fun _ _ => State.mem_slotEntries_claim, fun _ _ => State.mem_slotEntries_runs, s.slotEntries_ascending i⟩

/-! ### The three reads -/

theorem cutListRead_eq (first : Nat) (s : State) : cutListRead first s = (s, if 1 ≤ first ∧ first ≤ 32 then
    .done (.cutList s.cutList.length ((((ids s.cutList.length).zip s.cutList).drop (first - 1)).take 4)) else .badArgument) := by
  unfold cutListRead
  by_cases inside : 1 ≤ first ∧ first ≤ 32
  · simp only [inRange_iff.mpr inside, inside, Bool.not_true, Bool.false_eq_true, if_false, and_self, if_true]
    rfl
  · simp only [inRange_false (show first < 1 ∨ 32 < first by omega), inside, Bool.not_false, if_true, if_false, refuse]

/-- The two parts of a section, and no other. -/
theorem sectionRead_inside {id : SectionId} (inside : id.inRange = true) (s : State) :
    sectionRead (some id) 0 s = (s, .done (.part 0 2
        (.section0 (s.sec id).disturbance ((s.sec id).runs.map Run.count).sum (s.sec id).runs.length)))
      ∧ sectionRead (some id) 1 s = (s, .done (.part 1 2
        (.section1 ((s.sec id).runs.map fun r => ⟨r.owner, r.count, r.owner.slot?.bind s.numberOf⟩))))
      ∧ ∀ k, sectionRead (some id) (k + 2) s = (s, .badArgument) := by
  simp only [sectionRead, inside, Bool.not_true, Bool.false_eq_true, if_false]
  exact ⟨rfl, rfl, fun _ => rfl⟩

theorem sectionRead_outside {id : Option SectionId} (outside : ∀ x, id = some x → x.inRange = false) (part : Nat) (s : State) :
    sectionRead id part s = (s, .badArgument) := by
  cases id with
  | none => rfl
  | some x => simp only [sectionRead, outside x rfl, Bool.not_false, if_true, refuse]

section
variable {i part first : Nat} {s : State}

/-- The test of SLOT_READ's arguments. -/
theorem slotRead_test : (!inRange 1 16 i || !inRange 0 2 part || (decide (part = 2) && decide (first = 0))) = true
    ↔ i = 0 ∨ 16 < i ∨ 2 < part ∨ (part = 2 ∧ first = 0) := by
  simp [inRange]
  omega

theorem slotRead_refused (h : i = 0 ∨ 16 < i ∨ 2 < part ∨ (part = 2 ∧ first = 0)) : slotRead i part first s = (s, .badArgument) := by
  unfold slotRead
  rw [if_pos (slotRead_test.mpr h), refuse]

theorem slotRead_free (low : 1 ≤ i) (high : i ≤ 16) (parts : part ≤ 2) (entry : part = 2 → 1 ≤ first) (free : s.slot i = none) :
    slotRead i part first s = (s, .done (.part part 3 .slotFree)) := by
  unfold slotRead
  rw [if_neg (mt slotRead_test.mp (by omega)), free]
  rfl

/-- The three parts of a slot in use. -/
theorem slotRead_used (low : 1 ≤ i) (high : i ≤ 16) {x : Slot} (hx : s.slot i = some x) :
    slotRead i 0 first s = (s, .done (.part 0 3 x.content0)) ∧ slotRead i 1 first s = (s, .done (.part 1 3 x.content1))
      ∧ (1 ≤ first → slotRead i 2 first s = (s, .done (.part 2 3 (s.slotContent2 i first)))) := by
  refine ⟨?_, ?_, fun entry => ?_⟩
  all_goals
    unfold slotRead
    rw [if_neg (mt slotRead_test.mp (by omega)), hx]
    rfl

end

/-- Settles O11: each read answers its content or its refusal, and changes nothing. -/
theorem cutListSectionAndSlotReadsAnswer : Obligations.CutListSectionAndSlotReadsAnswer := by
  unfold Obligations.CutListSectionAndSlotReadsAnswer
  refine ⟨⟨fun q m s first may => ?_, fun q m s may => ⟨fun id inside => ⟨?_, ?_, fun part beyond => ?_⟩, fun id part outside => ?_⟩⟩,
    fun q m s i part first may => ?_⟩
  · exact ⟨_, rfl, State.handle_unchanged _ _ may _ (cutListRead_eq first s)⟩
  · exact ⟨_, rfl, State.handle_unchanged _ _ may _ (sectionRead_inside inside s).1⟩
  · exact ⟨_, rfl, State.handle_unchanged _ _ may _ (sectionRead_inside inside s).2.1⟩
  · obtain ⟨k, rfl⟩ := Nat.exists_eq_add_of_le' beyond
    exact ⟨_, rfl, State.handle_unchanged _ _ may _ ((sectionRead_inside inside s).2.2 k)⟩
  · exact ⟨_, rfl, State.handle_unchanged _ _ may _ (sectionRead_outside outside part s)⟩
  · have unchanged : slotRead i part first s = (s, (slotRead i part first s).2) := Prod.ext ((reads_unchanged s).2.2.1 i part first) rfl
    refine ⟨_, _, rfl, State.handle_unchanged _ _ may _ unchanged, fun refused => by rw [slotRead_refused refused],
      fun low high parts entry => ⟨fun free => by rw [slotRead_free low high parts entry free], fun x hx => ?_⟩⟩
    obtain ⟨part0, part1, part2⟩ := slotRead_used (first := first) low high hx
    refine ⟨?_, ?_, ?_⟩ <;> rintro rfl
    · exact congrArg Prod.snd part0
    · exact congrArg Prod.snd part1
    · exact ⟨s.slotEntries i, s.slotEntries_listed i, congrArg Prod.snd (part2 (entry rfl))⟩

end Sys2Proof.Machine

/-! PROOF. The UP axle at the lead entry counter, and the cut that has rolled back whole (R39, R40, R82, R106, R140). -/

namespace Sys2Proof.Machine

/-! ### The record that goes back (R40 step 4) -/

/-- The cut list with a bound record back at its head while it has room. -/
def backOnList (l : List CutRecord) : Option CutRecord → List CutRecord
  | some r => if l.length < 32 then r :: l else l
  | none => l

/-- The report of a bound record for which the cut list has no room. -/
def backReport (l : List CutRecord) : Option CutRecord → List ReportBody
  | some r => if l.length < 32 then [] else [.cutDropped none (some r.number) .listFull]
  | none => []

theorem State.returnRecord_room (s : State) {r : CutRecord} (room : s.cutList.length < 32) :
    s.returnRecord (some r) = ({ s with cutList := r :: s.cutList }).recompute := if_pos room

theorem State.returnRecord_full (s : State) {r : CutRecord} (full : ¬s.cutList.length < 32) :
    s.returnRecord (some r) = s.offer (.cutDropped none (some r.number) .listFull) := if_neg full

theorem State.returnRecord_cutList (s : State) (record : Option CutRecord) : (s.returnRecord record).cutList = backOnList s.cutList record := by
  cases record with
  | none => rfl
  | some r =>
    by_cases room : s.cutList.length < 32
    · rw [s.returnRecord_room room]
      simp [backOnList, room]
    · rw [s.returnRecord_full room]
      simp [backOnList, room]

theorem State.returnRecord_offers (s : State) (record : Option CutRecord) :
    Offers s (s.returnRecord record) (backReport s.cutList record) := by
  cases record with
  | none => exact .refl s
  | some r =>
    by_cases room : s.cutList.length < 32
    · have put : Offers s { s with cutList := r :: s.cutList } [] := .of_same rfl rfl rfl rfl rfl
      rw [s.returnRecord_room room]
      simpa [backReport, room] using put.after (State.recompute_offers _)
    · rw [s.returnRecord_full room]
      simpa [backReport, room] using s.offer_offers (.cutDropped none (some r.number) .listFull)

/-- The demand stays up to date. -/
theorem State.returnRecord_demand {s : State} (record : Option CutRecord) (h : s.signal.demand = s.demandNow) :
    (s.returnRecord record).signal.demand = (s.returnRecord record).demandNow := by
  cases record with
  | none => exact h
  | some r =>
    by_cases room : s.cutList.length < 32
    · rw [s.returnRecord_room room]
      exact (State.recompute_demand _).trans (State.recompute_onlySends { s with cutList := r :: s.cutList }).demandNow.symm
    · have sends := s.offer_onlySends (.cutDropped none (some r.number) .listFull)
      rw [s.returnRecord_full room, sends.signal, sends.demandNow]
      exact h

/-! ### The rollback (R40) -/

section
variable (s : State) (i : Nat) (x : Slot)

/-- The slot's claims and its reservation given up, its points evaluated, and the slot FREE. -/
def State.unbound : State := (((s.leaveAll i).reevaluateAll (s.standing i)).release i).freeUp i

theorem State.rollBack_eq : s.rollBack i x = if ((s.unbound i).returnRecord x.record).binder.state = .tracked i
    then ((s.unbound i).returnRecord x.record).shutBinder else (s.unbound i).returnRecord x.record := rfl

theorem State.unbound_frame : (s.unbound i).binder = s.binder ∧ (s.unbound i).cutList = s.cutList
    ∧ (s.unbound i).claims = (s.leaveAll i).claims := by
  simp [State.unbound, State.leaveAll]

theorem State.unbound_offers : Offers s (s.unbound i) [] :=
  ((s.leaveAll_offers i).after (State.reevaluateAll_offers _ _)).after ((State.release_offers _ i).after (State.freeUp_offers _ i))

theorem State.unbound_ne {j : Nat} (other : j ≠ i) : (s.unbound i).slot j = s.slot j := by
  rw [State.unbound, State.freeUp_ne _ other, State.release, State.updSlot_ne _ _ other]
  simp [State.slot, State.leaveAll]

/-- Beside the binder, which closes, the rollback ends with the record that goes back. -/
theorem State.rollBack_frames : (s.rollBack i x).slots = (s.unbound i).slots ∧ (s.rollBack i x).claims = (s.leaveAll i).claims
    ∧ (s.rollBack i x).cutList = backOnList s.cutList x.record ∧ (s.rollBack i x).engine = (s.unbound i).engine
    ∧ (s.rollBack i x).signal = ((s.unbound i).returnRecord x.record).signal := by
  obtain ⟨-, cutList, claims⟩ := s.unbound_frame i
  have list := (s.unbound i).returnRecord_cutList x.record
  rw [cutList] at list
  rw [State.rollBack_eq]
  split
  · exact ⟨by simp, by simp [claims], list, by simp, rfl⟩
  · exact ⟨by simp, by simp [claims], list, by simp, rfl⟩

theorem State.rollBack_binder : (s.rollBack i x).binder
    = if s.binder.state = .tracked i then { s.binder with state := .closed, gap := none } else s.binder := by
  have binder : ((s.unbound i).returnRecord x.record).binder = s.binder := by simp [s.unbound_frame i]
  rw [State.rollBack_eq, binder]
  split
  · rw [State.shutBinder, binder]
  · exact binder

theorem State.rollBack_free (inside : 1 ≤ i ∧ i ≤ 16) : (s.rollBack i x).slot i = none := by
  rw [State.slot, (s.rollBack_frames i x).1]
  exact State.freeUp_slot _ inside

theorem State.rollBack_ne {j : Nat} (other : j ≠ i) : (s.rollBack i x).slot j = s.slot j := by
  rw [State.slot, (s.rollBack_frames i x).1]
  exact s.unbound_ne i other

theorem State.rollBack_stands (p : Nat) : (s.rollBack i x).stands i p = false := by
  rw [State.stands, State.claimList, (s.rollBack_frames i x).2.1]
  exact s.leaveAll_stands i p

theorem State.rollBack_demand : (s.rollBack i x).signal.demand = (s.rollBack i x).demandNow := by
  have demand := State.returnRecord_demand x.record (State.freeUp_demand (((s.leaveAll i).reevaluateAll (s.standing i)).release i) i)
  rw [State.rollBack_eq]
  split
  · exact demand
  · exact demand

theorem State.rollBack_offers : Offers s (s.rollBack i x) (backReport s.cutList x.record) := by
  have back := (s.unbound i).returnRecord_offers x.record
  rw [(s.unbound_frame i).2.1] at back
  have returned := (s.unbound_offers i).after back
  rw [State.rollBack_eq]
  split
  · exact returned.before (.of_same rfl rfl rfl rfl rfl)
  · exact returned

end

/-! ### The crossing (R39, R49, R80, R82) -/

/-- An axle of the tail run's owner is taken. -/
theorem State.takeAxle_tail {u : State} {a : SectionId} {d i n : Nat} {time : Clock} (tail : (u.sec a).runs.getLast? = some ⟨.slot i, n⟩) :
    ∃ m, u.takeAxle a .tail d time = (u.setSec a { u.sec a with runs := m }, .slot i) ∧ AxleTaken .tail (u.sec a).runs (.slot i) m := by
  obtain ⟨m, taken, k, l, before, after⟩ := takeHead_of_head? ((List.head?_reverse).trans tail)
  refine ⟨m.reverse, by simp [State.takeAxle, takeRun, taken], k, l, before, ?_⟩
  rw [facing, List.reverse_reverse]
  exact after

/-- The slot as an UP axle at the lead leaves it: a counted axle less, and unanchored (R39, R82). -/
def Slot.uncounted (x : Slot) : Slot := { x with counted := x.counted - 1, flags := { x.flags with unanchored := true } }

theorem State.uncounted_eq {s : State} {i : Nat} {x : Slot} (hx : s.slot i = some x) :
    (s.countDown i).unanchor i = s.setSlot i (some x.uncounted) := by
  have counted : s.countDown i = s.setSlot i (some { x with counted := x.counted - 1 }) := State.updSlot_eq hx _
  have self := s.slot_setSlot_self i (some { x with counted := x.counted - 1 }) (State.slot_inside hx)
  rw [counted, State.unanchor, State.updSlot_eq self, State.setSlot_setSlot]
  rfl

/-- The tracking table's part: the rollback test, the tail test, and the points told. -/
theorem State.takeCrossing_leadUp {s : State} {i : Nat} {x : Slot} {time : Clock} (hx : s.slot i = some x) :
    (s.countDown i).takeCrossing i .lead .up time false
      = (((s.setSlot i (some x.uncounted)).rollbackTest i).tailTest i).reevaluateAll
        ((s.countDown i).toldOf (((s.setSlot i (some x.uncounted)).rollbackTest i).tailTest i) i) := by
  have counted : (s.countDown i).slot i = some { x with counted := x.counted - 1 } := by
    rw [State.countDown, State.updSlot_eq hx]
    exact s.slot_setSlot_self i _ (State.slot_inside hx)
  have sorted : (s.countDown i).sortCrossing i { x with counted := x.counted - 1 } .lead .up time
      = (s.setSlot i (some x.uncounted)).rollbackTest i := congrArg (State.rollbackTest · i) (State.uncounted_eq hx)
  unfold State.takeCrossing
  simp only [counted, sorted, Bool.false_eq_true, if_false]
  rfl

/-- The crossing up to the rollback test, which is made on the slot uncounted, and what comes after. -/
theorem AxleHanded.backOverCrest {frame : List Byte} {s u : State} {d p i n : Nat} {time : Clock} {x : Slot}
    (handed : AxleHanded s u frame d .up time) (role : u.joint d = some ⟨.lead, .outside, .sec (.pointLink p)⟩) (inside : 1 ≤ p ∧ p ≤ 63)
    (tail : (u.sec (.pointLink p)).runs.getLast? = some ⟨.slot i, n⟩) (hx : u.slot i = some x) :
    ∃ v t, exec (.telegramReceived .t false frame) s = .next t ∧ v.slots = u.slots ∧ v.claims = u.claims ∧ v.tables = u.tables
      ∧ v.binder = u.binder ∧ v.cutList = u.cutList ∧ Offers u v []
      ∧ AxleTaken .tail (u.sec (.pointLink p)).runs (.slot i) (v.sec (.pointLink p)).runs
      ∧ OtherSections u v (.pointLink p) (.pointLink p)
      ∧ Ended ((v.setSlot i (some x.uncounted)).rollbackTest i) t i ∧ ∀ k, u.stands i k = true → StandsEvaluated t k := by
  obtain ⟨t, run, sends, sent⟩ := handed.crossed role
  obtain ⟨m, taken, shape⟩ := State.takeAxle_tail (d := d) (time := time) tail
  obtain ⟨v, hv⟩ : ∃ v, v = u.setSec (.pointLink p) { u.sec (.pointLink p) with runs := m } := ⟨_, rfl⟩
  have slots : v.slots = u.slots := by simp [hv]
  have claims : v.claims = u.claims := by simp [hv]
  have self : (v.sec (.pointLink p)).runs = m := by
    rw [hv, u.sec_setSec_self (.pointLink p) _ (decide_eq_true inside)]
  have vx : v.slot i = some x := by rw [State.slot, slots]; exact hx
  have cross : u.cross ⟨.lead, .outside, .sec (.pointLink p)⟩ .up d time
      = (((v.setSlot i (some x.uncounted)).rollbackTest i).tailTest i).reevaluateAll
        ((v.countDown i).toldOf (((v.setSlot i (some x.uncounted)).rollbackTest i).tailTest i) i) := by
    change u.crossLeadUp (.pointLink p) d time = _
    rw [← State.takeCrossing_leadUp (time := time) vx, hv]
    unfold State.crossLeadUp
    simp only [taken]
  rw [cross] at sends sent
  refine ⟨v, t, run, slots, claims, by simp [hv], by simp [hv], by simp [hv], ?_, by rw [self]; exact shape, fun id other _ => ?_,
    .of_quiet (State.reevaluateAll_quiet _ _) (State.reevaluateAll_offers _ _) sends sent, fun k stood => ?_⟩
  · rw [hv, State.setSec_eq]
    exact .of_same rfl rfl rfl rfl rfl
  · rw [hv]
    exact u.sec_setSec_ne _ other
  · have counted : (v.countDown i).stands i k = true := by
      have same : (v.countDown i).claims = u.claims := by simp [claims]
      rw [State.stands, State.claimList, same]
      exact stood
    exact (State.reevaluateAll_standsEvaluated _ (.inl (State.mem_toldOf (.inl counted)))).of_same (sends.quiet.sameOutlook k)
      (sends.sent k)

/-! ### The two outcomes -/

theorem State.rolledBack_iff {s : State} {i : Nat} {x : Slot} :
    s.rolledBack i x = true ↔ x.counted = 0 ∧ (∀ id, (s.sec id).holds i = false) ∧ x.cleared = 0 := by
  have noRuns : s.hasRuns i = false ↔ ∀ id, (s.sec id).holds i = false := by
    rw [← Bool.not_eq_true, State.hasRuns_iff]
    simp
  simp only [State.rolledBack, Bool.and_eq_true, decide_eq_true_eq, Bool.not_eq_true', noRuns, and_assoc]

/-- Settles O38: the crossing makes the rollback test on the slot uncounted, which frees the slot or leaves it so. -/
theorem wholeRollbackFreesTheSlot : Obligations.WholeRollbackFreesTheSlot := by
  unfold Obligations.WholeRollbackFreesTheSlot
  intro frame s u d p i n time x handed role low high tail hx
  obtain ⟨v, t, run, slots, claims, tables, binder, cutList, taken, shape, others, ended, evaluated⟩ :=
    handed.backOverCrest role ⟨low, high⟩ tail hx
  have inside := State.slot_inside hx
  obtain ⟨b, hb⟩ : ∃ b, b = v.setSlot i (some x.uncounted) := ⟨_, rfl⟩
  have bx : b.slot i = some x.uncounted := by rw [hb]; exact v.slot_setSlot_self i _ inside
  have ne (j : Nat) (other : j ≠ i) : b.slot j = u.slot j := by
    rw [hb, State.slot_setSlot_ne _ _ other, State.slot, slots]
    rfl
  have offers : Offers u b [] := by rw [hb]; exact taken.after (State.setSlot_offers ..)
  have bLists : b.claims = u.claims ∧ b.binder = u.binder ∧ b.cutList = u.cutList := by simp [hb, claims, binder, cutList]
  have sameSec (id : SectionId) : t.sec id = b.sec id := by
    unfold State.sec
    rw [ended.sections, hb]
    simp
  rw [← hb] at ended
  have vSec (id : SectionId) : t.sec id = v.sec id := (sameSec id).trans (by rw [hb]; rfl)
  have test : b.rollbackTest i = if b.rolledBack i x.uncounted then b.rollBack i x.uncounted else b := by
    simp only [State.rollbackTest, bx]
  have outcome : (∀ j, j ≠ i → t.slot j = u.slot j) ∧ t.tables = u.tables := by
    constructor
    · intro j other
      rw [ended.slot j, ← ne j other, test]
      split
      · exact b.rollBack_ne i _ other
      · rfl
    · rw [ended.tables, (State.rollbackTest_frame b i).2.2.2.2.1, hb, ← tables]
      rfl
  refine ⟨t, run, by rw [vSec]; exact shape, fun id a b => (vSec id).trans (others id a b), outcome.1, outcome.2, fun one uncleared none_ => ?_,
    fun some_ => ?_⟩
  · have back : b.rolledBack i x.uncounted = true := State.rolledBack_iff.mpr
      ⟨Nat.sub_eq_zero_of_le one, fun id => by rw [← sameSec]; exact none_ id, uncleared⟩
    rw [test, if_pos back] at ended
    have free := b.rollBack_free i x.uncounted inside
    obtain ⟨-, -, list, -⟩ := b.rollBack_frames i x.uncounted
    rw [bLists.2.2] at list
    have reported := ((offers.after (b.rollBack_offers i x.uncounted)).before ended.offers).reported
    rw [bLists.2.2] at reported
    refine ⟨(ended.slot i).trans free, fun k => ?_, ?_, ?_, ?_, evaluated, ?_⟩
    · rw [State.stands, State.claimList, ended.claims, State.freed_tailTest free]
      exact b.rollBack_stands i _ k
    · have demand := b.rollBack_demand i x.uncounted
      unfold State.demandNow State.slotsInUse at demand ⊢
      rw [ended.signal, ended.engine, ended.cutList, ended.slots, ended.tables]
      exact demand
    · rw [ended.binder, State.rollBack_binder, bLists.2.1]
    · rw [ended.cutList, list]
      unfold backOnList
      rfl
    · unfold backReport at reported
      exact reported
  · have stays : b.rolledBack i x.uncounted = false := by
      rw [← Bool.not_eq_true, State.rolledBack_iff]
      rintro ⟨counted, empty, uncleared⟩
      rcases some_ with two | one | ⟨id, holds⟩
      · simp only [Slot.uncounted] at counted
        omega
      · simp only [Slot.uncounted] at uncleared
        omega
      · rw [sameSec, empty id] at holds
        cases holds
    rw [test, if_neg (by simp [stays])] at ended
    exact ⟨⟨_, rfl, (ended.slot i).trans bx⟩, ended.binder.trans bLists.2.1, ended.cutList.trans bLists.2.2,
      (offers.before ended.offers).reported⟩

end Sys2Proof.Machine

/-! SUPPORT. What offering can put into the report queue, and what no selection of a port can do: the start of a THROW over an occupied
guard (R110, R155, R178, R179). -/

namespace Sys2Proof.Machine

/-! ### The report queue (R178, R179) -/

theorem placeReport_perm (r : Report) (q : List Report) : (placeReport r q).Perm (r :: q) := by
  have perm := List.perm_middle (a := r) (l₁ := q.takeWhile fun x => decide (r.level.rank ≤ x.level.rank))
    (l₂ := q.dropWhile fun x => decide (r.level.rank ≤ x.level.rank))
  rwa [List.takeWhile_append_dropWhile] at perm

/-- An offer puts in no more than the record offered. -/
theorem ReportQueue.offer_subperm (x : ReportQueue) (r : Report) : (x.offer r).queue.Subperm (r :: x.queue) := by
  have placed (q : List Report) (h : q.Sublist x.queue) : (placeReport r q).Subperm (r :: x.queue) :=
    (placeReport_perm r q).subperm.trans (h.cons_cons r).subperm
  unfold ReportQueue.offer
  split
  · exact placed _ (.refl _)
  · split
    · exact placed _ (.refl _)
    · split
      · exact placed _ (List.dropLast_sublist _)
      · exact (List.sublist_cons_self ..).subperm

/-- The records that offers of these bodies make. -/
def State.records (s : State) (bodies : List ReportBody) : List Report :=
  bodies.map fun b => ⟨s.tables.params.level b.kind, s.clock, b⟩

/-- Offers put in no more than the records offered. -/
theorem State.offered_subperm (s : State) (bodies : List ReportBody) (x : ReportQueue) :
    (s.offered bodies x).queue.Subperm (s.records bodies ++ x.queue) := by
  induction bodies generalizing x with
  | nil => exact .refl _
  | cons b rest ih =>
    refine (ih _).trans ?_
    split
    · exact (List.sublist_cons_self ..).subperm
    · refine ((List.subperm_append_left _).mpr (x.offer_subperm _)).trans ?_
      exact List.perm_middle.subperm

/-- What waits after offers is what was offered and what waited before. -/
theorem Reported.subperm {s t : State} {bodies : List ReportBody} (h : Reported s t bodies) :
    t.reports.queue.Subperm (s.records bodies ++ s.reports.queue) := by
  rcases h with e | ⟨before, after, r, rest, n, x, rfl, -, first, -, -, e⟩
  · rw [e]
    exact s.offered_subperm bodies _
  · have begun := s.offered_subperm before s.reports
    rw [first] at begun
    rw [e]
    refine (s.offered_subperm after _).trans ?_
    have left := (List.subperm_append_left (s.records after)).mpr ((List.sublist_cons_self r rest).subperm.trans begun)
    refine left.trans (List.Perm.subperm ?_)
    rw [State.records, State.records, State.records, List.map_append, ← List.append_assoc]
    exact List.perm_append_comm.append_right _

/-- No more ENGINE_STATE reports wait than waited and were offered. -/
theorem Reported.engineReports {s t : State} {bodies : List ReportBody} (h : Reported s t bodies) :
    t.engineReports ≤ s.engineReports + (s.records bodies).countP Report.ofEngine := by
  have count := h.subperm.countP_le Report.ofEngine
  rw [List.countP_append] at count
  unfold State.engineReports
  omega

/-- A record that waits newly has been offered. -/
theorem Reported.offered_mem {s t : State} {bodies : List ReportBody} (h : Reported s t bodies) {r : Report}
    (waits : r ∈ t.reports.queue) (new : r ∉ s.reports.queue) : r.body ∈ bodies := by
  rcases List.mem_append.mp (h.subperm.subset waits) with m | m
  · obtain ⟨b, offered, rfl⟩ := List.mem_map.mp m
    exact offered
  · exact absurd m new

/-! ### Occupied guards (R110, R155) -/

/-- Guards occupied stay so, their points keep their records, and the command queue only loses THROWs. -/
structure Parks (s t : State) : Prop where
  commands : t.link.commands.Sublist s.link.commands
  points : ∀ p, s.guardClear p = false → t.guardClear p = false ∧ t.pt p = s.pt p

theorem Parks.trans {s t u : State} (h : Parks s t) (k : Parks t u) : Parks s u where
  commands := k.commands.trans h.commands
  points p occupied := by
    obtain ⟨still, same⟩ := h.points p occupied
    exact ⟨(k.points p still).1, (k.points p still).2.trans same⟩

theorem Parks.of_same {s t : State} (commands : t.link.commands = s.link.commands) (points : t.points = s.points)
    (sections : t.sections = s.sections) : Parks s t where
  commands := by rw [commands]
  points p occupied := by
    rw [State.guardClear, State.sec, State.pt, sections, points]
    exact ⟨occupied, rfl⟩

theorem Parks.refl (s : State) : Parks s s := .of_same rfl rfl rfl

theorem State.setPort_parks (s : State) (p : Port) (x : PortState) : Parks s (s.setPort p x) := .of_same (by simp) (by simp) (by simp)

theorem State.select_parks (s : State) (p : Port) : Parks s (s.select p) where
  commands := (s.select_rests p).commands
  points k occupied := ⟨((s.select_quiet p).sameOutlook k).guardClear.trans occupied, State.select_occupied occupied p⟩

theorem State.offer_parks (s : State) (b : ReportBody) : Parks s (s.offer b) := by
  unfold State.offer
  extract_lets
  split
  · exact .refl s
  · refine .trans ?_ (State.select_parks _ .y)
    exact .of_same rfl rfl rfl

theorem State.writeDemand_parks (s : State) : Parks s s.writeDemand := by
  unfold State.writeDemand
  split
  · exact .refl s
  · refine .trans ?_ (State.select_parks _ .t)
    exact .of_same rfl rfl rfl

theorem State.recompute_parks (s : State) : Parks s s.recompute := by
  unfold State.recompute
  split
  · exact .refl s
  · refine .trans ?_ (State.writeDemand_parks _)
    exact .of_same rfl rfl rfl

theorem State.enterEngine_parks (s : State) (ev : EngineEvent) : Parks s (s.enterEngine ev) :=
  (s.offer_parks _).trans (State.recompute_parks _)

theorem State.handle_parks {s : State} {q : Req} {m : Telegram} (code : RequestCode) (f : Effect) (may : s.mayAnswer q m) :
    Parks (f m.src.toNat s).1 (s.handle q code f) := by
  have responded (u : State) (r : Response) : Parks u (u.respond r) := by
    refine .trans ?_ (State.select_parks _ r.port)
    exact .of_same rfl rfl rfl
  have freed (u : State) (p : Port) : Parks u (u.freeBuffer p) := .trans (u.setPort_parks ..) (State.select_parks _ _)
  rw [State.handle_eq code f may]
  exact ((responded _ _).trans (State.setPort_parks ..)).trans (freed _ _)

end Sys2Proof.Machine

/-! PROOF. STOP_ENGINE: CONFIG, the binder CLOSED, the sections DISTURBED, and the return THROWs still queued (R42, R114, R132, R135). -/

namespace Sys2Proof.Machine

/-! ### The sections stopped (R42) -/

theorem State.sec_congr {s t : State} (sections : t.sections = s.sections) (id : SectionId) : t.sec id = s.sec id := by
  cases id <;> simp only [State.sec, sections]

theorem State.halting_disturbance (s : State) {id : SectionId} (inside : id.inRange = true) :
    (s.halting.sec id).disturbance = some ((s.sec id).disturbance.getD ⟨.stopped, none, none⟩) := by
  have stop (x : Section) : x.stopped.disturbance = some (x.disturbance.getD ⟨.stopped, none, none⟩) := by
    unfold Section.stopped
    cases h : x.disturbance with
    | none => rfl
    | some d => exact h
  have read {n : Nat} (v : Vector Section n) {i : Nat} (h : 1 ≤ i ∧ i ≤ n) :
      readAt (mapAll Section.stopped v) ⟨none, []⟩ i = (readAt v ⟨none, []⟩ i).stopped := by simp [readAt, mapAll, h]
  cases id <;> exact (congrArg Section.disturbance (read _ (of_decide_eq_true inside))).trans (stop _)

theorem State.halting_occupied (s : State) {p : Nat} (inside : 1 ≤ p ∧ p ≤ 63) : s.halting.guardClear p = false := by
  rw [State.guardClear, s.halting_disturbance (id := .guard p) (decide_eq_true inside)]
  rfl

/-! ### A guard violation inside a STOP_ENGINE (R114, R121) -/

/-- The THROW of the point is a return THROW that still waits (R114). -/
def State.returnWaits (s : State) (p : Nat) : Bool :=
  match (s.pt p).state with
  | .returning _ => (s.pt p).command.isQueued
  | _ => false

theorem State.returnWaits_iff {s : State} {p : Nat} :
    s.returnWaits p = true ↔ (∃ e, (s.pt p).state = .returning e) ∧ (s.pt p).command.isQueued = true := by
  unfold State.returnWaits
  cases h : (s.pt p).state <;> simp

/-- A point's runtime record as a guard violation leaves it (R122). -/
def PointRuntime.violated (r : PointRuntime) : PointRuntime :=
  { r with
    state := .failed, command := .none, lastFault := some .guardViolation, supervision := none, retryTimer := none,
    deglitchTimer := none }

/-- While points are FAILED a violation takes no cause out of the set. -/
theorem State.causesViolated_keeps {s : State} (some_ : s.countFailed ≠ 0) {c : Cause} (h : s.engine.causes.has c = true) :
    s.causesViolated.has c = true := by
  unfold State.causesViolated EngineControl.causesTold
  rw [if_neg (show ¬(0 < s.engine.failed ∧ s.countFailed = 0) from fun k => some_ k.2)]
  split <;> cases c <;> simp_all [Causes.put, Causes.has]

/-- The state of a violation inside STOP_ENGINE, before its report. -/
def State.violating (s : State) (p : Nat) : State := (s.markFailed p .guardViolation).tellViolation true

/-- With no slot in the guard a violation inside STOP_ENGINE reports itself alone. -/
theorem State.violation_inStop {s : State} {p : Nat} (empty : ∀ i, (s.sec (.guard p)).holds i = false) :
    s.violation p none true = (s.violating p).offer (.guardViolation p (s.pt p).state s.clock none []) := by
  have none_ : s.violators p none = [] := List.filter_eq_nil_iff.mpr fun i _ => by simp [empty i]
  simp only [State.violation, Option.map_none, none_, List.foldl_nil, Option.getD_none]
  rfl

section
variable {s : State} {p : Nat} (inside : 1 ≤ p ∧ p ≤ 63)
include inside

theorem State.violating_pt : (s.violating p).pt p = (s.pt p).violated := s.markFailed_pt inside .guardViolation

omit inside in
theorem State.violating_ne {k : Nat} (other : k ≠ p) : (s.violating p).pt k = s.pt k := State.pt_setPt_ne _ _ other

omit inside in
theorem State.violating_commands : (s.violating p).link.commands = s.link.commands.filter fun c => decide (c.point ≠ p) := rfl

theorem State.violating_engine : (s.violating p).engine.state = s.engine.state
    ∧ (s.violating p).engine.failed = (s.violating p).countFailed ∧ (s.violating p).engine.causes.guardViolation = true
    ∧ (s.violating p).engine.causes.command = s.engine.causes.command
    ∧ (s.violating p).engine.causes.supervision = s.engine.causes.supervision
    ∧ ∀ c, s.engine.causes.has c = true → (s.violating p).engine.causes.has c = true := by
  have failed : ((s.markFailed p .guardViolation).pt p).state = .failed := by rw [s.markFailed_pt inside]
  obtain ⟨violation, command, supervision⟩ := (s.markFailed p .guardViolation).causesViolated_has
  exact ⟨rfl, rfl, violation, command, supervision, fun c h => State.causesViolated_keeps (State.countFailed_pos inside failed) h⟩

end

theorem State.violating_queues (s : State) (p : Nat) : Queues s (s.violating p) [] := .of_same rfl rfl rfl rfl rfl rfl rfl

/-! ### The points told one after the other -/

/-- The report of the violation of a point whose return THROW waits. -/
def State.violationReport (s : State) (p : Nat) : ReportBody := .guardViolation p (s.pt p).state s.clock none []

/-- Inside a STOP_ENGINE of `s` the points `told` have been told that their guards are occupied. -/
structure Halting (s a : State) (told : List Nat) : Prop where
  clock : a.clock = s.clock
  mgmt : a.mgmt = s.mgmt
  tables : a.tables = s.tables
  cutList : a.cutList = s.cutList
  binder : a.binder = s.halting.binder
  sections : a.sections = s.halting.sections
  slots : a.slots = s.slots
  config : a.engine.state = .config
  command : a.engine.causes.command = s.engine.causes.command
  supervision : a.engine.causes.supervision = s.engine.causes.supervision
  causes : ∀ c, s.engine.causes.has c = true → a.engine.causes.has c = true
  untold : ∀ p, p ∉ told → a.pt p = s.pt p
  violated : ∀ p ∈ told, s.returnWaits p = true → a.pt p = (s.pt p).violated ∧ (∀ c ∈ a.link.commands, c.point ≠ p)
    ∧ a.engine.failed = a.countFailed ∧ a.engine.causes.guardViolation = true
  queues : Queues s a ((told.filter s.returnWaits).map s.violationReport)

theorem State.halting_start (s : State) : Halting s s.halting [] :=
  ⟨rfl, rfl, rfl, rfl, rfl, rfl, rfl, rfl, rfl, rfl, fun _ h => h, fun _ _ => rfl, fun _ m => absurd m List.not_mem_nil,
    .of_same rfl rfl rfl rfl rfl rfl rfl⟩

section
variable {s a : State} {told : List Nat} {p : Nat}

theorem Halting.occupied (h : Halting s a told) (inside : 1 ≤ p ∧ p ≤ 63) : a.guardClear p = false := by
  rw [State.guardClear, State.sec_congr h.sections]
  exact s.halting_occupied inside

/-- Nothing is done to a point but a withdrawal of its THROW. -/
theorem Halting.withdraw (h : Halting s a told) (new : p ∉ told) (idle : s.returnWaits p = false) : Halting s (a.withdraw p) (told ++ [p]) := by
  have commands : (a.withdraw p).link.commands.Sublist a.link.commands := by
    unfold State.withdraw
    split
    · exact List.filter_sublist
    · exact .refl _
  have failed : (a.withdraw p).countFailed = a.countFailed := by
    rw [State.countFailed_eq, State.countFailed_eq]
    refine List.countP_congr fun k _ => ?_
    rcases eq_or_ne k p with rfl | other
    · cases hs : (a.pt k).state with
      | pending e => simp [State.pt_withdraw hs]
      | _ => simp [State.withdraw, hs]
    · rw [a.withdraw_other other]
  have quiet : Queues a (a.withdraw p) [] := by
    unfold State.withdraw
    split
    · exact .of_same rfl rfl rfl rfl rfl rfl rfl
    · exact .refl a
  have none_ : [p].filter s.returnWaits = [] := List.filter_eq_nil_iff.mpr (by simp [idle])
  exact {
    clock := by simp [h.clock]
    mgmt := by simp [h.mgmt]
    tables := by simp [h.tables]
    cutList := by simp [h.cutList]
    binder := by simp [h.binder]
    sections := by simp [h.sections]
    slots := by simp [h.slots]
    config := by simp [h.config]
    command := by simp [h.command]
    supervision := by simp [h.supervision]
    causes := fun c k => by simpa using h.causes c k
    untold := fun k m => by
      simp only [List.mem_append, List.mem_singleton, not_or] at m
      rw [a.withdraw_other m.2, h.untold k m.1]
    violated := fun k m waits => by
      rcases List.mem_append.mp m with m | m
      · obtain ⟨pt, gone, count, set⟩ := h.violated k m waits
        have other : k ≠ p := fun e => new (e ▸ m)
        exact ⟨(a.withdraw_other other).trans pt, fun c m => gone c (commands.subset m), by simpa [failed] using count, by simpa using set⟩
      · cases List.mem_singleton.mp m
        rw [idle] at waits
        cases waits
    queues := by
      rw [List.filter_append, none_, List.append_nil]
      exact h.queues.before quiet }

/-- A return THROW that waits is a guard violation. -/
theorem Halting.violation (h : Halting s a told) (new : p ∉ told) (inside : 1 ≤ p ∧ p ≤ 63) (clear : s.guardClear p = true)
    (waits : s.returnWaits p = true) : Halting s (a.violation p none true) (told ++ [p]) := by
  have empty (i : Nat) : (a.sec (.guard p)).holds i = false := by
    have runs : (a.sec (.guard p)).runs = (s.sec (.guard p)).runs := by
      rw [← s.halting_runs, State.sec_congr h.sections]
    have none_ : (s.sec (.guard p)).runs = [] := by
      unfold State.guardClear at clear
      simpa using (Bool.and_eq_true_iff.mp clear).2
    simp [Section.holds, runs, none_]
  have same := h.untold p new
  rw [State.violation_inStop empty, same, h.clock]
  have told_ := (a.violating p).offer_told (s.violationReport p)
  have parks := (a.violating p).offer_parks (s.violationReport p)
  have queues := h.queues.trans ((a.violating_queues p).after (State.offer_queues _ (s.violationReport p)))
  obtain ⟨state, count, set, command, supervision, causes⟩ := State.violating_engine (s := a) inside
  obtain ⟨link, reports, e⟩ := told_
  have commands : link.commands.Sublist (a.link.commands.filter fun c => decide (c.point ≠ p)) := by
    have := parks.commands
    rwa [e] at this
  change Halting s ((a.violating p).offer (s.violationReport p)) (told ++ [p])
  rw [e] at queues ⊢
  exact {
    clock := h.clock
    mgmt := h.mgmt
    tables := h.tables
    cutList := h.cutList
    binder := h.binder
    sections := h.sections
    slots := h.slots
    config := state.trans h.config
    command := command.trans h.command
    supervision := supervision.trans h.supervision
    causes := fun c k => causes c (h.causes c k)
    untold := fun k m => by
      simp only [List.mem_append, List.mem_singleton, not_or] at m
      exact (State.violating_ne m.2).trans (h.untold k m.1)
    violated := fun k m waits => by
      have gone (c : Throw) (n : c ∈ link.commands) : c ∈ a.link.commands ∧ c.point ≠ p := by simpa using List.mem_filter.mp (commands.subset n)
      rcases List.mem_append.mp m with m | m
      · obtain ⟨pt, fewer, -⟩ := h.violated k m waits
        have other : k ≠ p := fun e => new (e ▸ m)
        exact ⟨(State.violating_ne other).trans pt, fun c n => fewer c (gone c n).1, count, set⟩
      · cases List.mem_singleton.mp m
        exact ⟨(State.violating_pt inside).trans (congrArg _ same), fun c n => (gone c n).2, count, set⟩
    queues := by
      have one : [p].filter s.returnWaits = [p] := by simp [waits]
      rw [List.filter_append, one, List.map_append]
      exact queues }

theorem Halting.guardOccupied (h : Halting s a told) (new : p ∉ told) (inside : 1 ≤ p ∧ p ≤ 63) (clear : s.guardClear p = true) :
    Halting s (a.guardOccupied p true) (told ++ [p]) := by
  have same := h.untold p new
  have stays (idle : s.returnWaits p = false) (still : ∀ e, (a.pt p).state ≠ .pending e) : Halting s a (told ++ [p]) := by
    have := h.withdraw new idle
    unfold State.withdraw at this
    split at this
    · exact absurd ‹_› (still _)
    · exact this
  unfold State.guardOccupied
  cases hs : (a.pt p).state with
  | pending e =>
    simp only
    rw [State.withdrawn_occupied (h.occupied inside)]
    exact h.withdraw new (by simp [State.returnWaits, ← same, hs])
  | returning e =>
    simp only
    split
    · rename_i queued
      exact h.violation new inside clear (State.returnWaits_iff.mpr ⟨⟨e, same ▸ hs⟩, same ▸ queued⟩)
    · rename_i idle
      exact stays (by simp [State.returnWaits, ← same, hs, idle]) (by simp [hs])
  | unknown => exact stays (by simp [State.returnWaits, ← same, hs]) (by simp [hs])
  | rest e => exact stays (by simp [State.returnWaits, ← same, hs]) (by simp [hs])
  | moving e => exact stays (by simp [State.returnWaits, ← same, hs]) (by simp [hs])
  | waitRetry e => exact stays (by simp [State.returnWaits, ← same, hs]) (by simp [hs])
  | failed => exact stays (by simp [State.returnWaits, ← same, hs]) (by simp [hs])

theorem Halting.foldl (l : List Nat) : ∀ {a : State} {told : List Nat}, Halting s a told → (told ++ l).Nodup →
    (∀ p ∈ l, (1 ≤ p ∧ p ≤ 63) ∧ s.guardClear p = true) → Halting s (l.foldl (fun a p => a.guardOccupied p true) a) (told ++ l) := by
  induction l with
  | nil => exact fun h _ _ => by rwa [List.append_nil]
  | cons p l ih =>
    intro a told h distinct clear
    obtain ⟨inside, empty⟩ := clear p List.mem_cons_self
    have new : p ∉ told := fun m => (List.nodup_append.mp distinct).2.2 p m p List.mem_cons_self rfl
    have := ih (h.guardOccupied new inside empty) (by rwa [List.append_assoc]) fun k m => clear k (.tail _ m)
    rwa [List.append_assoc] at this

end

/-- The points whose guards were clear, in ascending order. -/
def State.clearGuards (s : State) : List Nat := (ids 63).filter s.guardClear

theorem State.mem_clearGuards {s : State} {p : Nat} : p ∈ s.clearGuards ↔ (1 ≤ p ∧ p ≤ 63) ∧ s.guardClear p = true := by
  simp [State.clearGuards]

theorem State.clearGuards_ascending (s : State) : s.clearGuards.Pairwise (· < ·) := (ids_ascending 63).filter _

/-- All points told, the change is reported. -/
theorem State.haltEngine_told (s : State) : ∃ a, Halting s a s.clearGuards ∧ s.haltEngine = a.enterEngine .stopEngine :=
  ⟨_, Halting.foldl s.clearGuards s.halting_start (by rw [List.nil_append]; exact s.clearGuards_ascending.imp Nat.ne_of_lt)
    fun _ m => State.mem_clearGuards.mp m, rfl⟩

/-! ### The request (R135) -/

theorem stopEngine_config {s : State} (config : s.engine.state = .config) : stopEngine s = (s, .wrongState none) :=
  if_pos (State.inConfig_iff.mpr config)

theorem stopEngine_busy {s : State} (run : s.engine.state ≠ .config) (used : 0 < s.slotsInUse) : stopEngine s = (s, .busy s.slotsInUse) := by
  unfold stopEngine
  rw [if_neg (mt State.inConfig_iff.mp run), if_pos used, refuse]

theorem stopEngine_done {s : State} (run : s.engine.state ≠ .config) (unused : s.slotsInUse = 0) : stopEngine s = done s.haltEngine := by
  unfold stopEngine
  rw [if_neg (mt State.inConfig_iff.mp run), if_neg (by omega)]

/-- What the sending at the request's end leaves of a point told. -/
theorem Halting.guardViolated {s a t : State} {told : List Nat} {p : Nat} (h : Halting s a told) (inside : 1 ≤ p ∧ p ≤ 63) (m : p ∈ told)
    (waits : s.returnWaits p = true) (free : ∀ i, s.slot i = none) (parks : Parks a t) (engine : t.engine = a.engine)
    (count : t.countFailed = a.countFailed) (slots : t.slots = a.slots) : GuardViolated s t p := by
  obtain ⟨pt, gone, failed, set⟩ := h.violated p m waits
  refine ⟨⟨_, rfl, (parks.points p (h.occupied inside)).2.trans pt⟩, fun c n => gone c (parks.commands.subset n), ?_, ?_, fun _ => ?_, ?_, ?_,
    fun i _ x hx => ?_⟩
  · rw [engine, count]
    exact failed
  · rw [engine]
    exact set
  · rw [engine, h.config]
    nofun
  · rw [engine]
    exact h.command
  · rw [engine]
    exact h.supervision
  · rw [State.slot, slots, h.slots] at hx
    cases (free i).symm.trans hx

/-- Settles O25: the guards that were clear are told in ascending order, and one report carries the whole change. -/
theorem stopEngineCompletes : Obligations.StopEngineCompletes := by
  unfold Obligations.StopEngineCompletes
  intro q m s holder
  refine ⟨fun run unused => ?_, fun config => ⟨_, rfl, State.controlled_unchanged holder (stopEngine_config config)⟩,
    fun run used => ⟨_, rfl, State.controlled_unchanged holder (stopEngine_busy run used)⟩⟩
  obtain ⟨a, halting, told⟩ := s.haltEngine_told
  have effect : stopEngine s = (a.enterEngine .stopEngine, .done .plain) := (stopEngine_done run unused).trans (congrArg done told)
  have queues := halting.queues.trans (a.enterEngine_queues .stopEngine)
  obtain ⟨answered, sends, offers⟩ := State.controlled_done (code := .stopEngine) holder effect queues
  have parked := State.handle_parks .stopEngine (controlled stopEngine) holder.1
  rw [(controlled_holder holder.2).trans effect] at parked
  have parks := (a.enterEngine_parks .stopEngine).trans parked
  have entered := a.enterEngine_onlySends .stopEngine
  refine ⟨_, rfl, ?_⟩
  generalize s.handle q .stopEngine (controlled stopEngine) = t at answered sends offers parks
  have engine : t.engine = a.engine := by rw [sends.engine, entered.engine]
  have slots : t.slots = a.slots := by rw [sends.slots, entered.slots]
  have sections : t.sections = s.halting.sections := by rw [sends.sections, entered.sections, ← halting.sections]
  have count : t.countFailed = a.countFailed := sends.countFailed.trans entered.countFailed
  have config : t.engine.state = .config := by rw [engine, halting.config]
  have reported := offers.reported
  rw [← engine, config] at reported
  refine ⟨answered, config, ?_, fun id inside => ⟨?_, ?_⟩, fun c had => ?_, ?_, ?_, fun r waits new ofEngine => ?_,
    ⟨s.clearGuards.filter s.returnWaits, fun p => ?_, s.clearGuards_ascending.filter _, fun p violated => ?_, reported⟩, ?_, ?_, ?_, ?_⟩
  · rw [sends.binder, entered.binder, halting.binder]
    rfl
  · rw [← s.halting_runs, State.sec_congr sections]
  · rw [← s.halting_disturbance inside, State.sec_congr sections]
  · rw [engine]
    exact halting.causes c had
  · rw [sends.signal, sends.demandNow]
    exact a.enterEngine_demand .stopEngine
  · have waiting := reported.engineReports
    have one : (s.records ((s.clearGuards.filter s.returnWaits).map s.violationReport
        ++ [.engineState .config t.engine.causes .stopEngine])).countP Report.ofEngine = 1 := by
      have others : ((s.clearGuards.filter s.returnWaits).map s.violationReport).countP
          (fun b => Report.ofEngine ⟨s.tables.params.level b.kind, s.clock, b⟩) = 0 := by
        refine List.countP_eq_zero.mpr fun b m => ?_
        obtain ⟨p, -, rfl⟩ := List.mem_map.mp m
        exact Bool.false_ne_true
      rw [State.records, List.countP_map, List.countP_append]
      exact congrArg (· + 1) others
    omega
  · rcases List.mem_append.mp (reported.offered_mem waits new) with m | m
    · obtain ⟨p, -, body⟩ := List.mem_map.mp m
      rw [Report.ofEngine, ← body] at ofEngine
      cases ofEngine
    · exact List.mem_singleton.mp m
  · rw [List.mem_filter, State.mem_clearGuards, State.returnWaits_iff]
    simp only [and_assoc]
  · obtain ⟨m, waits⟩ := List.mem_filter.mp violated
    exact halting.guardViolated (State.mem_clearGuards.mp m).1 m waits (State.slot_of_slotsInUse unused) parks engine count slots
  · rw [sends.cutList, entered.cutList]
    exact halting.cutList
  · rw [sends.tables, entered.tables]
    exact halting.tables
  · rw [slots, halting.slots]
  · rw [sends.mgmt, entered.mgmt]
    exact halting.mgmt

end Sys2Proof.Machine

/-! SUPPORT. The queues while points re-evaluate, and what becomes of an automatic THROW that a re-evaluation places (R106 to R110, R155). -/

namespace Sys2Proof.Machine

/-! ### The queues -/

theorem State.placeThrow_queues (s : State) (p : Nat) (leg : Leg) (reason : ThrowReason) : Queues s (s.placeThrow p leg reason) [] := by
  refine Queues.after ?_ (State.select_queues _ .t)
  exact .of_same rfl rfl rfl rfl rfl rfl rfl

theorem State.evaluateAtRest_queues (s : State) (p : Nat) : Queues s (s.evaluateAtRest p) [] := by
  unfold State.evaluateAtRest
  split
  · exact s.placeThrow_queues ..
  · exact .refl s

theorem State.withdraw_queues (s : State) (p : Nat) : Queues s (s.withdraw p) [] := by
  unfold State.withdraw
  split
  · exact .of_same rfl rfl rfl rfl rfl rfl rfl
  · exact .refl s

theorem State.reevaluate_queues (s : State) (p : Nat) : Queues s (s.reevaluate p) [] := by
  unfold State.reevaluate
  split
  · exact s.evaluateAtRest_queues p
  · split
    · exact (s.withdraw_queues p).after (State.evaluateAtRest_queues _ p)
    · exact .refl s
  · exact .refl s

theorem State.reevaluateAll_queues (s : State) (l : List Nat) : Queues s (s.reevaluateAll l) [] := by
  induction l generalizing s with
  | nil => exact .refl s
  | cons p l ih => exact (s.reevaluate_queues p).after (ih _)

theorem State.setSec_queues (s : State) (id : SectionId) (x : Section) : Queues s (s.setSec id x) [] := by
  rw [State.setSec_eq]
  exact .of_same rfl rfl rfl rfl rfl rfl rfl

/-! ### A THROW that has been placed (R107, R110) -/

/-- A point's runtime record once an automatic THROW of it is placed. -/
def PointRuntime.placed (r : PointRuntime) (leg : Leg) : PointRuntime := { r with state := .pending leg, command := .queued .automatic }

/-- The automatic THROW `c`, placed when its point's record was `r`, waits, or its transmission has started. -/
def State.Placed (t : State) (c : Throw) (r : PointRuntime) : Prop :=
  (t.pt c.point = r.placed c.leg ∧ c ∈ t.link.commands)
    ∨ t.pt c.point = (r.placed c.leg).started t.clock (r.throwTime c.point) t.tables.params.allowance

section
variable {s t : State} {c : Throw} {r : PointRuntime}

theorem State.Placed.of_same (h : s.Placed c r) (clock : t.clock = s.clock) (tables : t.tables = s.tables) (points : t.points = s.points)
    (commands : t.link.commands = s.link.commands) : t.Placed c r := by
  simpa only [State.Placed, State.pt, clock, tables, points, commands] using h

/-- The start of the head THROW starts this one, or leaves it behind the head. -/
theorem State.Placed.startThrow {d : Throw} {rest : List Throw} (h : s.Placed c r) (may : s.throwMayStart d.point = true)
    (first : s.link.commands = d :: rest) : (s.startThrow d).Placed c r := by
  have tail : (s.startThrow d).link.commands = rest := congrArg List.tail first
  by_cases own : c.point = d.point
  · have inside : 1 ≤ c.point ∧ c.point ≤ 63 := s.pt_inside (by
      rw [own]
      intro unknown
      simp [State.throwMayStart, unknown] at may)
    rcases h with ⟨placed, -⟩ | started
    · refine .inr ?_
      refine Eq.trans (b := (s.pt c.point).started s.clock ((s.pt c.point).throwTime c.point) s.tables.params.allowance) ?_ ?_
      · rw [State.startThrow, ← own]
        exact State.pt_setPt_self s _ _ inside
      · rw [placed]
        rfl
    · rw [State.throwMayStart, ← own, started] at may
      cases may
  · have pt : (s.startThrow d).pt c.point = s.pt c.point := State.pt_setPt_ne s _ own
    refine h.imp (fun ⟨placed, waits⟩ => ⟨pt.trans placed, ?_⟩) pt.trans
    rw [first] at waits
    rw [tail]
    exact (List.mem_cons.mp waits).resolve_left fun e => own (congrArg Throw.point e)

theorem State.Placed.setPort (h : s.Placed c r) (p : Port) (x : PortState) : (s.setPort p x).Placed c r :=
  h.of_same (by simp) (by simp) (by simp) (by simp)

theorem State.Placed.select (h : s.Placed c r) (p : Port) : (s.select p).Placed c r := by
  unfold State.select
  cases e : s.choice p with
  | throw d =>
    obtain ⟨-, rest, first⟩ := State.choice_throw e
    simp only [State.begin]
    split
    · exact h.startThrow ‹_› first
    · exact h
  | nothing => exact h
  | fill => exact h.setPort ..
  | signal m | response d | report d =>
    refine State.Placed.setPort ?_ ..
    exact h.of_same rfl rfl rfl rfl
  | pass m => exact h.setPort ..

theorem State.Placed.handle {q : Req} {m : Telegram} (code : RequestCode) (f : Effect) (may : s.mayAnswer q m)
    (h : (f m.src.toNat s).1.Placed c r) : (s.handle q code f).Placed c r := by
  have responded (u : State) (a : Response) (k : u.Placed c r) : (u.respond a).Placed c r := by
    refine State.Placed.select ?_ _
    exact k.of_same rfl rfl rfl rfl
  rw [State.handle_eq code f may]
  exact (((responded _ _ h).setPort ..).setPort ..).select _

end

theorem State.placeThrow_placed (s : State) {p : Nat} (inside : 1 ≤ p ∧ p ≤ 63) (leg : Leg) :
    (s.placeThrow p leg .automatic).Placed ⟨p, leg, s.machineOf p⟩ (s.pt p) := by
  refine State.Placed.select ?_ .t
  exact .inl ⟨State.pt_setPt_self s p _ inside, List.mem_append.mpr (.inr List.mem_cons_self)⟩

theorem State.placeThrow_onlySends (s : State) (p : Nat) (leg : Leg) :
    OnlySends (s.setPt p ((s.pt p).placed leg)) (s.placeThrow p leg .automatic) := by
  refine OnlySends.trans ?_ (State.select_onlySends _ .t)
  exact .of_eq rfl

/-- A THROW that is due goes to the other end. -/
theorem State.throwDue_other {s : State} {p : Nat} {e leg : Leg} (rest : (s.pt p).state = .rest e) (due : s.throwDue p = some leg) :
    leg = e.other := by
  simp only [State.throwDue, rest, Option.ite_none_right_eq_some, Option.some.injEq] at due
  exact due.2.symm

/-- A point at rest has re-evaluated, whatever the ports send afterwards. -/
theorem State.evaluateAtRest_reevaluated {s t : State} {p : Nat} {e : Leg} (rest : (s.pt p).state = .rest e)
    (sends : OnlySends (s.evaluateAtRest p) t) (keeps : ∀ c r, (s.evaluateAtRest p).Placed c r → t.Placed c r) : Reevaluated s t p e := by
  unfold State.evaluateAtRest at sends keeps
  cases due : s.throwDue p with
  | none =>
    rw [due] at sends
    exact ⟨fun h => absurd h (State.throwDue_eq_none.mp due e rest), fun _ => sends⟩
  | some leg =>
    rw [due] at sends keeps
    cases State.throwDue_other rest due
    have placed := keeps _ _ (s.placeThrow_placed (State.throwDue_eq_some due).1 e.other)
    have clock : t.clock = s.clock := sends.clock.trans (by simp)
    have tables : t.tables = s.tables := sends.tables.trans (by simp)
    rw [State.Placed, clock, tables] at placed
    refine ⟨fun _ => ⟨(s.placeThrow_onlySends p e.other).trans sends, placed⟩,
      fun none => absurd (State.throwDue_eq_none.mpr ?_) (by rw [due]; nofun)⟩
    intro l hl
    cases rest.symm.trans hl
    exact none

end Sys2Proof.Machine

/-! SUPPORT. SECTION_RESTORE and RESTORE_ALL: DISTURBED sections emptied one after the other, their points re-evaluating (R57, R58, R106). -/

namespace Sys2Proof.Machine

/-! ### One section -/

/-- The point whose guard a section is. -/
def guardsOf : SectionId → List Nat
  | .guard p => [p]
  | .pointLink _ | .trackLink _ => []

theorem mem_guardsOf {id : SectionId} {p : Nat} : p ∈ guardsOf id ↔ id = .guard p := by
  cases id <;> simp [guardsOf, eq_comm]

/-- The guard of a DISTURBED section becomes clear, and its point re-evaluates. -/
theorem State.restore_eq {s : State} {id : SectionId} (inside : id.inRange = true) (disturbed : (s.sec id).disturbance ≠ none) :
    s.restore id = (s.setSec id ⟨none, []⟩).reevaluateAll (guardsOf id) := by
  cases id with
  | guard p =>
    have before : s.guardClear p = false := by simp [State.guardClear, disturbed]
    have after : (s.setSec (.guard p) ⟨none, []⟩).guardClear p = true := by
      rw [State.guardClear, s.sec_setSec_self _ _ inside]
      rfl
    change (s.setSec (.guard p) ⟨none, []⟩).guardChange p (s.guardClear p) = (s.setSec (.guard p) ⟨none, []⟩).reevaluate p
    simp [State.guardChange, before, after]
  | pointLink p | trackLink k => rfl

/-! ### The sections one after the other (R58) -/

/-- The sections `done`, DISTURBED in `s`, have been restored. -/
structure Restoring (s a : State) (done : List SectionId) : Prop where
  blocks : Restored s a
  sections : ∀ id, a.sec id = if id ∈ done then ⟨none, []⟩ else s.sec id
  evaluated : ∀ p, .guard p ∈ done → StandsEvaluated a p
  queues : Queues s a []

theorem Restoring.refl (s : State) : Restoring s s [] where
  blocks := by simp [Restored]
  sections id := by simp
  evaluated p m := absurd m List.not_mem_nil
  queues := .refl s

theorem Restoring.step {s a : State} {done : List SectionId} {id : SectionId} (h : Restoring s a done) (inside : id.inRange = true)
    (disturbed : (s.sec id).disturbance ≠ none) (new : id ∉ done) : Restoring s (a.restore id) (done ++ [id]) := by
  have same : a.sec id = s.sec id := (h.sections id).trans (if_neg new)
  rw [State.restore_eq inside (by rwa [same])]
  exact {
    blocks := by simpa [Restored] using h.blocks
    sections := fun k => by
      rw [State.sec_congr (s := a.setSec id ⟨none, []⟩) (by simp)]
      rcases eq_or_ne k id with rfl | other
      · rw [a.sec_setSec_self k _ inside, if_pos (by simp)]
      · rw [a.sec_setSec_ne _ other, h.sections]
        simp [other]
    evaluated := fun p m => by
      refine State.reevaluateAll_standsEvaluated _ ?_
      by_cases own : id = .guard p
      · exact .inl (mem_guardsOf.mpr own)
      · have before : SectionId.guard p ∈ done := (List.mem_append.mp m).resolve_right fun m => own (List.mem_singleton.mp m).symm
        refine .inr ((h.evaluated p before).of_same ?_ (.inl (by simp [State.pt])))
        exact {
          clock := by simp
          tables := by simp
          claims := by simp [State.claimList]
          slots := fun c _ => by simp [State.slot]
          guardClear := by rw [State.guardClear, a.sec_setSec_ne _ (Ne.symm own), ← State.guardClear] }
    queues := h.queues.trans ((a.setSec_queues id _).after (State.reevaluateAll_queues _ _)) }

theorem Restoring.foldl {s : State} (l : List SectionId) : ∀ {a : State} {done : List SectionId}, Restoring s a done → (done ++ l).Nodup →
    (∀ id ∈ l, id.inRange = true ∧ (s.sec id).disturbance ≠ none) → Restoring s (l.foldl State.restore a) (done ++ l) := by
  induction l with
  | nil => exact fun h _ _ => by rwa [List.append_nil]
  | cons id l ih =>
    intro a done h distinct disturbed
    obtain ⟨inside, dist⟩ := disturbed id List.mem_cons_self
    have new : id ∉ done := fun m => (List.nodup_append.mp distinct).2.2 id m id List.mem_cons_self rfl
    have := ih (h.step inside dist new) (by rwa [List.append_assoc]) fun k m => disturbed k (.tail _ m)
    rwa [List.append_assoc] at this

theorem State.mem_disturbedSections {s : State} {id : SectionId} :
    id ∈ s.disturbedSections ↔ id.inRange = true ∧ (s.sec id).disturbance ≠ none := by
  rw [State.disturbedSections, List.mem_filter, mem_allSections, Option.isSome_iff_ne_none]

theorem allSections_nodup : allSections.Nodup := allSections_ascending.imp fun h e => by
  subst e
  exact absurd h (Nat.lt_irrefl _)

theorem State.restoreAll_restoring (s : State) : Restoring s (s.disturbedSections.foldl State.restore s) s.disturbedSections :=
  (Restoring.refl s).foldl s.disturbedSections (by rw [List.nil_append]; exact allSections_nodup.filter _) fun _ m => State.mem_disturbedSections.mp m

/-- What is not among the 190 sections reads NORMAL and empty. -/
theorem State.sec_outside (s : State) {id : SectionId} (outside : ¬id.inRange = true) : s.sec id = ⟨none, []⟩ := by
  cases id <;> exact readAt_outside _ _ (of_decide_eq_false (Bool.not_eq_true _ ▸ outside))

theorem State.disturbed_inside {s : State} {id : SectionId} (disturbed : (s.sec id).disturbance ≠ none) : id.inRange = true :=
  Classical.byContradiction fun outside => disturbed (by rw [s.sec_outside outside])

/-! ### What the ports send afterwards -/

theorem Restored.sends {s u t : State} (h : Restored s u) (k : OnlySends u t) : Restored s t := by
  obtain ⟨clock, wrapped, straps, mgmt, cutList, binder, slots, claims, tables, signal, engine⟩ := h
  exact ⟨k.clock.trans clock, k.wrapped.trans wrapped, k.straps.trans straps, k.mgmt.trans mgmt, k.cutList.trans cutList,
    k.binder.trans binder, k.slots.trans slots, k.claims.trans claims, k.tables.trans tables, k.signal.trans signal, k.engine.trans engine⟩

theorem StandsEvaluated.sends {u t : State} {p : Nat} (h : StandsEvaluated u p) (k : OnlySends u t) : StandsEvaluated t p :=
  h.of_same (k.quiet.sameOutlook p) (k.sent p)

/-! ### The requests (R57, R58) -/

theorem sectionRestore_done {s : State} {id : SectionId} (inside : id.inRange = true) (disturbed : (s.sec id).disturbance ≠ none) :
    sectionRestore (some id) s = (s.restore id, .done .plain) := by
  simp [sectionRestore, inside, disturbed, done]

theorem sectionRestore_normal {s : State} {id : SectionId} (inside : id.inRange = true) (normal : (s.sec id).disturbance = none) :
    sectionRestore (some id) s = (s, .wrongState none) := by
  simp [sectionRestore, inside, normal, refuse]

theorem sectionRestore_outside {id : Option SectionId} (outside : ∀ x, id = some x → x.inRange = false) (s : State) :
    sectionRestore id s = (s, .badArgument) := by
  cases id with
  | none => rfl
  | some x => simp [sectionRestore, outside x rfl, refuse]

section
variable {s : State} {q : Req} {m : Telegram} (holder : s.fromHolder q m)
include holder

/-- SECTION_RESTORE of a DISTURBED section. -/
theorem sectionRestore_completes {id : SectionId} (inside : id.inRange = true) (disturbed : (s.sec id).disturbance ≠ none) :
    ∃ t, exec (.sectionRestore q (some id)) s = .next t ∧ Answered s t q m .sectionRestore (.done .plain) ∧ t.sec id = ⟨none, []⟩
      ∧ (∀ k, k ≠ id → t.sec k = s.sec k) ∧ Restored s t
      ∧ (∀ p e, id = .guard p → (s.pt p).state = .rest e → ∃ w, w = s.setSec id ⟨none, []⟩ ∧ Reevaluated w t p e)
      ∧ Reported s t [] := by
  have restoring := (Restoring.refl s).step inside disturbed List.not_mem_nil
  have effect := sectionRestore_done inside disturbed
  obtain ⟨answered, sends, offers⟩ := State.controlled_done (code := .sectionRestore) holder effect restoring.queues
  have section_ (k : SectionId) := (State.sec_congr sends.sections k).trans (restoring.sections k)
  refine ⟨_, rfl, answered, by simp [section_], fun k other => by simp [section_, other], restoring.blocks.sends sends, ?_, offers.reported⟩
  rintro p e rfl rest
  have atRest : ((s.setSec (.guard p) ⟨none, []⟩).pt p).state = .rest e := by simpa [State.pt] using rest
  have evaluated : s.restore (.guard p) = (s.setSec (.guard p) ⟨none, []⟩).evaluateAtRest p := by
    rw [State.restore_eq inside disturbed]
    change State.reevaluate _ p = _
    simp only [State.reevaluate, atRest]
  rw [evaluated] at sends effect
  refine ⟨_, rfl, State.evaluateAtRest_reevaluated atRest sends fun c r placed => State.Placed.handle _ _ holder.1 ?_⟩
  rw [controlled_holder holder.2, effect]
  exact placed

theorem restoreAll_completes : ∃ t, exec (.restoreAll q) s = .next t ∧ Answered s t q m .restoreAll (.done (.restored s.countDisturbed))
    ∧ (∀ id, t.sec id = if (s.sec id).disturbance = none then s.sec id else ⟨none, []⟩) ∧ Restored s t
    ∧ (∀ p, (s.sec (.guard p)).disturbance ≠ none → StandsEvaluated t p) ∧ Reported s t [] := by
  have restoring := s.restoreAll_restoring
  obtain ⟨answered, sends, offers⟩ := State.controlled_done (code := .restoreAll) (f := restoreAll) holder rfl restoring.queues
  have listed {id : SectionId} : id ∈ s.disturbedSections ↔ (s.sec id).disturbance ≠ none :=
    State.mem_disturbedSections.trans ⟨fun h => h.2, fun h => ⟨State.disturbed_inside h, h⟩⟩
  refine ⟨_, rfl, answered, fun id => ?_, restoring.blocks.sends sends, fun p disturbed => ?_, offers.reported⟩
  · rw [State.sec_congr sends.sections, restoring.sections]
    simp [listed]
  · exact (restoring.evaluated p (listed.mpr disturbed)).sends sends

end

end Sys2Proof.Machine

/-! SUPPORT. The runs of a slot removed from the sections, and what is left joined (R59). -/

namespace Sys2Proof.Machine

/-! ### Neighbours joined -/

/-- A group of runs of one owner, as the run they are joined to. -/
def JoinedAs (g : List Run) (r : Run) : Prop := (∀ x ∈ g, x.owner = r.owner) ∧ r.count = (g.map Run.count).sum

/-- The runs of a list fall into groups, one for each joined run. -/
theorem joinRuns_groups (l : List Run) :
    ∃ groups, l = groups.flatten ∧ (∀ g ∈ groups, g ≠ []) ∧ List.Forall₂ JoinedAs groups (joinRuns l) := by
  induction l with
  | nil => exact ⟨[], rfl, by simp, .nil⟩
  | cons r l ih =>
    obtain ⟨groups, whole, some_, joined⟩ := ih
    unfold joinRuns
    cases e : joinRuns l with
    | nil =>
      rw [e] at joined
      cases joined
      subst whole
      exact ⟨[[r]], rfl, by simp, .cons ⟨by simp, by simp⟩ .nil⟩
    | cons n tail =>
      rw [e] at joined
      cases joined with
      | @cons g _ groups _ first rest =>
        subst whole
        simp only
        split
        · rename_i own
          refine ⟨(r :: g) :: groups, rfl, ?_, .cons ⟨?_, ?_⟩ rest⟩
          · simp only [List.mem_cons, forall_eq_or_imp] at some_ ⊢
            exact ⟨nofun, some_.2⟩
          · simp only [List.mem_cons, forall_eq_or_imp, true_and]
            exact fun x m => (first.1 x m).trans own
          · simp [first.2]
        · refine ⟨[r] :: g :: groups, rfl, ?_, .cons ⟨by simp, by simp⟩ (.cons first rest)⟩
          simpa using some_

/-- Joined runs are apart, so neighbouring groups are of different owners. -/
theorem groups_apart {groups : List (List Run)} {runs : List Run} (joined : List.Forall₂ JoinedAs groups runs) (apart : Apart runs) :
    groups.IsChain fun a b => ∀ x ∈ a, ∀ y ∈ b, x.owner ≠ y.owner := by
  induction joined with
  | nil => exact .nil
  | @cons a r l runs first rest ih =>
    cases rest with
    | nil => exact .singleton a
    | @cons b n m tail second rest =>
      obtain ⟨different, apart⟩ := List.isChain_cons_cons.mp apart
      refine List.isChain_cons_cons.mpr ⟨fun x hx y hy e => different ?_, ih apart⟩
      rw [← first.1 x hx, e, second.1 y hy]

section
variable {groups : List (List Run)} {runs : List Run} (joined : List.Forall₂ JoinedAs groups runs)
include joined

theorem JoinedAs.of_mem {g : List Run} (m : g ∈ groups) : ∃ r, JoinedAs g r := by
  induction joined with
  | nil => cases m
  | cons first _ ih => exact (List.mem_cons.mp m).elim (fun e => ⟨_, e ▸ first⟩) ih

/-- A joined run is too large where its group is. -/
theorem JoinedAs.exceeds (n : Nat) : (∃ r ∈ runs, n < r.count) ↔ ∃ g ∈ groups, n < (g.map Run.count).sum := by
  induction joined with
  | nil => simp
  | cons first _ ih => simp [first.2, ih]

end

/-- The runs left of a section are joined as R59 has it, and one is capped exactly where its group is too large. -/
theorem Section.without_joined (x : Section) (i : Nat) :
    ∃ groups, RunsJoined groups (x.runs.filter fun r => decide (r.owner ≠ .slot i)) (capRuns (x.without i))
      ∧ (((x.without i).any fun r => decide (Config.axleCap < r.count)) = true ↔ ∃ g ∈ groups, 127 < (g.map Run.count).sum) := by
  obtain ⟨groups, whole, some_, joined⟩ := joinRuns_groups (x.runs.filter fun r => decide (r.owner ≠ .slot i))
  have apart := groups_apart joined (joinRuns_apart _)
  refine ⟨groups, ⟨whole, fun g m => ⟨some_ g m, fun a ha b hb => ?_⟩, List.isChain_iff_forall_rel_of_append_cons_cons.mp apart, ?_⟩, ?_⟩
  · obtain ⟨r, own, -⟩ := JoinedAs.of_mem joined m
    rw [own a ha, own b hb]
  · refine List.forall₂_map_right_iff.mpr (joined.imp fun g r h => ⟨h.1, ?_⟩)
    rw [← h.2]
    rfl
  · rw [← JoinedAs.exceeds joined 127]
    simp only [List.any_eq_true, decide_eq_true_eq]
    exact .rfl

/-- A section that overflows has runs left. -/
theorem Section.exceeding_occupied {x : Section} {i : Nat} (exceeds : ((x.without i).any fun r => decide (Config.axleCap < r.count)) = true) :
    capRuns (x.without i) ≠ [] := fun empty => by
  rw [List.map_eq_nil_iff.mp empty] at exceeds
  cases exceeds

theorem joinRuns_owner {l : List Run} {r : Run} (m : r ∈ joinRuns l) : ∃ y ∈ l, y.owner = r.owner := by
  induction l generalizing r with
  | nil => cases m
  | cons y l ih =>
    have later {z : Run} (m : z ∈ joinRuns l) : ∃ x ∈ y :: l, x.owner = z.owner := (ih m).imp fun _ h => ⟨.tail _ h.1, h.2⟩
    unfold joinRuns at m
    cases e : joinRuns l with
    | nil =>
      rw [e, List.mem_singleton] at m
      exact ⟨y, List.mem_cons_self, by rw [m]⟩
    | cons n tail =>
      simp only [e] at m later
      split at m
      · rcases List.mem_cons.mp m with rfl | m
        · exact ⟨y, List.mem_cons_self, rfl⟩
        · exact later (.tail _ m)
      · rcases List.mem_cons.mp m with rfl | m
        · exact ⟨r, List.mem_cons_self, rfl⟩
        · exact later m

/-! ### The runs removed from every section -/

/-- A section once the runs of a slot are removed; one that held none is as it was. -/
def Section.cut (x : Section) (i : Nat) : Section := if x.holds i then { x with runs := capRuns (x.without i) } else x

section
variable (x : Section) (i : Nat)

theorem Section.cut_holds : (x.cut i).holds i = false := by
  unfold Section.cut
  split
  · refine Bool.eq_false_iff.mpr fun holds => ?_
    obtain ⟨r, m, own⟩ := Section.holds_iff.mp holds
    obtain ⟨y, joined, rfl⟩ := List.mem_map.mp m
    obtain ⟨z, kept, same⟩ := joinRuns_owner joined
    exact of_decide_eq_true (List.mem_filter.mp kept).2 (same.trans own)
  · simpa using ‹¬x.holds i = true›

theorem Section.cut_of_absent {x : Section} {i : Nat} (absent : x.holds i = false) : x.cut i = x := by
  simp [Section.cut, absent]

theorem Section.cut_disturbance : (x.cut i).disturbance = x.disturbance := by
  unfold Section.cut
  split <;> rfl

end

/-- The runs of a slot are removed from one section. -/
def State.cutSec (s : State) (i : Nat) (id : SectionId) : State :=
  if (s.sec id).holds i then s.setSec id { s.sec id with runs := capRuns ((s.sec id).without i) } else s

theorem State.cutRuns_foldl (s : State) (i : Nat) : s.cutRuns i = allSections.foldl (fun a id => a.cutSec i id) s := rfl

theorem State.cutSec_sec (s : State) (i : Nat) (id k : SectionId) :
    (s.cutSec i id).sec k = if k = id then (s.sec k).cut i else s.sec k := by
  unfold State.cutSec Section.cut
  rcases eq_or_ne k id with rfl | other
  · split
    · rename_i holds
      have inside : k.inRange = true := Classical.byContradiction fun outside => by
        rw [s.sec_outside outside] at holds
        cases holds
      rw [s.sec_setSec_self k _ inside, if_pos rfl]
    · rw [if_pos rfl]
  · rw [if_neg other]
    split
    · exact s.sec_setSec_ne _ other
    · rfl

theorem State.cutRuns_sec (s : State) (i : Nat) (id : SectionId) : (s.cutRuns i).sec id = (s.sec id).cut i := by
  have fold (l : List SectionId) : ∀ a : State, (l.foldl (fun a id => a.cutSec i id) a).sec id
      = if id ∈ l then (a.sec id).cut i else a.sec id := by
    induction l with
    | nil => simp
    | cons k l ih =>
      intro a
      rw [List.foldl_cons, ih, a.cutSec_sec]
      rcases eq_or_ne id k with rfl | other
      · simp [Section.cut_of_absent (Section.cut_holds _ i)]
      · simp [other]
  rw [State.cutRuns_foldl, fold]
  split
  · rfl
  · rename_i outside
    rw [s.sec_outside (mt mem_allSections.mpr outside), Section.cut_of_absent rfl]

/-- Nothing but the sections changes. -/
theorem State.cutRuns_eq (s : State) (i : Nat) : ∃ sections, s.cutRuns i = { s with sections := sections } := by
  have fold (l : List SectionId) : ∀ a : State, ∃ sections, l.foldl (fun a id => a.cutSec i id) a = { a with sections := sections } := by
    induction l with
    | nil => exact fun a => ⟨a.sections, rfl⟩
    | cons k l ih =>
      intro a
      obtain ⟨_, first⟩ : ∃ sections, a.cutSec i k = { a with sections := sections } := by
        unfold State.cutSec
        split
        · exact ⟨_, a.setSec_eq ..⟩
        · exact ⟨a.sections, rfl⟩
      obtain ⟨_, rest⟩ := ih (a.cutSec i k)
      exact ⟨_, by rw [List.foldl_cons, rest, first]⟩
  exact fold _ s

end Sys2Proof.Machine

/-! SUPPORT. Steps after which every point that stood evaluated still does, and every point whose claim list has changed; disturbances among
them (R53, R96, R98, R106). -/

namespace Sys2Proof.Machine

/-! ### What keeps a point evaluated -/

section
variable {s : State} {i k : Nat}

/-- A slot outside its claim list is nothing to a point. -/
theorem StandsEvaluated.setSlot (h : StandsEvaluated s k) (absent : s.stands i k = false) (x : Option Slot) :
    StandsEvaluated (s.setSlot i x) k := by
  refine h.of_same ⟨rfl, rfl, rfl, fun c m => s.slot_setSlot_ne x fun own => ?_, rfl⟩ (.inl rfl)
  rw [State.stands_iff.mpr ⟨c, m, own⟩] at absent
  cases absent

theorem State.claimList_leaveAll_absent (absent : s.stands i k = false) : (s.leaveAll i).claimList k = s.claimList k := by
  rw [s.claimList_leaveAll i k, List.filter_eq_self]
  refine fun c m => decide_eq_true fun own => ?_
  rw [State.stands_iff.mpr ⟨c, m, own⟩] at absent
  cases absent

theorem StandsEvaluated.leaveAll (h : StandsEvaluated s k) (absent : s.stands i k = false) : StandsEvaluated (s.leaveAll i) k :=
  h.of_same ⟨rfl, rfl, State.claimList_leaveAll_absent absent, fun _ _ => rfl, rfl⟩ (.inl rfl)

/-- A guard that becomes occupied makes no THROW due. -/
theorem StandsEvaluated.sections {sections : Sections} (h : StandsEvaluated s k)
    (clear : ({ s with sections := sections } : State).guardClear k = true → s.guardClear k = true) :
    StandsEvaluated { s with sections := sections } k := by
  by_cases empty : ({ s with sections := sections } : State).guardClear k = true
  · exact h.of_same ⟨rfl, rfl, rfl, fun _ _ => rfl, empty.trans (clear empty).symm⟩ (.inl rfl)
  · exact ⟨fun e _ due => empty due.2.2.2.1, h.2⟩

end

/-! ### Steps that tend the points -/

/-- Points that stand evaluated go on doing so, those whose claim list changes stand evaluated, LOST slots stay so, and of the queues only
the report queue fills. -/
structure Tends (s t : State) : Prop where
  evaluated : ∀ k, StandsEvaluated s k → StandsEvaluated t k
  relisted : ∀ k, t.claimList k = s.claimList k ∨ StandsEvaluated t k
  lost : ∀ j, LostIfInUse s j → LostIfInUse t j
  offered : ∃ bodies, Queues s t bodies

theorem Tends.refl (s : State) : Tends s s := ⟨fun _ h => h, fun _ => .inl rfl, fun _ h => h, [], .refl s⟩

theorem Tends.trans {s t u : State} (h : Tends s t) (g : Tends t u) : Tends s u where
  evaluated k e := g.evaluated k (h.evaluated k e)
  relisted k := by
    rcases g.relisted k with same | stands
    · exact (h.relisted k).imp same.trans (g.evaluated k)
    · exact .inr stands
  lost j l := g.lost j (h.lost j l)
  offered := by
    obtain ⟨a, first⟩ := h.offered
    obtain ⟨b, second⟩ := g.offered
    exact ⟨_, first.trans second⟩

theorem Tends.foldl {α : Type} {f : State → α → State} (step : ∀ s a, Tends s (f s a)) (l : List α) (s : State) : Tends s (l.foldl f s) := by
  induction l generalizing s with
  | nil => exact .refl s
  | cons a l ih => exact (step s a).trans (ih _)

theorem LostIfInUse.of_slots {s t : State} {j : Nat} (h : LostIfInUse s j) (slots : t.slots = s.slots) : LostIfInUse t j := by
  simpa only [LostIfInUse, State.slot, slots] using h

section
variable (s : State)

theorem State.reevaluateAll_tends (l : List Nat) : Tends s (s.reevaluateAll l) where
  evaluated k h := State.reevaluateAll_standsEvaluated s (.inr h)
  relisted k := .inl (by simp [State.claimList])
  lost j h := h.of_slots (by simp)
  offered := ⟨[], s.reevaluateAll_queues l⟩

theorem OnlySends.tends {s t : State} (h : OnlySends s t) {bodies : List ReportBody} (queues : Queues s t bodies) : Tends s t where
  evaluated k e := e.sends h
  relisted k := .inl (by rw [State.claimList, h.claims, ← State.claimList])
  lost j l := l.of_slots h.slots
  offered := ⟨bodies, queues⟩

theorem State.offer_tends (b : ReportBody) : Tends s (s.offer b) := (s.offer_onlySends b).tends (s.offer_queues b)

/-- A slot that stands in no claim list is rewritten: LOST it stays. -/
theorem State.setSlot_tends {i : Nat} (absent : ∀ k, s.stands i k = false) {x : Option Slot}
    (lost : ∀ y, x = some y → LostIfInUse s i → y.flags.lost = true) :
    Tends s (s.setSlot i x) where
  evaluated k h := h.setSlot (absent k) x
  relisted k := .inl rfl
  lost j h := fun y hy => by
    rcases s.slot_setSlot_cases i j x with same | ⟨rfl, own⟩
    · exact h y (same ▸ hy)
    · exact lost y (own.symm.trans hy) h
  offered := ⟨[], .of_same rfl rfl rfl rfl rfl rfl rfl⟩

theorem State.leaveAll_queues (i : Nat) : Queues s (s.leaveAll i) [] := .of_same rfl rfl rfl rfl rfl rfl rfl

/-- A slot leaves every claim list, and the points it stood at re-evaluate. -/
theorem State.left_standsEvaluated {i k : Nat} (h : s.stands i k = true ∨ StandsEvaluated s k) :
    StandsEvaluated ((s.leaveAll i).reevaluateAll (s.standing i)) k := by
  refine State.reevaluateAll_standsEvaluated _ ?_
  cases stood : s.stands i k with
  | true => exact .inl (State.mem_standing.mpr stood)
  | false => exact .inr ((h.resolve_left (by simp [stood])).leaveAll stood)

theorem State.left_tends (i : Nat) : Tends s ((s.leaveAll i).reevaluateAll (s.standing i)) where
  evaluated k h := s.left_standsEvaluated (.inr h)
  relisted k := by
    cases stood : s.stands i k with
    | true => exact .inr (s.left_standsEvaluated (.inl stood))
    | false => exact .inl (Eq.trans (by simp [State.claimList]) (State.claimList_leaveAll_absent stood))
  lost j h := h.of_slots (by simp)
  offered := ⟨[], (s.leaveAll_queues i).after (State.reevaluateAll_queues _ _)⟩

theorem State.left_stands (i k : Nat) : ((s.leaveAll i).reevaluateAll (s.standing i)).stands i k = false := by
  have := s.leaveAll_stands i k
  simpa [State.stands, State.claimList] using this

theorem State.release_tends {i : Nat} (absent : ∀ k, s.stands i k = false) : Tends s (s.release i) := by
  unfold State.release State.updSlot
  cases hx : s.slot i with
  | none => exact .refl s
  | some x =>
    refine s.setSlot_tends absent fun y e lost => ?_
    cases e
    exact lost x hx

/-! ### Slots that become LOST (R96) -/

theorem State.dropped_tends (i : Nat) (x : Slot) : Tends s (s.dropped i x) where
  evaluated k h := by
    obtain ⟨u, hu⟩ : ∃ u, u = s.setSlot i (some { x with flags := { x.flags with lost := true }, unresolved := none }) := ⟨_, rfl⟩
    have left : StandsEvaluated ((u.leaveAll i).reevaluateAll (u.standing i)) k := by
      refine u.left_standsEvaluated ?_
      cases stood : s.stands i k with
      | true => exact .inl (by rw [hu]; exact stood)
      | false => exact .inr (by rw [hu]; exact h.setSlot stood _)
    rw [hu] at left
    exact left
  relisted := (State.left_tends (s.setSlot i (some { x with flags := { x.flags with lost := true }, unresolved := none })) i).relisted
  lost j h := by
    refine LostIfInUse.of_slots (s := s.setSlot i (some { x with flags := { x.flags with lost := true }, unresolved := none })) ?_
      (by simp [State.dropped])
    intro y hy
    rcases s.slot_setSlot_cases i j _ with same | ⟨rfl, own⟩
    · exact h y (same ▸ hy)
    · cases own.symm.trans hy
      rfl
  offered := ⟨[], (Queues.of_same rfl rfl rfl rfl rfl rfl rfl : Queues s (State.leaveAll (s.setSlot i _) i) []).after
    (State.reevaluateAll_queues _ _)⟩

theorem State.becomeLost_tends (i : Nat) (cause : LostCause) (reported : Bool) : Tends s (s.becomeLost i cause reported) := by
  cases hx : s.slot i with
  | none => simpa [State.becomeLost, hx] using Tends.refl s
  | some x =>
    cases held : x.flags.lost with
    | true =>
      rw [State.becomeLost_lost hx held]
      exact .refl s
    | false =>
      have absent (k : Nat) : (s.dropped i x).stands i k = false := (s.setSlot i _).left_stands i k
      have gone := (s.dropped_tends i x).trans ((s.dropped i x).setSlot_tends absent (x := some x.gone) fun y e _ => by
        cases e
        rfl)
      rw [State.becomeLost_eq hx held]
      split
      · exact gone.trans (State.offer_tends _ _)
      · exact gone

theorem State.becomeLost_lostIfInUse (i : Nat) (cause : LostCause) (reported : Bool) : LostIfInUse (s.becomeLost i cause reported) i := by
  cases hx : s.slot i with
  | none => exact fun y hy => by simp [State.becomeLost, hx] at hy
  | some x =>
    cases held : x.flags.lost with
    | true =>
      rw [State.becomeLost_lost hx held]
      intro y hy
      cases hx.symm.trans hy
      exact held
    | false =>
      intro y hy
      cases (State.becomeLost_self hx held cause reported).symm.trans hy
      rfl

/-- Of slots that become LOST one after the other each is LOST in the end. -/
theorem State.becomeLost_foldl (cause : LostCause) (reported : Bool) {l : List Nat} {j : Nat} (m : j ∈ l) (s : State) :
    LostIfInUse (l.foldl (fun a i => a.becomeLost i cause reported) s) j := by
  induction l generalizing s with
  | nil => cases m
  | cons i l ih =>
    rcases List.mem_cons.mp m with rfl | m
    · exact (Tends.foldl (fun a i => a.becomeLost_tends i cause reported) l _).lost j (s.becomeLost_lostIfInUse j cause reported)
    · exact ih m _

/-! ### Disturbances (R53) -/

/-- A section DISTURBED by a run removal: its record, where it has one, stays. -/
def Section.overflown (x : Section) : Section := { x with disturbance := some (x.disturbance.getD ⟨.runOverflow, none, none⟩) }

/-- A run removal disturbs a section. -/
def State.overflow (s : State) (id : SectionId) : State := s.disturb id .runOverflow none none .unknown

theorem State.overflow_disturbed {id : SectionId} {x : Disturbance} (disturbed : (s.sec id).disturbance = some x) : s.overflow id = s := by
  simp [State.overflow, State.disturb, disturbed]

/-- A NORMAL section takes the record, its slots become LOST, and SECTION_DISTURBED is offered. -/
theorem State.overflow_normal {id : SectionId} (normal : (s.sec id).disturbance = none) :
    s.overflow id = (((s.disturbedSlots id .unknown).foldl (fun a i => a.becomeLost i (.sec id) false) (s.setSec id (s.sec id).overflown)).offer
      (.sectionDisturbed id .runOverflow none none (s.disturbedSlots id .unknown))) := by
  simp [State.overflow, State.disturb, normal, Section.overflown]

theorem State.mem_disturbedSlots {s : State} {id : SectionId} {j : Nat} : j ∈ s.disturbedSlots id .unknown
    ↔ (1 ≤ j ∧ j ≤ 16) ∧ (s.sec id).holds j = true ∧ ∃ x, s.slot j = some x ∧ x.flags.lost = false := by
  cases hx : s.slot j <;> simp [State.disturbedSlots, State.isLost, hx]

theorem State.sec_setSec_cases (id k : SectionId) (x : Section) :
    (s.setSec id x).sec k = s.sec k ∨ (k = id ∧ (s.setSec id x).sec k = x) := by
  rcases eq_or_ne k id with rfl | other
  · by_cases inside : k.inRange = true
    · exact .inr ⟨rfl, s.sec_setSec_self k x inside⟩
    · rw [State.sec_outside _ inside, State.sec_outside _ inside]
      exact .inl rfl
  · exact .inl (s.sec_setSec_ne x other)

theorem State.setSec_overflown_tends (id : SectionId) : Tends s (s.setSec id (s.sec id).overflown) where
  evaluated k h := by
    rw [State.setSec_eq]
    refine h.sections fun clear => ?_
    rw [← State.setSec_eq] at clear
    rcases s.sec_setSec_cases id (.guard k) (s.sec id).overflown with same | ⟨-, put⟩
    · rwa [State.guardClear, same, ← State.guardClear] at clear
    · rw [State.guardClear, put] at clear
      cases clear
  relisted k := .inl (by simp [State.claimList])
  lost j h := h.of_slots (by simp)
  offered := ⟨[], s.setSec_queues id _⟩

theorem State.overflow_tends (id : SectionId) : Tends s (s.overflow id) := by
  cases h : (s.sec id).disturbance with
  | some x =>
    rw [s.overflow_disturbed h]
    exact .refl s
  | none =>
    rw [s.overflow_normal h]
    refine ((s.setSec_overflown_tends id).trans (.foldl (fun a i => a.becomeLost_tends i _ false) _ _)).trans (State.offer_tends _ _)

theorem State.overflow_sec {id : SectionId} (inside : id.inRange = true) (k : SectionId) :
    (s.overflow id).sec k = if k = id then (s.sec k).overflown else s.sec k := by
  cases h : (s.sec id).disturbance with
  | some x =>
    rw [s.overflow_disturbed h]
    split
    · subst ‹k = id›
      rw [Section.overflown, h, Option.getD_some, ← h]
    · rfl
  | none =>
    have sections (l : List Nat) : ∀ a : State, (l.foldl (fun a i => a.becomeLost i (.sec id) false) a).sections = a.sections := by
      induction l with
      | nil => exact fun a => rfl
      | cons i l ih => exact fun a => (ih _).trans (by simp)
    rw [s.overflow_normal h, State.sec_congr (State.offer_onlySends _ _).sections, State.sec_congr (sections _ _)]
    split
    · subst ‹k = id›
      exact s.sec_setSec_self k _ inside
    · exact s.sec_setSec_ne _ ‹_›

/-- The slots with a run in it are LOST. -/
theorem State.overflow_lost {id : SectionId} (normal : (s.sec id).disturbance = none) {j : Nat} (held : (s.sec id).holds j = true) :
    LostIfInUse (s.overflow id) j := by
  rw [s.overflow_normal normal]
  refine (State.offer_tends _ _).lost j ?_
  by_cases m : j ∈ s.disturbedSlots id .unknown
  · exact State.becomeLost_foldl _ _ m _
  · refine (Tends.foldl (fun a i => a.becomeLost_tends i _ false) _ _).lost j ((s.setSec_overflown_tends id).lost j fun x hx => ?_)
    exact Bool.of_not_eq_false fun held_ => m (State.mem_disturbedSlots.mpr ⟨State.slot_inside hx, held, x, hx, held_⟩)

end

end Sys2Proof.Machine

/-! PROOF. SLOT_DROP, with the removal of the slot's runs, SECTION_RESTORE and RESTORE_ALL (R57 to R59, R98, R106). -/

namespace Sys2Proof.Machine

/-! ### The overflowing sections disturbed (R59) -/

/-- The sections `done` have been disturbed by a run removal that left `c`. -/
structure Overflowing (c d : State) (done : List SectionId) : Prop where
  tends : Tends c d
  sections : ∀ id, d.sec id = if id ∈ done then (c.sec id).overflown else c.sec id
  lost : ∀ id ∈ done, (c.sec id).disturbance = none → ∀ j, (c.sec id).holds j = true → LostIfInUse d j

theorem Overflowing.refl (c : State) : Overflowing c c [] := ⟨.refl c, fun _ => by simp, fun _ m => absurd m List.not_mem_nil⟩

theorem Overflowing.step {c d : State} {done : List SectionId} {id : SectionId} (h : Overflowing c d done) (inside : id.inRange = true)
    (new : id ∉ done) : Overflowing c (d.overflow id) (done ++ [id]) where
  tends := h.tends.trans (d.overflow_tends id)
  sections k := by
    rw [d.overflow_sec inside, h.sections]
    rcases eq_or_ne k id with rfl | other
    · simp [new]
    · simp [other]
  lost k m normal j held := by
    rcases List.mem_append.mp m with m | m
    · exact (d.overflow_tends id).lost j (h.lost k m normal j held)
    · obtain rfl : k = id := List.mem_singleton.mp m
      have same : d.sec k = c.sec k := (h.sections k).trans (if_neg new)
      exact d.overflow_lost (by rw [same]; exact normal) (by rw [same]; exact held)

theorem Overflowing.foldl {c : State} (l : List SectionId) : ∀ {d : State} {done : List SectionId}, Overflowing c d done →
    (done ++ l).Nodup → (∀ id ∈ l, id.inRange = true) → Overflowing c (l.foldl State.overflow d) (done ++ l) := by
  induction l with
  | nil => exact fun h _ _ => by rwa [List.append_nil]
  | cons id l ih =>
    intro d done h distinct inside
    have new : id ∉ done := fun m => (List.nodup_append.mp distinct).2.2 id m id List.mem_cons_self rfl
    have := ih (h.step (inside id List.mem_cons_self) new) (by rwa [List.append_assoc]) fun k m => inside k (.tail _ m)
    rwa [List.append_assoc] at this

/-! ### The runs of a slot removed (R59) -/

/-- The sections cut, and the overflowing ones disturbed. -/
def State.trimmed (s : State) (i : Nat) : State := (s.overflowing i).foldl State.overflow (s.cutRuns i)

/-- The points whose guards a removal makes clear. -/
def State.opened (s : State) (i : Nat) : List Nat := (ids 63).filter fun p => !s.guardClear p && (s.trimmed i).guardClear p

section
variable {s : State} {i : Nat}

theorem State.mem_overflowing {id : SectionId} : id ∈ s.overflowing i ↔ (s.sec id).holds i = true
    ∧ (((s.sec id).without i).any fun r => decide (Config.axleCap < r.count)) = true := by
  rw [State.overflowing, List.mem_filter, mem_allSections, Bool.and_eq_true, and_iff_right_iff_imp]
  rintro ⟨holds, -⟩
  refine Classical.byContradiction fun outside => ?_
  rw [s.sec_outside outside] at holds
  cases holds

variable (s i)

theorem State.trimmed_overflowing : Overflowing (s.cutRuns i) (s.trimmed i) (s.overflowing i) :=
  (Overflowing.refl _).foldl (s.overflowing i) (by rw [List.nil_append]; exact allSections_nodup.filter _) fun _ m =>
    mem_allSections.mp (List.mem_of_mem_filter m)

theorem State.trimmed_sec (id : SectionId) :
    (s.trimmed i).sec id = if id ∈ s.overflowing i then ((s.sec id).cut i).overflown else (s.sec id).cut i := by
  rw [(s.trimmed_overflowing i).sections, s.cutRuns_sec]

/-- The runs are those left of the section, disturbed or not. -/
theorem State.trimmed_runs (id : SectionId) : ((s.trimmed i).sec id).runs = ((s.sec id).cut i).runs := by
  rw [s.trimmed_sec]
  split <;> rfl

theorem State.trimmed_holds (id : SectionId) : ((s.trimmed i).sec id).holds i = false := by
  rw [Section.holds, s.trimmed_runs, ← Section.holds]
  exact Section.cut_holds _ i

theorem State.trimmed_absent {id : SectionId} (absent : (s.sec id).holds i = false) : (s.trimmed i).sec id = s.sec id := by
  have out : id ∉ s.overflowing i := fun m => by
    rw [(State.mem_overflowing.mp m).1] at absent
    cases absent
  rw [s.trimmed_sec, if_neg out, Section.cut_of_absent absent]

/-- A guard that the removal of the runs leaves clear does not overflow. -/
theorem State.trimmed_clear {k : Nat} (clear : (s.cutRuns i).guardClear k = true) : (s.trimmed i).guardClear k = true := by
  have out : SectionId.guard k ∉ s.overflowing i := fun m => by
    obtain ⟨holds, exceeds⟩ := State.mem_overflowing.mp m
    rw [State.guardClear, s.cutRuns_sec, Section.cut, if_pos holds] at clear
    exact Section.exceeding_occupied exceeds (List.isEmpty_iff.mp (Bool.and_eq_true_iff.mp clear).2)
  rw [State.guardClear, s.trimmed_sec, if_neg out, ← s.cutRuns_sec, ← State.guardClear]
  exact clear

/-- A guard that was clear stays so. -/
theorem State.trimmed_stays {k : Nat} (clear : s.guardClear k = true) : (s.trimmed i).guardClear k = true := by
  have empty : (s.sec (.guard k)).runs = [] := List.isEmpty_iff.mp (Bool.and_eq_true_iff.mp clear).2
  rw [State.guardClear, s.trimmed_absent i (by simp [Section.holds, empty]), ← State.guardClear]
  exact clear

/-- Where a clear guard has stayed so, a point is told of no other change than that its guard has become clear. -/
theorem State.guardChange_opened {s : State} {p : Nat} {before : Bool} (stays : before = true → s.guardClear p = true) :
    s.guardChange p before = if !before && s.guardClear p then s.reevaluate p else s := by
  unfold State.guardChange
  cases before with
  | true => simp [stays rfl]
  | false => cases s.guardClear p <;> rfl

theorem State.removeRuns_eq : s.removeRuns i = (s.trimmed i).reevaluateAll (s.opened i) := by
  have fold (l : List Nat) : ∀ a : State, a.sections = (s.trimmed i).sections → l.foldl (fun a p => a.guardChange p (s.guardClear p)) a
      = a.reevaluateAll (l.filter fun p => !s.guardClear p && (s.trimmed i).guardClear p) := by
    induction l with
    | nil => exact fun a _ => rfl
    | cons p l ih =>
      intro a same
      have now : a.guardClear p = (s.trimmed i).guardClear p := by rw [State.guardClear, State.sec_congr same, ← State.guardClear]
      rw [List.foldl_cons, State.guardChange_opened fun clear => now.trans (s.trimmed_stays i clear), now, List.filter_cons]
      split
      · exact ih _ (by simpa using same)
      · exact ih a same
  exact fold (ids 63) (s.trimmed i) rfl

theorem State.removeRuns_sec (id : SectionId) : (s.removeRuns i).sec id = (s.trimmed i).sec id := by
  rw [s.removeRuns_eq]
  exact State.sec_congr (by simp) id

/-- From the removal of the runs on, the points are tended. -/
theorem State.removeRuns_tends : Tends (s.cutRuns i) (s.removeRuns i) := by
  rw [s.removeRuns_eq]
  exact (s.trimmed_overflowing i).tends.trans (State.reevaluateAll_tends _ _)

/-- A point stands evaluated that did so before, or whose guard has been made clear. -/
theorem State.removeRuns_standsEvaluated {k : Nat}
    (h : StandsEvaluated s k ∨ (s.guardClear k = false ∧ (s.removeRuns i).guardClear k = true)) : StandsEvaluated (s.removeRuns i) k := by
  have now : (s.removeRuns i).guardClear k = (s.trimmed i).guardClear k := by
    rw [State.guardClear, s.removeRuns_sec, ← State.guardClear]
  rw [now] at h
  by_cases opens : s.guardClear k = false ∧ (s.trimmed i).guardClear k = true
  · rw [s.removeRuns_eq]
    refine State.reevaluateAll_standsEvaluated _ (.inl (List.mem_filter.mpr ⟨mem_ids.mpr ?_, by simp [opens]⟩))
    refine Classical.byContradiction fun outside => ?_
    have clear : s.guardClear k = true := by
      rw [State.guardClear, s.sec_outside (id := .guard k) (by simpa [SectionId.inRange] using outside)]
      rfl
    rw [opens.1] at clear
    cases clear
  · refine (s.removeRuns_tends i).evaluated k ?_
    obtain ⟨sections, cut⟩ := s.cutRuns_eq i
    have clear (after : (s.cutRuns i).guardClear k = true) : s.guardClear k = true :=
      Bool.of_not_eq_false fun before => opens ⟨before, s.trimmed_clear i after⟩
    rw [cut] at clear ⊢
    exact (h.resolve_right opens).sections clear

/-- A section that held runs of the slot is left as R59 has it. -/
theorem State.removeRuns_removed {id : SectionId} (held : (s.sec id).holds i = true) : RunsRemoved s (s.removeRuns i) i id := by
  obtain ⟨groups, joined, exceeds⟩ := (s.sec id).without_joined i
  have runs : ((s.removeRuns i).sec id).runs = capRuns ((s.sec id).without i) := by
    rw [s.removeRuns_sec, s.trimmed_runs, Section.cut, if_pos held]
  have overflows : id ∈ s.overflowing i ↔ ∃ g ∈ groups, 127 < (g.map Run.count).sum := by
    rw [State.mem_overflowing, ← exceeds, and_iff_right held]
  refine ⟨groups, by rwa [runs], ?_⟩
  rw [s.removeRuns_sec, s.trimmed_sec]
  split
  · rename_i large
    have listed := overflows.mpr large
    refine ⟨by rw [if_pos listed, Section.overflown, Section.cut_disturbance], fun normal r m k own => ?_⟩
    rw [s.removeRuns_eq]
    refine (State.reevaluateAll_tends _ _).lost k ((s.trimmed_overflowing i).lost id listed ?_ k ?_)
    · rw [s.cutRuns_sec, Section.cut_disturbance, normal]
    · rw [if_pos listed] at m
      rw [s.cutRuns_sec]
      exact Section.holds_iff.mpr ⟨r, m, own⟩
  · rename_i small
    rw [if_neg (mt overflows.mp small), Section.cut_disturbance]

theorem RunsRemoved.later {s u t : State} {i : Nat} {id : SectionId} (h : RunsRemoved s u i id) (same : t.sec id = u.sec id)
    (lost : ∀ k, LostIfInUse u k → LostIfInUse t k) : RunsRemoved s t i id := by
  obtain ⟨groups, joined, rest⟩ := h
  refine ⟨groups, by rwa [same], ?_⟩
  rw [same]
  split
  · rename_i large
    rw [if_pos large] at rest
    exact ⟨rest.1, fun normal r m k own => lost k (rest.2 normal r m k own)⟩
  · rename_i small
    rwa [if_neg small] at rest

theorem RunsRemoved.congr {s u t : State} {i : Nat} {id : SectionId} (h : RunsRemoved u t i id) (same : u.sec id = s.sec id) :
    RunsRemoved s t i id := by
  unfold RunsRemoved at h ⊢
  rwa [← same]

/-! ### The slot given up (R98) -/

/-- The slot's claims and its reservation given up, and its points evaluated. -/
def State.relinquished : State := ((s.leaveAll i).reevaluateAll (s.standing i)).release i

/-- The slot free and the binder told of it. -/
def State.vacated : State := (((s.relinquished i).removeRuns i).freeUp i).binderLoses i

theorem State.dropSlot_eq (x : Slot) : s.dropSlot i x = (s.vacated i).offer (.cutDropped (some i) x.number .slotDrop) := rfl

theorem State.relinquished_tends : Tends s (s.relinquished i) := (s.left_tends i).trans (State.release_tends _ (s.left_stands i))

theorem State.relinquished_sec (id : SectionId) : (s.relinquished i).sec id = s.sec id := State.sec_congr (by simp [State.relinquished]) id

theorem State.relinquished_stands (k : Nat) : (s.relinquished i).stands i k = false := (State.release_sheds _ i).absent (s.left_stands i) k

theorem State.relinquished_standsEvaluated {k : Nat} (stood : s.stands i k = true) : StandsEvaluated (s.relinquished i) k :=
  (State.release_tends _ (s.left_stands i)).evaluated k (s.left_standsEvaluated (.inl stood))

theorem State.removed_stands (k : Nat) : ((s.relinquished i).removeRuns i).stands i k = false :=
  (State.removeRuns_sheds _ i).absent (s.relinquished_stands i) k

theorem State.freeUp_tends (absent : ∀ k, s.stands i k = false) : Tends s (s.freeUp i) where
  evaluated k h := h.freeUp (absent k)
  relisted k := .inl (by simp [State.claimList])
  lost j h := by
    refine LostIfInUse.of_slots (s := s.setSlot i none) ((s.setSlot_tends absent fun y e _ => absurd e.symm (Option.some_ne_none y)).lost j h) ?_
    simp [State.freeUp]
  offered := ⟨[], (Queues.of_same rfl rfl rfl rfl rfl rfl rfl : Queues s (s.setSlot i none) []).after (State.recompute_queues _)⟩

theorem State.binderLoses_tends : Tends s (s.binderLoses i) := by
  unfold State.binderLoses
  split
  · exact ⟨fun k h => h.of_same ⟨rfl, rfl, rfl, fun _ _ => rfl, rfl⟩ (.inl rfl), fun _ => .inl rfl, fun _ h => h, [],
      .of_same rfl rfl rfl rfl rfl rfl rfl⟩
  · exact .refl s

theorem State.vacated_tends : Tends ((s.relinquished i).removeRuns i) (s.vacated i) :=
  (State.freeUp_tends _ i (s.removed_stands i)).trans (State.binderLoses_tends _ i)

theorem State.vacated_sec (id : SectionId) : (s.vacated i).sec id = ((s.relinquished i).removeRuns i).sec id :=
  State.sec_congr (by simp [State.vacated]) id

theorem State.vacated_stands (k : Nat) : (s.vacated i).stands i k = false := by
  have claims : (s.vacated i).claims = ((s.relinquished i).removeRuns i).claims := by simp [State.vacated]
  rw [State.stands, State.claimList, claims]
  exact s.removed_stands i k

theorem State.vacated_slot {i : Nat} (inside : 1 ≤ i ∧ i ≤ 16) : (s.vacated i).slot i = none := by
  have slots : (s.vacated i).slots = (((s.relinquished i).removeRuns i).freeUp i).slots := by simp [State.vacated]
  rw [State.slot, slots]
  exact State.freeUp_slot _ inside

theorem State.vacated_queues : ∃ bodies, Queues s (s.vacated i) bodies := by
  obtain ⟨a, first⟩ := (s.relinquished_tends i).offered
  obtain ⟨b, second⟩ := ((State.removeRuns_tends _ i).trans (s.vacated_tends i)).offered
  obtain ⟨sections, cut⟩ := (s.relinquished i).cutRuns_eq i
  have quiet : Queues (s.relinquished i) ((s.relinquished i).cutRuns i) [] := by
    rw [cut]
    exact .of_same rfl rfl rfl rfl rfl rfl rfl
  exact ⟨_, (first.before quiet).trans second⟩

theorem State.vacated_binder : (s.vacated i).binder = if s.binder.state = .tracked i then { s.binder with state := .untracked } else s.binder := by
  have same : (((s.relinquished i).removeRuns i).freeUp i).binder = s.binder := by simp [State.relinquished]
  unfold State.vacated State.binderLoses
  rw [same]
  split
  · rfl
  · exact same

/-- The points whose lists it stood in or are changed, and those whose guards it leaves clear, stand evaluated. -/
theorem State.vacated_standsEvaluated {k : Nat} (h : s.stands i k = true ∨ (s.vacated i).claimList k ≠ s.claimList k
    ∨ (s.guardClear k = false ∧ (s.vacated i).guardClear k = true)) : StandsEvaluated (s.vacated i) k := by
  have tends := (State.removeRuns_tends (s.relinquished i) i).trans (s.vacated_tends i)
  have before : (s.relinquished i).guardClear k = s.guardClear k := by rw [State.guardClear, s.relinquished_sec, ← State.guardClear]
  have after : (s.vacated i).guardClear k = ((s.relinquished i).removeRuns i).guardClear k := by
    rw [State.guardClear, s.vacated_sec, ← State.guardClear]
  rw [after, ← before] at h
  have evaluated (k' : StandsEvaluated (s.relinquished i) k
      ∨ ((s.relinquished i).guardClear k = false ∧ ((s.relinquished i).removeRuns i).guardClear k = true)) : StandsEvaluated (s.vacated i) k :=
    (s.vacated_tends i).evaluated k (State.removeRuns_standsEvaluated _ i k')
  rcases h with stood | relisted | opened
  · exact evaluated (.inl (s.relinquished_standsEvaluated i stood))
  · rcases (s.relinquished_tends i).relisted k with same | stands
    · refine (tends.relisted k).resolve_left fun later => relisted ?_
      obtain ⟨sections, cut⟩ := (s.relinquished i).cutRuns_eq i
      rw [later, cut]
      exact same
    · exact evaluated (.inl stands)
  · exact evaluated (.inr opened)

end

/-! ### The request (R98) -/

theorem slotDrop_done {s : State} {i : Nat} {x : Slot} (hx : s.slot i = some x) (may : x.flags.lost = true ∨ x.flags.stalled = true) :
    slotDrop i s = (s.dropSlot i x, .done .plain) := by
  have droppable : x.droppable = true := Bool.or_eq_true_iff.mpr may
  simp [slotDrop, inRange_iff.mpr (State.slot_inside hx), hx, droppable, done]

theorem slotDrop_wrong {s : State} {i : Nat} (inside : 1 ≤ i ∧ i ≤ 16)
    (none_ : ∀ x, s.slot i = some x → x.flags.lost = false ∧ x.flags.stalled = false) : slotDrop i s = (s, .wrongState none) := by
  cases hx : s.slot i with
  | none => simp [slotDrop, inRange_iff.mpr inside, hx, refuse]
  | some x => simp [slotDrop, inRange_iff.mpr inside, hx, refuse, Slot.droppable, none_ x hx]

theorem slotDrop_outside {i : Nat} (outside : i = 0 ∨ 16 < i) (s : State) : slotDrop i s = (s, .badArgument) := by
  simp [slotDrop, inRange_false (a := 1) (b := 16) (x := i) (by omega), refuse]

section
variable {s : State} {q : Req} {m : Telegram} (holder : s.fromHolder q m)
include holder

theorem slotDrop_completes {i : Nat} {x : Slot} (hx : s.slot i = some x) (may : x.flags.lost = true ∨ x.flags.stalled = true) :
    ∃ t, exec (.slotDrop q i) s = .next t ∧ Answered s t q m .slotDrop (.done .plain) ∧ t.slot i = none
      ∧ (∀ p, t.stands i p = false) ∧ (∀ id, (t.sec id).holds i = false) ∧ (∀ id, (s.sec id).holds i = false → t.sec id = s.sec id)
      ∧ (∀ id, (s.sec id).holds i = true → (s.sec id).bounded → RunsRemoved s t i id)
      ∧ t.binder = (if s.binder.state = .tracked i then { s.binder with state := .untracked } else s.binder)
      ∧ t.cutList = s.cutList ∧ t.tables = s.tables ∧ t.mgmt = s.mgmt ∧ t.clock = s.clock
      ∧ (∀ k, s.stands i k = true ∨ t.claimList k ≠ s.claimList k ∨ (s.guardClear k = false ∧ t.guardClear k = true) →
          StandsEvaluated t k)
      ∧ ∃ others, Reported s t (others ++ [.cutDropped (some i) x.number .slotDrop]) := by
  obtain ⟨others, queues⟩ := s.vacated_queues i
  have effect := slotDrop_done hx may
  rw [s.dropSlot_eq] at effect
  obtain ⟨answered, sends, offers⟩ := State.controlled_done (code := .slotDrop) holder effect (queues.trans (State.offer_queues _ _))
  have sent := (State.offer_onlySends _ _).trans sends
  have sec (id : SectionId) : _ = ((s.relinquished i).trimmed i).sec id :=
    (State.sec_congr sent.sections id).trans ((s.vacated_sec i id).trans (State.removeRuns_sec _ i id))
  refine ⟨_, rfl, answered, ?_, fun p => ?_, fun id => ?_, fun id absent => ?_, fun id held _ => ?_, ?_, ?_, ?_, ?_, ?_, fun k h => ?_, others,
    offers.reported⟩
  · rw [State.slot, sent.slots]
    exact s.vacated_slot (State.slot_inside hx)
  · rw [State.stands, State.claimList, sent.claims]
    exact s.vacated_stands i p
  · rw [sec]
    exact State.trimmed_holds _ i id
  · rw [← s.relinquished_sec i id] at absent ⊢
    rw [sec, State.trimmed_absent _ i absent]
  · rw [← s.relinquished_sec i id] at held
    have removed := (State.removeRuns_removed _ i held).congr (s.relinquished_sec i id)
    exact removed.later ((State.sec_congr sent.sections id).trans (s.vacated_sec i id)) fun k lost =>
      ((s.vacated_tends i).lost k lost).of_slots sent.slots
  · rw [sent.binder, s.vacated_binder]
  · rw [sent.cutList]
    simp [State.vacated, State.relinquished]
  · rw [sent.tables]
    simp [State.vacated, State.relinquished]
  · rw [sent.mgmt]
    simp [State.vacated, State.relinquished]
  · rw [sent.clock]
    simp [State.vacated, State.relinquished]
  · refine (s.vacated_standsEvaluated i ?_).sends sent
    rwa [State.claimList, sent.claims, ← State.claimList, (sent.quiet.sameOutlook k).guardClear] at h

end

/-- Settles O19: a drop is followed from the claims given up to the points told of their guards, a restoring section by section. -/
theorem slotDropAndRestoresComplete : Obligations.SlotDropAndRestoresComplete := by
  unfold Obligations.SlotDropAndRestoresComplete
  refine ⟨fun q m s i holder => ⟨fun x _ _ hx may => slotDrop_completes holder hx may,
      fun low high none_ => ⟨_, rfl, State.controlled_unchanged holder (slotDrop_wrong ⟨low, high⟩ none_)⟩,
      fun outside => ⟨_, rfl, State.controlled_unchanged holder (slotDrop_outside outside s)⟩⟩,
    fun q m s holder => ⟨fun id inside disturbed => sectionRestore_completes holder inside disturbed,
      fun id inside normal => ⟨_, rfl, State.controlled_unchanged holder (sectionRestore_normal inside normal)⟩,
      fun id outside => ⟨_, rfl, State.controlled_unchanged holder (sectionRestore_outside outside s)⟩, restoreAll_completes holder⟩⟩

end Sys2Proof.Machine

/-! SUPPORT. What a port's selection leaves of the link interface: the link counts, the other port, and the pass queue (R44, R153, R158). -/

namespace Sys2Proof.Machine

/-- The two link counts that an AXLE can raise are as they were. -/
def CountsKept (s t : State) : Prop := t.link.unmapped = s.link.unmapped ∧ t.link.forwardingLoss = s.link.forwardingLoss

theorem CountsKept.trans {s t u : State} (h : CountsKept s t) (k : CountsKept t u) : CountsKept s u :=
  ⟨k.1.trans h.1, k.2.trans h.2⟩

theorem State.setPort_countsKept (s : State) (p : Port) (x : PortState) : CountsKept s (s.setPort p x) := by
  simp [CountsKept]

theorem State.begin_countsKept (s : State) (p : Port) (c : Choice) : CountsKept s (s.begin p c) := by
  cases c with
  | nothing => exact ⟨rfl, rfl⟩
  | fill | pass => exact s.setPort_countsKept p _
  | signal | response | report => exact .trans ⟨rfl, rfl⟩ (State.setPort_countsKept _ p _)
  | throw c =>
    simp only [State.begin, State.startThrow]
    split
    · exact .trans (by simp [CountsKept]) (State.setPort_countsKept _ .t _)
    · exact ⟨rfl, rfl⟩

theorem State.select_countsKept (s : State) (p : Port) : CountsKept s (s.select p) := s.begin_countsKept p _

theorem State.freeBuffer_countsKept (s : State) (p : Port) : CountsKept s (s.freeBuffer p) :=
  (s.setPort_countsKept p _).trans (State.select_countsKept _ p)

theorem State.movePass_countsKept (s : State) (p : Port) : CountsKept s (s.movePass p) := by
  by_cases h : s.nonePasses p
  · rw [State.movePass_idle h]
    exact ⟨rfl, rfl⟩
  · obtain ⟨h, room⟩ := not_or.mp h
    obtain ⟨m, hm⟩ := Option.ne_none_iff_exists'.mp h
    rw [State.movePass_eq hm (Nat.not_le.mp room)]
    have placed : CountsKept s (s.placePass p m) := (s.setPort_countsKept p _).trans (State.setPort_countsKept _ _ _)
    exact (placed.trans (State.select_countsKept _ _)).trans (State.freeBuffer_countsKept _ p)

theorem State.handleEarlier_countsKept (s : State) (p : Port) : CountsKept s (s.handleEarlier p) := by
  have moves (n : Nat) : ∀ s : State, CountsKept s (s.movePasses p n) := by
    induction n with
    | zero => exact fun s => ⟨rfl, rfl⟩
    | succ n ih => exact fun s => (s.movePass_countsKept p).trans (ih _)
  exact moves _ s

/-- Port T's selection does not reach Port Y. -/
theorem State.select_t_y (s : State) : (s.select .t).link.y = s.link.y := by
  unfold State.select
  cases s.choice .t with
  | nothing | fill | signal | response | report | pass => rfl
  | throw c =>
    simp only [State.begin]
    split <;> rfl

theorem State.freeBuffer_t_y (s : State) : (s.freeBuffer .t).link.y = s.link.y := State.select_t_y _

/-- No own class gives a telegram that is passed on. -/
theorem State.ownChoice_ne_pass (s : State) (p : Port) (m : Telegram) : s.ownChoice p ≠ some (.pass m) := by
  intro own
  unfold State.ownChoice at own
  cases p <;> simp only at own <;> repeat' split at own
  all_goals simp_all

/-- A selection that passes a telegram on takes the head of the pass queue. -/
theorem State.choice_pass {s : State} {p : Port} {m : Telegram} (h : s.choice p = .pass m) : ∃ rest, (s.port p).passQueue = m :: rest := by
  have own := s.ownChoice_ne_pass p m
  simp only [State.choice] at h
  repeat' split at h
  all_goals simp_all

/-- Port Y's selection takes nothing from its pass queue but the head, which it then sends. -/
theorem State.select_y_passQueue (s : State) : (s.select .y).link.y.passQueue = s.link.y.passQueue
    ∨ ∃ x m, (s.select .y).link.y.sending = some x ∧ x.body = .passed m ∧ m :: (s.select .y).link.y.passQueue = s.link.y.passQueue := by
  unfold State.select
  cases e : s.choice .y with
  | nothing | fill | signal | response | report => exact .inl rfl
  | throw c => exact absurd (State.choice_throw e).1 nofun
  | pass m =>
    obtain ⟨rest, queue⟩ : ∃ rest, s.link.y.passQueue = m :: rest := State.choice_pass e
    refine .inr ⟨_, m, rfl, rfl, ?_⟩
    simp [State.begin, State.port, State.setPort, PortState.startPass, queue]

/-! ### The copy of a consumed broadcast (R151, R153) -/

/-- Without forwarding there is no copy. -/
theorem State.forward_off {s : State} (off : s.tables.params.forwardAll = false) (m : Telegram) : s.forward m = s := by
  simp [State.forward, off]

/-- The copy goes last to Port Y's pass queue, or begins at once. -/
theorem State.forward_placed {s v : State} (all : s.tables.params.forwardAll = true) (y : s.link.y = v.link.y)
    (room : v.link.y.passQueue.length < 16) (m : Telegram) : PassPlaced v (s.forward m) .y m := by
  simp only [State.forward, all, Bool.not_true, Bool.false_eq_true, if_false, y, if_pos (show _ < Config.passQueueRoom from room)]
  exact State.select_y_passQueue _

theorem State.forward_countsKept {s : State} (room : s.link.y.passQueue.length < 16) (m : Telegram) : CountsKept s (s.forward m) := by
  unfold State.forward
  split
  · exact ⟨rfl, rfl⟩
  · rw [if_pos (show _ < Config.passQueueRoom from room)]
    exact .trans ⟨rfl, rfl⟩ (State.select_countsKept _ .y)

/-- A full pass queue takes no copy, which is counted. -/
theorem State.forward_full {s : State} (all : s.tables.params.forwardAll = true) (full : 16 ≤ s.link.y.passQueue.length) (m : Telegram) :
    s.forward m = { s with link := { s.link with forwardingLoss := min 65535 (s.link.forwardingLoss + 1) } } := by
  simp only [State.forward, all, Bool.not_true, Bool.false_eq_true, if_false, if_neg (Nat.not_lt.mpr (show Config.passQueueRoom ≤ _ from full))]
  rfl

theorem State.forward_unmapped (s : State) (m : Telegram) : (s.forward m).link.unmapped = s.link.unmapped := by
  rcases Nat.lt_or_ge s.link.y.passQueue.length 16 with room | full
  · exact (State.forward_countsKept room m).1
  · cases all : s.tables.params.forwardAll with
    | false => rw [State.forward_off all]
    | true => rw [State.forward_full all full]

end Sys2Proof.Machine
/-! PROOF. Settles O34: an AXLE without a role is consumed without effect but the unmapped count, and only the copy and the freed
buffer reach the ports (R44, R151 to R154). -/

namespace Sys2Proof.Machine

/-- An AXLE handed on in CONFIG, or of an unmapped detector, raises the unmapped count at most (R44). -/
def State.idleAxle (u : State) : State :=
  if u.engine.state = .config then u else { u with link := { u.link with unmapped := min 65535 (u.link.unmapped + 1) } }

theorem State.axle_idle {u : State} {d : Nat} (idle : u.engine.state = .config ∨ u.joint d = none) (dir : Direction) (age : Nat) :
    u.axle d dir age = u.idleAxle := by
  unfold State.axle State.idleAxle
  cases e : u.engine.state with
  | config => rfl
  | run | halted =>
    have unmapped : u.joint d = none := idle.resolve_left (by simp [e])
    simp only [unmapped, reduceCtorEq, if_false]
    rfl

theorem State.idleAxle_onlySends (u : State) : OnlySends u u.idleAxle := by
  unfold State.idleAxle
  split
  · exact .refl u
  · exact .of_eq rfl

theorem State.idleAxle_y (u : State) : u.idleAxle.link.y = u.link.y := by
  unfold State.idleAxle
  split <;> rfl

theorem State.idleAxle_tables (u : State) : u.idleAxle.tables = u.tables := (u.idleAxle_onlySends).tables

theorem State.idleAxle_forwardingLoss (u : State) : u.idleAxle.link.forwardingLoss = u.link.forwardingLoss := by
  unfold State.idleAxle
  split <;> rfl

theorem State.idleAxle_unmapped (u : State) :
    u.idleAxle.link.unmapped = if u.engine.state = .config then u.link.unmapped else min 65535 (u.link.unmapped + 1) := by
  unfold State.idleAxle
  split <;> rfl

/-- Credits that make no selection: only Port T's credit count changes. -/
theorem State.takeCredits_t {v : State} {n : Nat} (noRise : v.link.t.credits ≠ 0 ∨ n = 0) : v.takeCredits .t n = v.addCredits .t n := by
  unfold State.takeCredits
  refine if_neg fun ⟨broke, returned⟩ => ?_
  rcases noRise with h | h
  · exact h broke
  · omega

/-- An AXLE is consumed, copied and its buffer freed. -/
theorem State.receive_axle {s : State} {frame : List Byte} {r : Received} {d age : Nat} {dir : Direction}
    (room : (s.handleEarlier .t).link.t.waiting.length < 8) (read : readFrame .t frame = .ok r)
    (broadcast : r.telegram.isTracksideBroadcast .t = true) (kind : r.telegram.kind = kindAxle)
    (parsed : parseAxle r.telegram.payload = some (d, dir, age)) :
    exec (.telegramReceived .t false frame) s
      = .next (((((s.handleEarlier .t).takeCredits .t r.credits).axle d dir age).forward r.telegram).freeBuffer .t) := by
  have few : ¬Config.receiveBuffers ≤ ((s.handleEarlier .t).port .t).waiting.length := Nat.not_le_of_lt room
  have notFill : r.telegram.kind ≠ kindFill := kind ▸ by decide
  refine congrArg Host.Outcome.next (?_ : s.receive .t false frame = _)
  unfold State.receive State.receiveFrame
  rw [read]
  simp only [Bool.false_or, decide_eq_true_eq]
  rw [if_neg few, State.classify, if_neg notFill, if_pos broadcast]
  unfold State.consume
  rw [if_pos kind, parsed]

/-- Settles O34, by the consumed telegram's way through the credits, the counter unit, the copy and the freed buffer. -/
theorem axleWithoutRoleMovesNothing : Obligations.AxleWithoutRoleMovesNothing := by
  unfold Obligations.AxleWithoutRoleMovesNothing
  rintro frame r s v d age dir rfl room read broadcast kind parsed noRise idle
  have earlier : OnlySends s (s.handleEarlier .t) := (s.handleEarlier_sends .t).1
  have counts : CountsKept s (s.handleEarlier .t) := s.handleEarlier_countsKept .t
  have received := State.receive_axle room read broadcast kind parsed
  rw [State.takeCredits_t noRise] at received
  generalize s.handleEarlier .t = v at *
  have credited : OnlySends v (v.addCredits .t r.credits) := .of_eq rfl
  have config : (v.addCredits .t r.credits).engine.state = s.engine.state := by rw [credited.engine, earlier.engine]
  have params : (v.addCredits .t r.credits).idleAxle.tables.params = s.tables.params := by
    rw [State.idleAxle_tables, credited.tables, earlier.tables]
  have taken : CountsKept v (v.addCredits .t r.credits) := v.setPort_countsKept .t _
  rw [State.axle_idle (by rwa [config, State.joint, credited.tables, earlier.tables])] at received
  have consumed := earlier.trans (credited.trans (State.idleAxle_onlySends _))
  have y : (v.addCredits .t r.credits).idleAxle.link.y = v.link.y := State.idleAxle_y _
  have loss : (v.addCredits .t r.credits).idleAxle.link.forwardingLoss = s.link.forwardingLoss := by
    rw [State.idleAxle_forwardingLoss, taken.2, counts.2]
  have unmapped : (v.addCredits .t r.credits).idleAxle.link.unmapped
      = if s.engine.state = .config then s.link.unmapped else min 65535 (s.link.unmapped + 1) := by
    rw [State.idleAxle_unmapped, config, taken.1, counts.1]
  generalize (v.addCredits .t r.credits).idleAxle = c at *
  have freed := State.freeBuffer_countsKept (c.forward r.telegram) .t
  refine ⟨_, received, (consumed.trans (c.forward_onlySends _)).trans (State.freeBuffer_onlySends _ .t), ?_, ?_, ?_, ?_⟩
  · rw [freed.1, State.forward_unmapped, unmapped]
  · intro off
    rw [← params] at off
    rw [State.freeBuffer_t_y, freed.2, State.forward_off off, y, loss]
    exact ⟨rfl, rfl⟩
  · intro all few
    rw [← params] at all
    refine ⟨?_, by rw [freed.2, (State.forward_countsKept (y ▸ few) _).2, loss]⟩
    have placed := State.forward_placed all y few r.telegram
    unfold PassPlaced State.port at placed ⊢
    rwa [State.freeBuffer_t_y]
  · intro all full
    rw [← params] at all
    rw [State.freeBuffer_t_y, freed.2, State.forward_full all (y ▸ full), ← loss]
    exact ⟨y, rfl⟩

end Sys2Proof.Machine

/-! SUPPORT. What a point does of itself while axles cross elsewhere: its automatic THROW is placed, withdrawn and started (R107 to R110). -/

namespace Sys2Proof.Machine

/-- One move of point `k`'s runtime record, with its guard clear or not: an automatic THROW is placed, one that waits is withdrawn
(where it is `forced`, whatever its reason), or one that waits starts. -/
inductive PointMove (k : Nat) (clear : Bool) (now : Clock) (allowance : Nat) (forced : Prop) (r : PointRuntime) : PointRuntime → Prop where
  | place {e : Leg} : r.state = .rest e → r.held = false → r.detected = some e → clear = true →
      PointMove k clear now allowance forced r { r with state := .pending e.other, command := .queued .automatic }
  | withdraw {e : Leg} : r.state = .pending e → (forced ∨ r.command = .queued .automatic) →
      PointMove k clear now allowance forced r { r with state := .rest e.other, command := .none }
  | start : r.waits → clear = true → PointMove k clear now allowance forced r (r.started now (r.throwTime k) allowance)

/-- A record that such moves lead to. -/
abbrev PointMoves (k : Nat) (clear : Bool) (now : Clock) (allowance : Nat) (forced : Prop) : PointRuntime → PointRuntime → Prop :=
  Relation.ReflTransGen (PointMove k clear now allowance forced)

/-! ### What the moves come to -/

section
variable {k allowance : Nat} {clear : Bool} {now : Clock} {forced : Prop} {r r' : PointRuntime} {e : Leg}

theorem PointMove.weaken (h : PointMove k clear now allowance False r r') : PointMove k clear now allowance forced r r' := by
  cases h with
  | place atRest auto detected clear => exact .place atRest auto detected clear
  | withdraw pending automatic => exact .withdraw pending (automatic.imp False.elim id)
  | start waits clear => exact .start waits clear

/-- A THROW that has started makes no move. -/
theorem PointMove.not_started {a : PointRuntime} {then_ : Clock} {T A : Nat} (waits : a.waits) :
    ¬PointMove k clear now allowance forced (a.started then_ T A) r := by
  obtain ⟨queued, e, state⟩ := waits
  obtain ⟨_, _, _, _, _, _, command, _, _, _, _, _⟩ := a
  intro move
  cases command with
  | none | sent => cases queued
  | queued reason =>
    rcases state with rfl | rfl
    · cases move with
      | place atRest => cases atRest
      | withdraw pending => cases pending
      | start waits => cases waits.1
    · cases move with
      | place atRest => cases atRest
      | withdraw pending => cases pending
      | start waits => cases waits.1

/-- From rest, AUTO and detected there, an automatic THROW may come to wait, and to be sent. -/
theorem PointMoves.from_rest (moves : PointMoves k clear now allowance False r r') (state : r.state = .rest e) (command : r.command = .none) :
    r' = r ∨ (r.held = false ∧ r.detected = some e ∧ clear = true
      ∧ ∃ x : PointRuntime, x = { r with state := .pending e.other, command := .queued .automatic }
        ∧ (r' = x ∨ r' = x.started now (x.throwTime k) allowance)) := by
  induction moves with
  | refl => exact .inl rfl
  | tail _ move ih =>
    rcases ih with rfl | ⟨auto, detected, clear, x, rfl, rfl | rfl⟩
    · cases move with
      | place atRest auto detected clear =>
        cases state.symm.trans atRest
        exact .inr ⟨auto, detected, clear, _, rfl, .inl rfl⟩
      | withdraw pending => cases state.symm.trans pending
      | start waits => simp [PointRuntime.waits, state] at waits
    · cases move with
      | place atRest => cases atRest
      | withdraw pending =>
        cases pending
        exact .inl (by simp only [Leg.other_other, ← state, ← command])
      | start => exact .inr ⟨auto, detected, clear, _, rfl, .inr rfl⟩
    · exact absurd move (PointMove.not_started ⟨rfl, _, .inl rfl⟩)

/-- A THROW that waits may be sent, and an automatic one withdrawn. -/
theorem PointMoves.from_pending (moves : PointMoves k clear now allowance False r r') (state : r.state = .pending e) :
    r' = r ∨ r' = r.started now (r.throwTime k) allowance
      ∨ (r.command = .queued .automatic ∧ r' = { r with state := .rest e.other, command := .none }) := by
  suffices r' = r ∨ (r.waits ∧ r' = r.started now (r.throwTime k) allowance)
      ∨ (r.command = .queued .automatic ∧ r' = { r with state := .rest e.other, command := .none }) from this.imp id (.imp And.right id)
  induction moves with
  | refl => exact .inl rfl
  | tail _ move ih =>
    rcases ih with rfl | ⟨waits, rfl⟩ | ⟨automatic, rfl⟩
    · cases move with
      | place atRest => cases state.symm.trans atRest
      | withdraw pending automatic =>
        cases state.symm.trans pending
        exact .inr (.inr ⟨automatic.resolve_left id, rfl⟩)
      | start waits => exact .inr (.inl ⟨waits, rfl⟩)
    · exact absurd move (PointMove.not_started waits)
    · cases move with
      | place atRest =>
        cases atRest
        exact .inl (by simp only [Leg.other_other, ← state, ← automatic])
      | withdraw pending => cases pending
      | start waits => cases waits.1

/-- A return THROW that waits may be sent. -/
theorem PointMoves.from_returning (moves : PointMoves k clear now allowance False r r') (state : r.state = .returning e) :
    r' = r ∨ r' = r.started now (r.throwTime k) allowance := by
  suffices r' = r ∨ (r.waits ∧ r' = r.started now (r.throwTime k) allowance) from this.imp id And.right
  induction moves with
  | refl => exact .inl rfl
  | tail _ move ih =>
    rcases ih with rfl | ⟨waits, rfl⟩
    · cases move with
      | place atRest => cases state.symm.trans atRest
      | withdraw pending => cases state.symm.trans pending
      | start waits => exact .inr ⟨waits, rfl⟩
    · exact absurd move (PointMove.not_started waits)

/-- A point in another state makes no move. -/
theorem PointMoves.from_other (moves : PointMoves k clear now allowance False r r') (atRest : ∀ e, r.state ≠ .rest e)
    (pending : ∀ e, r.state ≠ .pending e) (returning : ∀ e, r.state ≠ .returning e) : r' = r := by
  induction moves with
  | refl => rfl
  | tail _ move ih =>
    subst ih
    cases move with
    | place state => exact absurd state (atRest _)
    | withdraw state => exact absurd state (pending _)
    | start waits =>
      obtain ⟨-, e, state | state⟩ := waits
      · exact absurd state (pending e)
      · exact absurd state (returning e)

/-- Over an occupied guard the moves are a withdrawal at most. -/
theorem PointMoves.occupied (moves : PointMoves k false now allowance forced r r') :
    r' = r ∨ ∃ e, r.state = .pending e ∧ r' = { r with state := .rest e.other, command := .none } := by
  induction moves with
  | refl => exact .inl rfl
  | tail _ move ih =>
    cases move with
    | place _ _ _ clear => cases clear
    | start _ clear => cases clear
    | withdraw pending =>
      rcases ih with rfl | ⟨e, _, rfl⟩
      · exact .inr ⟨_, pending, rfl⟩
      · cases pending

end

/-! ### States between which a point makes such moves -/

/-- No THROW of the point stands in the command queue. -/
def Unqueued (s : State) (k : Nat) : Prop := ∀ c ∈ s.link.commands, c.point ≠ k

/-- Between two states point `k` makes such moves alone, and its guard, the clock and the parameters stay. Over an occupied guard no
THROW of it comes to wait, and one withdrawn leaves the command queue. -/
structure Plays (k : Nat) (forced : Prop) (s t : State) : Prop where
  clock : t.clock = s.clock
  params : t.tables.params = s.tables.params
  clear : t.guardClear k = s.guardClear k
  moves : PointMoves k (s.guardClear k) s.clock s.tables.params.allowance forced (s.pt k) (t.pt k)
  parked : s.guardClear k = false → Unqueued s k ∨ t.pt k ≠ s.pt k → Unqueued t k

section
variable {s t u : State} {k : Nat} {forced : Prop}

theorem Plays.refl (k : Nat) (forced : Prop) (s : State) : Plays k forced s s where
  clock := rfl
  params := rfl
  clear := rfl
  moves := .refl
  parked _ h := h.resolve_right fun h => h rfl

theorem Plays.trans (h : Plays k forced s t) (g : Plays k forced t u) : Plays k forced s u where
  clock := g.clock.trans h.clock
  params := g.params.trans h.params
  clear := g.clear.trans h.clear
  moves := h.moves.trans (by simpa only [h.clock, h.params, h.clear] using g.moves)
  parked occupied idle := by
    refine g.parked (h.clear.trans occupied) ?_
    by_cases same : t.pt k = s.pt k
    · exact idle.imp (fun none => h.parked occupied (.inl none)) fun changed => same ▸ changed
    · exact .inl (h.parked occupied (.inr same))

theorem Plays.weaken (h : Plays k False s t) : Plays k forced s t :=
  ⟨h.clock, h.params, h.clear, Relation.ReflTransGen.mono (fun _ _ => PointMove.weaken) _ _ h.moves, h.parked⟩

/-- A record left as it was, and THROWs that leave the command queue at most. -/
theorem Plays.of_same (clock : t.clock = s.clock) (params : t.tables.params = s.tables.params) (clear : t.guardClear k = s.guardClear k)
    (same : t.pt k = s.pt k) (commands : t.link.commands.Sublist s.link.commands) : Plays k forced s t where
  clock := clock
  params := params
  clear := clear
  moves := by rw [same]
  parked _ idle := fun c m => idle.resolve_right (fun changed => changed same) c (commands.subset m)

/-- No more than the points, the link interface and the report queue change. -/
theorem Plays.of_quiet (h : Quiet s t)
    (moves : PointMoves k (s.guardClear k) s.clock s.tables.params.allowance forced (s.pt k) (t.pt k))
    (parked : s.guardClear k = false → Unqueued s k ∨ t.pt k ≠ s.pt k → Unqueued t k) : Plays k forced s t := by
  have same := h.sameOutlook k
  exact ⟨same.clock, congrArg Tables.params same.tables, same.guardClear, moves, parked⟩

/-- The moves are those that `PointFollows` lists. -/
theorem Plays.pointFollows (h : Plays k False s t) : PointFollows s t k := by
  have moves := h.moves
  unfold PointFollows
  cases state : (s.pt k).state with
  | rest e =>
    intro command
    rw [h.clear]
    exact moves.from_rest state command
  | pending e => exact moves.from_pending state
  | returning e => exact moves.from_returning state
  | unknown | moving _ | waitRetry _ | failed => exact moves.from_other (by simp [state]) (by simp [state]) (by simp [state])

/-- Over an occupied guard the moves are a withdrawal at most. -/
theorem Plays.occupied (h : Plays k forced s t) (occupied : s.guardClear k = false) :
    t.pt k = s.pt k ∨ ∃ e, (s.pt k).state = .pending e ∧ t.pt k = { s.pt k with state := .rest e.other, command := .none } := by
  have moves := h.moves
  rw [occupied] at moves
  exact moves.occupied

/-! ### The throw decision makes such moves (R106 to R110) -/

/-- The start of a THROW that the point controller takes is a move. -/
theorem State.startThrow_plays {s : State} {c : Throw} (may : s.throwMayStart c.point = true) (k : Nat) (forced : Prop) :
    Plays k forced s (s.startThrow c) := by
  obtain ⟨waits, clear⟩ : (s.pt c.point).waits ∧ s.guardClear c.point = true := by
    unfold State.throwMayStart at may
    unfold PointRuntime.waits
    simp only [Bool.and_eq_true] at may
    split at may <;> simp_all [PointCommand.isQueued]
  have commands : (s.startThrow c).link.commands.Sublist s.link.commands := by
    simpa [State.startThrow] using List.tail_sublist _
  rcases eq_or_ne k c.point with rfl | other
  · refine .of_quiet (s.startThrow_onlySends c).quiet ?_ fun occupied => absurd (clear.symm.trans occupied) nofun
    have inside : 1 ≤ c.point ∧ c.point ≤ 63 := by
      obtain ⟨-, e, state | state⟩ := waits
      · exact s.pt_inside (by simp [state])
      · exact s.pt_inside (by simp [state])
    rw [show (s.startThrow c).pt c.point = _ from State.pt_setPt_self s _ _ inside]
    exact .single (.start waits clear)
  · have same := (s.startThrow_onlySends c).quiet.sameOutlook k
    exact .of_same same.clock (congrArg Tables.params same.tables) same.guardClear (State.pt_setPt_ne s _ other) commands

/-- A port's selection starts a THROW at most. -/
theorem State.select_plays (s : State) (p : Port) (k : Nat) (forced : Prop) : Plays k forced s (s.select p) := by
  have same (choice : ∀ c, s.choice p ≠ .throw c) : (s.select p).pt k = s.pt k := by
    unfold State.select
    cases e : s.choice p with
    | throw c => exact absurd e (choice c)
    | nothing => rfl
    | fill | signal | response | report | pass => cases p <;> rfl
  by_cases throw : ∃ c, s.choice p = .throw c
  · obtain ⟨c, e⟩ := throw
    unfold State.select
    rw [e, State.begin]
    split
    · exact State.startThrow_plays ‹_› k forced
    · exact .refl k forced s
  · have outlook := (s.select_quiet p).sameOutlook k
    exact .of_same outlook.clock (congrArg Tables.params outlook.tables) outlook.guardClear (same fun c e => throw ⟨c, e⟩)
      (s.select_rests p).commands

theorem State.offer_plays (s : State) (b : ReportBody) (k : Nat) (forced : Prop) : Plays k forced s (s.offer b) := by
  unfold State.offer
  extract_lets
  split
  · exact .refl k forced s
  · refine .trans ?_ (State.select_plays _ .y k forced)
    exact .of_same rfl rfl rfl rfl (.refl _)

/-- A THROW is due of a point at rest alone, AUTO and detected there (R107). -/
theorem State.throwDue_rests {s : State} {p : Nat} {leg : Leg} (due : s.throwDue p = some leg) : ∃ e, (s.pt p).state = .rest e
    ∧ (s.pt p).held = false ∧ (s.pt p).detected = some e ∧ leg = e.other := by
  unfold State.throwDue at due
  split at due
  · rename_i e he
    simp only [Option.ite_none_right_eq_some, Bool.and_eq_true, Bool.not_eq_true', decide_eq_true_eq, Option.some.injEq] at due
    obtain ⟨⟨⟨⟨⟨auto, detected⟩, -⟩, -⟩, -⟩, rfl⟩ := due
    exact ⟨e, he, auto, detected, rfl⟩
  · cases due

/-- A THROW that is due is placed. -/
theorem State.evaluateAtRest_plays (s : State) (p k : Nat) (forced : Prop) : Plays k forced s (s.evaluateAtRest p) := by
  unfold State.evaluateAtRest
  cases due : s.throwDue p with
  | none => exact .refl k forced s
  | some leg =>
    obtain ⟨present, -, clear⟩ := State.throwDue_eq_some due
    obtain ⟨e, state, auto, detected, rfl⟩ := State.throwDue_rests due
    refine .trans (.of_quiet (Quiet.trans (.setPt s p _) ⟨_, _, _, rfl⟩) ?_ fun occupied idle => ?_) (State.select_plays _ .t k forced)
    · rcases eq_or_ne k p with rfl | other
      · exact State.pt_setPt_self s k _ present ▸ .single (.place state auto detected clear)
      · exact State.pt_setPt_ne s _ other ▸ .refl
    · rcases eq_or_ne k p with rfl | other
      · exact absurd (clear.symm.trans occupied) nofun
      · have none : Unqueued s k := idle.resolve_right fun changed => changed (State.pt_setPt_ne s _ other)
        intro c m
        rcases List.mem_append.mp m with m | m
        · exact none c m
        · rw [List.mem_singleton.mp m]
          exact other.symm

/-- A THROW that waits is withdrawn. -/
theorem State.withdraw_plays (s : State) {p k : Nat} {forced : Prop} (may : k = p → forced ∨ (s.pt p).command = .queued .automatic) :
    Plays k forced s (s.withdraw p) := by
  cases state : (s.pt p).state with
  | pending e =>
    rcases eq_or_ne k p with rfl | other
    · refine .of_quiet (s.withdraw_quiet k) ?_ fun _ _ c m => ?_
      · rw [State.pt_withdraw state]
        exact .single (.withdraw state (may rfl))
      · simp only [State.withdraw, state, State.dropThrow] at m
        exact of_decide_eq_true (List.mem_filter.mp m).2
    · have same := (s.withdraw_quiet p).sameOutlook k
      refine .of_same same.clock (congrArg Tables.params same.tables) same.guardClear (s.withdraw_other other) ?_
      simp only [State.withdraw, state]
      exact List.filter_sublist
  | _ => simp only [State.withdraw, state]; exact .refl k forced s

theorem State.reevaluate_plays (s : State) (p k : Nat) (forced : Prop) : Plays k forced s (s.reevaluate p) := by
  unfold State.reevaluate
  split
  · exact s.evaluateAtRest_plays p k forced
  · split
    · rename_i fails
      refine (s.withdraw_plays fun _ => .inr ?_).trans (State.evaluateAtRest_plays _ p k forced)
      simp only [State.pendingFails, Bool.and_eq_true, decide_eq_true_eq] at fails
      exact fails.1
    · exact .refl k forced s
  · exact .refl k forced s

theorem State.withdrawn_plays (s : State) {p k : Nat} {forced : Prop} (may : k = p → forced) : Plays k forced s (s.withdrawn p) :=
  (s.withdraw_plays fun own => .inl (may own)).trans (State.reevaluate_plays _ p k forced)

end

end Sys2Proof.Machine

/-! SUPPORT. What a point's re-evaluation reads of the tables and the slots: the ladder and the arrival of the head claimant (R67 to R71, R107, R108). -/

namespace Sys2Proof.Machine

/-- The clock, the parameters and what arrival times read of the ladder are the same: a track's room, a patch entry or a route may differ. -/
structure SameLadder (s t : State) : Prop where
  clock : t.clock = s.clock
  params : t.tables.params = s.tables.params
  points : t.tables.points = s.tables.points
  pointPaths : t.tables.pointPaths = s.tables.pointPaths
  trackPaths : t.tables.trackPaths = s.tables.trackPaths
  lengths : ∀ k, (t.trackRecord k).map TrackRecord.linkLength = (s.trackRecord k).map TrackRecord.linkLength

theorem SameLadder.of_tables {s t : State} (clock : t.clock = s.clock) (tables : t.tables = s.tables) : SameLadder s t :=
  ⟨clock, by rw [tables], by rw [tables], by rw [tables], by rw [tables], fun k => by rw [State.trackRecord, State.trackRecord, tables]⟩

theorem SameLadder.trans {s t u : State} (h : SameLadder s t) (g : SameLadder t u) : SameLadder s u :=
  ⟨g.clock.trans h.clock, g.params.trans h.params, g.points.trans h.points, g.pointPaths.trans h.pointPaths, g.trackPaths.trans h.trackPaths,
    fun k => (g.lengths k).trans (h.lengths k)⟩

section
variable {s t : State} (h : SameLadder s t)
include h

theorem SameLadder.pointRecord (p : Nat) : t.pointRecord p = s.pointRecord p := by rw [State.pointRecord, h.points, ← State.pointRecord]

theorem SameLadder.pointPath (p : Nat) : t.pointPath p = s.pointPath p := by rw [State.pointPath, h.pointPaths, ← State.pointPath]

theorem SameLadder.trackPath (k : Nat) : t.trackPath k = s.trackPath k := by rw [State.trackPath, h.trackPaths, ← State.trackPath]

theorem SameLadder.branchLength (b : Branch) : t.branchLength b = s.branchLength b := by
  cases b with
  | point q => simp only [State.branchLength, h.pointRecord]
  | track k => simp only [State.branchLength, h.lengths]

theorem SameLadder.legLength (p : Nat) (x : Leg) : t.legLength p x = s.legLength p x := by
  have : t.branchLength = s.branchLength := funext h.branchLength
  simp only [State.legLength, State.branch, h.pointRecord, this]

theorem SameLadder.leadLength : t.leadLength = s.leadLength := by
  simp only [State.leadLength, State.roots, h.pointRecord, h.branchLength]

theorem SameLadder.headLength (c : Counter) : t.headLength c = s.headLength c := by
  cases c with
  | lead => exact h.leadLength
  | guardIn p => simp only [State.headLength, State.guardLength, h.pointRecord]
  | guardOut p x => exact h.legLength p x
  | clearance k => rfl

theorem SameLadder.pairsLength (pairs : Path) : t.pairsLength pairs = s.pairsLength pairs := by
  simp only [State.pairsLength, State.guardLength, h.pointRecord, h.legLength]

theorem SameLadder.distance (c : Counter) (p : Nat) : t.distance c p = s.distance c p := by
  cases c <;> simp only [State.distance, h.leadLength, h.pairsLength, h.legLength, h.pointPath]

theorem SameLadder.downstream (a b : Counter) : t.downstream a b = s.downstream a b := by
  cases a <;> cases b <;> simp only [State.downstream, State.below, h.pointPath, h.trackPath]

/-- The arrival time of a slot's head. -/
theorem SameLadder.arrival (x : Slot) (p : Nat) : t.arrival x p = s.arrival x p := by
  simp only [State.arrival, h.downstream, h.distance, h.headLength, h.clock]

end

/-! ### What an arrival time reads of a slot -/

/-- The slot with the same head, head time, estimate and anchor, or none as before. -/
def ArrivesAs (x y : Option Slot) : Prop := ∀ (s : State) (p : Nat), (y.bind fun z => s.arrival z p) = x.bind fun z => s.arrival z p

theorem ArrivesAs.of_eq {x y : Option Slot} (h : y = x) : ArrivesAs x y := fun s p => by rw [h]

theorem ArrivesAs.of_fields {x y : Slot} (head : y.head = x.head) (time : y.headTime = x.headTime) (estimate : y.estimate = x.estimate)
    (anchor : y.flags.unanchored = x.flags.unanchored) : ArrivesAs (some x) (some y) := fun s p => by
  simp only [Option.bind_some, State.arrival, head, time, estimate, anchor]

/-! ### A point that stands evaluated -/

/-- A point that stands evaluated goes on doing so while its claim list, the arrival of its head claimant and the parameters stay and its
guard does not become clear, its own THROW apart. -/
theorem StandsEvaluated.of_reads {s t : State} {k : Nat} (stands : StandsEvaluated s k) (ladder : SameLadder s t)
    (claims : t.claimList k = s.claimList k) (slots : ∀ c ∈ s.claimList k, ArrivesAs (s.slot c.slot) (t.slot c.slot))
    (clear : t.guardClear k = true → s.guardClear k = true) (sent : (s.pt k).Sent (t.pt k)) : StandsEvaluated t k := by
  have serves (e : Leg) : Serves t k e ↔ Serves s k e := by simp only [Serves, claims]
  obtain ⟨held, detected, learned⟩ := sent.keeps
  have arrives : t.headArrival k = s.headArrival k := by
    unfold State.headArrival State.headClaimant
    rw [claims]
    cases e : (s.claimList k).head? with
    | none => rfl
    | some c =>
      have same := slots c (List.mem_of_mem_head? e) s k
      simpa only [Option.bind_some, ladder.arrival] using same
  have window : t.window k = s.window k := by
    unfold State.window State.throwLead PointRuntime.throwTime
    rw [learned, arrives, ladder.params, ladder.clock]
  obtain ⟨atRest, pending⟩ := stands
  constructor
  · rintro e he ⟨auto, there, served, empty, open_⟩
    exact atRest e (sent.rest he) ⟨held ▸ auto, detected ▸ there, (serves _).mp served, clear empty, window ▸ open_⟩
  · intro e he queued
    rw [serves]
    obtain same | ⟨_, _, _, same⟩ := sent
    · exact pending e (same ▸ he) (same ▸ queued)
    · exact absurd ((congrArg PointRuntime.state same).symm.trans he) (PointRuntime.started_not_pending _ _ _ _ _)

end Sys2Proof.Machine

/-! SUPPORT. Steps that concern one slot: its entry in the tracking table, its claims, and what the points that it does not stand at make of them (R80, R84, R106). -/

namespace Sys2Proof.Machine

/-! ### Points as they stand without the slot's claims -/

/-- A point that stands evaluated without slot `i`'s claims goes on doing so while they alone change, and the slot. -/
theorem StandsEvaluated.apart {s t : State} {i k : Nat} (stands : StandsEvaluated (s.leaveAll i) k) (ladder : SameLadder s t)
    (others : ∀ j, j ≠ i → t.slot j = s.slot j) (claims : (t.leaveAll i).claimList k = (s.leaveAll i).claimList k)
    (clear : t.guardClear k = true → s.guardClear k = true) (sent : (s.pt k).Sent (t.pt k)) : StandsEvaluated (t.leaveAll i) k := by
  refine stands.of_reads ⟨ladder.clock, ladder.params, ladder.points, ladder.pointPaths, ladder.trackPaths, ladder.lengths⟩ claims
    (fun c m => .of_eq (others c.slot ?_)) clear sent
  rw [s.claimList_leaveAll] at m
  exact of_decide_eq_true (List.mem_filter.mp m).2

theorem StandsEvaluated.leftOut {s : State} {i k : Nat} (absent : s.stands i k = false) :
    StandsEvaluated (s.leaveAll i) k ↔ StandsEvaluated s k :=
  ⟨fun h => h.of_same ⟨rfl, rfl, (State.claimList_leaveAll_absent absent).symm, fun _ _ => rfl, rfl⟩ (.inl rfl), fun h => h.leaveAll absent⟩

/-! ### What a step on a slot changes -/

/-- A step that concerns slot `i`, and point `q`: the ladder stays; no other slot changes, nor any claim of another; every other point makes moves of its own,
and point `q` too unless the step is `hard` on it, when engine control may be told; the points that are not `told` stand evaluated, slot `i`'s claims left out, where they did. -/
structure Changes (i q : Nat) (hard : Prop) (told : Nat → Prop) (s t : State) : Prop where
  offered : ∃ bodies, Queues s t bodies
  ladder : SameLadder s t
  others : ∀ j, j ≠ i → t.slot j = s.slot j
  claims : ∀ k, (t.leaveAll i).claimList k = (s.leaveAll i).claimList k
  plays : ∀ k, (k = q → ¬hard) → Plays k (k = q) s t
  engine : ¬hard → t.engine = s.engine
  evaluated : ∀ k, ¬told k → StandsEvaluated (s.leaveAll i) k → StandsEvaluated (t.leaveAll i) k

/-- Such a step on a slot that is neither bound by it nor found again: FREE it stays, and LOST. -/
structure Handles (i q : Nat) (hard : Prop) (told : Nat → Prop) (s t : State) : Prop extends Changes i q hard told s t where
  free : s.slot i = none → t.slot i = none
  lost : LostIfInUse s i → LostIfInUse t i

section
variable {i q : Nat} {hard : Prop} {told : Nat → Prop} {s t u : State}

theorem Changes.refl (s : State) : Changes i q hard told s s where
  offered := ⟨[], .refl s⟩
  ladder := .of_tables rfl rfl
  others _ _ := rfl
  claims _ := rfl
  plays k _ := .refl k _ s
  engine _ := rfl
  evaluated _ _ h := h

theorem Changes.trans (h : Changes i q hard told s t) (g : Changes i q hard told t u) : Changes i q hard told s u where
  offered := by
    obtain ⟨a, first⟩ := h.offered
    obtain ⟨b, second⟩ := g.offered
    exact ⟨_, first.trans second⟩
  ladder := h.ladder.trans g.ladder
  others j other := (g.others j other).trans (h.others j other)
  claims k := (g.claims k).trans (h.claims k)
  plays k soft := (h.plays k soft).trans (g.plays k soft)
  engine soft := (g.engine soft).trans (h.engine soft)
  evaluated k untold stands := g.evaluated k untold (h.evaluated k untold stands)

theorem Handles.refl (s : State) : Handles i q hard told s s := ⟨.refl s, id, id⟩

theorem Handles.trans (h : Handles i q hard told s t) (g : Handles i q hard told t u) : Handles i q hard told s u :=
  ⟨h.toChanges.trans g.toChanges, g.free ∘ h.free, g.lost ∘ h.lost⟩

theorem Handles.foldl {α : Type} {f : State → α → State} (step : ∀ s a, Handles i q hard told s (f s a)) (l : List α) (s : State) :
    Handles i q hard told s (l.foldl f s) := by
  induction l generalizing s with
  | nil => exact .refl s
  | cons a l ih => exact (step s a).trans (ih _)

theorem Changes.handles (h : Changes i q hard told s t) (same : t.slot i = s.slot i) : Handles i q hard told s t :=
  ⟨h, fun free => same.trans free, fun lost x hx => lost x (same ▸ hx)⟩

/-! ### The steps it is made of -/

/-- A step that leaves the points and the guards to themselves. -/
theorem Changes.of_reads (offered : ∃ bodies, Queues s t bodies) (others : ∀ j, j ≠ i → t.slot j = s.slot j)
    (claims : ∀ k, (t.leaveAll i).claimList k = (s.leaveAll i).claimList k) (ladder : SameLadder s t)
    (clear : ∀ k, t.guardClear k = s.guardClear k) (sent : ∀ k, (s.pt k).Sent (t.pt k)) (plays : ∀ k, Plays k False s t)
    (engine : ¬hard → t.engine = s.engine) : Changes i q hard told s t where
  offered := offered
  ladder := ladder
  others := others
  claims := claims
  plays k _ := (plays k).weaken
  engine := engine
  evaluated k _ h := h.apart ladder others (claims k) (fun c => (clear k).symm.trans c) (sent k)

/-- A step that leaves the points, the sections, the report queue and, the signal's telegram apart, the link interface as they were. -/
theorem Changes.of_plain (ladder : SameLadder s t) (straps : t.straps = s.straps) (link : t.link = { s.link with signalSlot := t.link.signalSlot }) (reports : t.reports = s.reports)
    (sections : t.sections = s.sections) (points : t.points = s.points) (engine : ¬hard → t.engine = s.engine) (others : ∀ j, j ≠ i → t.slot j = s.slot j)
    (claims : ∀ k, (t.leaveAll i).claimList k = (s.leaveAll i).claimList k) : Changes i q hard told s t := by
  have clear (k : Nat) : t.guardClear k = s.guardClear k := by rw [State.guardClear, State.sec_congr sections, ← State.guardClear]
  have pt (k : Nat) : t.pt k = s.pt k := by rw [State.pt, points, ← State.pt]
  exact .of_reads ⟨[], .of_same ladder.clock straps ladder.params (by rw [link]) (by rw [link]) (by rw [link]) reports⟩ others claims ladder
    clear (fun k => .inl (pt k)) (fun k => .of_same ladder.clock ladder.params (clear k) (pt k) (by rw [link])) engine

/-- No slot changes by it either. -/
theorem Handles.of_plain (ladder : SameLadder s t) (straps : t.straps = s.straps) (link : t.link = { s.link with signalSlot := t.link.signalSlot }) (reports : t.reports = s.reports)
    (sections : t.sections = s.sections) (points : t.points = s.points) (engine : ¬hard → t.engine = s.engine) (slots : t.slots = s.slots)
    (claims : ∀ k, (t.leaveAll i).claimList k = (s.leaveAll i).claimList k) : Handles i q hard told s t :=
  have slot (j : Nat) : t.slot j = s.slot j := by rw [State.slot, slots, ← State.slot]
  Changes.handles (.of_plain ladder straps link reports sections points engine (fun j _ => slot j) claims) (slot i)

/-- What the ports send. -/
theorem OnlySends.handles (sends : OnlySends s t) {bodies : List ReportBody} (queues : Queues s t bodies) (plays : ∀ k, Plays k False s t) :
    Handles i q hard told s t :=
  have slot (j : Nat) : t.slot j = s.slot j := by rw [State.slot, sends.slots, ← State.slot]
  Changes.handles (.of_reads ⟨bodies, queues⟩ (fun j _ => slot j)
    (fun k => by rw [State.claimList_leaveAll, State.claimList_leaveAll, State.claimList, sends.claims, ← State.claimList])
    (.of_tables sends.clock sends.tables) (fun k => (sends.quiet.sameOutlook k).guardClear) sends.sent plays fun _ => sends.engine) (slot i)

/-- Points that re-evaluate and are told so. -/
theorem Quiet.changes (quiet : Quiet s t) (queues : Queues s t []) (plays : ∀ k, (k = q → ¬hard) → Plays k (k = q) s t)
    (evaluated : ∀ k, ¬told k → (s.pt k).Sent (t.pt k) ∨ (s.stands i k = false ∧ StandsEvaluated t k)) : Changes i q hard told s t where
  offered := ⟨[], queues⟩
  ladder := .of_tables (quiet.sameOutlook q).clock (quiet.sameOutlook q).tables
  others j _ := by
    obtain ⟨_, _, _, rfl⟩ := quiet
    rfl
  claims k := by
    obtain ⟨_, _, _, rfl⟩ := quiet
    rfl
  plays := plays
  engine _ := by
    obtain ⟨_, _, _, rfl⟩ := quiet
    rfl
  evaluated k untold h := by
    have outlook := quiet.sameOutlook k
    rcases evaluated k untold with sent | ⟨absent, stands⟩
    · refine h.apart (.of_tables outlook.clock outlook.tables) (fun j _ => ?_) ?_ (fun c => outlook.guardClear.symm.trans c) sent
      · obtain ⟨_, _, _, rfl⟩ := quiet
        rfl
      · rw [State.claimList_leaveAll, State.claimList_leaveAll, outlook.claims]
    · refine (StandsEvaluated.leftOut ?_).mpr stands
      rw [State.stands, outlook.claims, ← State.stands, absent]

theorem Quiet.slot (quiet : Quiet s t) (j : Nat) : t.slot j = s.slot j := by
  obtain ⟨_, _, _, rfl⟩ := quiet
  rfl

theorem Quiet.stands (quiet : Quiet s t) (j k : Nat) : t.stands j k = s.stands j k := by
  obtain ⟨_, _, _, rfl⟩ := quiet
  rfl

variable (s)

theorem State.offer_handles (b : ReportBody) : Handles i q hard told s (s.offer b) :=
  (s.offer_onlySends b).handles (s.offer_queues b) fun k => s.offer_plays b k False

theorem State.select_handles (p : Port) : Handles i q hard told s (s.select p) :=
  (s.select_onlySends p).handles (s.select_queues p) fun k => s.select_plays p k False

theorem State.setSlot_changes (x : Option Slot) : Changes i q hard told s (s.setSlot i x) :=
  .of_plain (.of_tables rfl rfl) rfl rfl rfl rfl rfl (fun _ => rfl) (fun _ other => s.slot_setSlot_ne x other) fun _ => rfl

theorem State.recompute_handles : Handles i q hard told s s.recompute := by
  unfold State.recompute
  split
  · exact .refl s
  · refine .trans (t := { s with signal := { s.signal with demand := s.demandNow } }) ?_ ?_
    · exact .of_plain (.of_tables rfl rfl) rfl rfl rfl rfl rfl (fun _ => rfl) rfl fun _ => rfl
    · unfold State.writeDemand
      split
      · exact .refl _
      · refine .trans ?_ (State.select_handles _ .t)
        exact .of_plain (.of_tables rfl rfl) rfl rfl rfl rfl rfl (fun _ => rfl) rfl fun _ => rfl

/-- Slot `i`, in use, is rewritten, LOST or not as it was. -/
theorem State.setSlot_handles {x y : Slot} (hx : s.slot i = some x) (lost : x.flags.lost = true → y.flags.lost = true) :
    Handles i q hard told s (s.setSlot i (some y)) where
  toChanges := s.setSlot_changes _
  free h := absurd (hx.symm.trans h) nofun
  lost h z hz := by
    rw [s.slot_setSlot_self i _ (State.slot_inside hx)] at hz
    cases hz
    exact lost (h x hx)

theorem State.updSlot_handles {f : Slot → Slot} (lost : ∀ x, (f x).flags.lost = x.flags.lost) : Handles i q hard told s (s.updSlot i f) := by
  cases hx : s.slot i with
  | none => simpa only [State.updSlot, hx] using Handles.refl s
  | some x => exact State.updSlot_eq hx f ▸ s.setSlot_handles hx fun h => (lost x).trans h

theorem State.freeUp_handles : Handles i q hard told s (s.freeUp i) := by
  have free : (s.setSlot i none).slot i = none := by
    rcases s.slot_setSlot_cases i i none with same | ⟨-, own⟩
    · by_cases inside : 1 ≤ i ∧ i ≤ 16
      · exact s.slot_setSlot_self i none inside
      · exact same.trans (readAt_outside s.slots none inside)
    · exact own
  exact .trans ⟨s.setSlot_changes none, fun _ => free, fun _ x hx => absurd (free.symm.trans hx) nofun⟩ (State.recompute_handles _)

theorem State.release_handles : Handles i q hard told s (s.release i) := s.updSlot_handles fun _ => rfl

end

end Sys2Proof.Machine

/-! SUPPORT. The claims of a slot, the points it leaves, and its becoming LOST, as steps that concern it (R84, R85, R96, R104, R106). -/

namespace Sys2Proof.Machine

section
variable {i q : Nat} {hard : Prop} {told : Nat → Prop} (s : State)

/-! ### Its claims -/

theorem State.setClaims_handles {p : Nat} {l : List Claim}
    (same : (l.filter fun c => decide (c.slot ≠ i)) = (s.claimList p).filter fun c => decide (c.slot ≠ i)) :
    Handles i q hard told s (s.setClaims p l) := by
  refine .of_plain (.of_tables rfl rfl) rfl rfl rfl rfl rfl (fun _ => rfl) rfl fun k => ?_
  rw [State.claimList_leaveAll, State.claimList_leaveAll]
  rcases eq_or_ne k p with rfl | other
  · by_cases inside : 1 ≤ k ∧ k ≤ 63
    · rw [s.claimList_setClaims_self k l inside, same]
    · rw [State.claimList, State.claimList, readAt_outside _ _ inside, readAt_outside _ _ inside]
  · rw [s.claimList_setClaims_ne l other]

theorem State.joinClaim_handles (p : Nat) (want : Option Leg) : Handles i q hard told s (s.joinClaim p i want) := by
  unfold State.joinClaim
  split
  · exact .refl s
  · split
    · exact .refl s
    · refine s.setClaims_handles ?_
      simp only [List.filter_append, List.filter_cons, ne_eq, not_true_eq_false, decide_false, Bool.false_eq_true, if_false]
      rw [← List.filter_append, List.takeWhile_append_dropWhile]

theorem State.changeClaim_handles (p : Nat) (want : Option Leg) : Handles i q hard told s (s.changeClaim p i want) := by
  refine s.setClaims_handles ?_
  induction s.claimList p with
  | nil => rfl
  | cons c l ih =>
    rcases eq_or_ne c.slot i with own | other
    · simpa [own] using ih
    · simpa [other] using ih

theorem State.leaveClaim_handles (p : Nat) : Handles i q hard told s (s.leaveClaim p i) :=
  s.setClaims_handles (by simp [List.filter_filter])

theorem State.leaveAll_handles : Handles i q hard told s (s.leaveAll i) := by
  refine .of_plain (.of_tables rfl rfl) rfl rfl rfl rfl rfl (fun _ => rfl) rfl fun k => ?_
  rw [State.claimList_leaveAll, State.claimList_leaveAll]
  simp [List.filter_filter]

theorem State.joinPath_handles (path : Path) : Handles i q hard told s (s.joinPath i path) :=
  .foldl (fun a x => a.joinClaim_handles x.1 _) path s

theorem State.alignAt_handles (x : Slot) (base p : Nat) : Handles i q hard told s (s.alignAt i x base p) := by
  unfold State.alignAt
  split
  · exact s.leaveClaim_handles p
  · split
    · exact s.changeClaim_handles p _
    · split
      · exact .refl s
      · exact s.joinClaim_handles p _

theorem State.alignClaims_handles (base : Nat) : Handles i q hard told s (s.alignClaims i base) := by
  unfold State.alignClaims
  split
  · exact .refl s
  · exact .foldl (fun a p => a.alignAt_handles _ base p) _ s

theorem State.tailTest_handles : Handles i q hard told s (s.tailTest i) := by
  unfold State.tailTest
  split
  · exact .refl s
  · split
    · exact .refl s
    · exact .foldl (fun a p => a.leaveClaim_handles p) _ s

/-! ### The points that re-evaluate -/

variable {s}

/-- Points that the slot does not stand at, or that are told, re-evaluate. -/
theorem State.reevaluateAll_handles {l : List Nat} (may : ∀ p ∈ l, s.stands i p = false ∨ told p) :
    Handles i q hard told s (s.reevaluateAll l) := by
  induction l generalizing s with
  | nil => exact .refl s
  | cons p l ih =>
    have quiet := s.reevaluate_quiet p
    have first : Handles i q hard told s (s.reevaluate p) := by
      refine (quiet.changes (s.reevaluateAll_queues [p]) (fun k _ => s.reevaluate_plays p k _) fun k untold => ?_).handles (quiet.slot i)
      rcases eq_or_ne k p with rfl | other
      · exact .inr ⟨(may k (List.mem_cons_self ..)).resolve_right untold, s.reevaluate_standsEvaluated k⟩
      · exact .inl (s.reevaluate_other other)
    exact first.trans (ih fun k m => (quiet.stands i k).symm ▸ may k (List.mem_cons_of_mem _ m))

/-- The THROW of the step's own point is withdrawn, where the slot does not stand or which is told. -/
theorem State.withdrawn_handles (may : s.stands i q = false ∨ told q) : Handles i q hard told s (s.withdrawn q) := by
  have quiet := s.withdrawn_quiet q
  have queues : Queues s (s.withdrawn q) [] := by
    refine .after ?_ (State.reevaluateAll_queues _ [q])
    unfold State.withdraw
    split
    · exact .of_same rfl rfl rfl rfl rfl rfl rfl
    · exact .refl s
  refine (quiet.changes queues (fun k _ => s.withdrawn_plays id) fun k untold => ?_).handles (quiet.slot i)
  rcases eq_or_ne k q with rfl | other
  · exact .inr ⟨may.resolve_right untold, State.reevaluate_standsEvaluated _ k⟩
  · have := State.reevaluate_other (s.withdraw q) other
    rw [s.withdraw_other other] at this
    exact .inl this

variable (s)

/-- The slot leaves its claim lists, and points re-evaluate. -/
theorem State.left_handles (l : List Nat) : Handles i q hard told s ((s.leaveAll i).reevaluateAll l) :=
  s.leaveAll_handles.trans (State.reevaluateAll_handles fun p _ => .inl (s.leaveAll_stands i p))

/-- The slot becomes LOST (R96). -/
theorem State.becomeLost_handles (cause : LostCause) (reported : Bool) : Handles i q hard told s (s.becomeLost i cause reported) := by
  unfold State.becomeLost
  split
  · exact .refl s
  · rename_i x hx
    split
    · exact .refl s
    · extract_lets _ s1 s2
      have gone : Handles i q hard told s s2 := by
        have first : Handles i q hard told s s1 := s.setSlot_handles hx fun _ => rfl
        exact (first.trans (s1.left_handles _)).trans (State.release_handles _)
      split
      · exact gone.trans (State.offer_handles _ _)
      · exact gone

end

end Sys2Proof.Machine

/-! SUPPORT. What the tracking table makes of a crossing, as steps that concern the slot (R80 to R97). -/

namespace Sys2Proof.Machine

section
variable {i q : Nat} {hard : Prop} {told : Nat → Prop} (s : State)

/-! ### Retargeting and settlement (R87 to R90) -/

theorem State.takeRetarget_handles (p : Nat) (leg : Leg) (result : Retarget) (base : Nat) :
    Handles i q hard told s (s.takeRetarget i p leg result base) := by
  unfold State.takeRetarget
  cases hx : s.slot i with
  | none => exact .refl s
  | some x =>
    have kept : (s.retargeted x p leg result).flags.lost = x.flags.lost := by cases result <;> rfl
    exact ((s.setSlot_handles hx fun h => kept.trans h).trans (State.alignClaims_handles _ base)).trans (State.offer_handles _ _)

theorem State.becomeUnresolved_handles (p : Nat) : Handles i q hard told s (s.becomeUnresolved i p) := by
  unfold State.becomeUnresolved
  cases hx : s.slot i with
  | none => exact .refl s
  | some x =>
    refine .trans (.trans ?_ (State.alignClaims_handles _ p)) (State.offer_handles _ _)
    exact s.setSlot_handles hx id

theorem State.cornered_handles (p : Nat) (pathLeg lying : Leg) : Handles i q hard told s (s.cornered i p pathLeg lying) := by
  unfold State.cornered
  cases hx : s.slot i with
  | none => exact .refl s
  | some x =>
    refine .trans (.trans ?_ (State.offer_handles _ _)) (State.takeRetarget_handles _ p lying _ p)
    exact s.setSlot_handles hx id

theorem State.settleBy_handles (p : Nat) (pathLeg : Leg) (lying : Option Leg) : Handles i q hard told s (s.settleBy i p pathLeg lying) := by
  unfold State.settleBy
  split
  · exact s.becomeUnresolved_handles p
  · split
    · exact .refl s
    · exact s.cornered_handles p pathLeg _

/-- A settlement tells no point but its own. -/
theorem State.settle_handles (may : s.stands i q = false ∨ told q) : Handles i q hard told s (s.settle i q) := by
  unfold State.settle
  split
  · exact .refl s
  · split
    · unfold State.settleOnPath
      split
      · exact s.becomeLost_handles _ true
      · exact s.becomeLost_handles _ true
      · exact (State.withdrawn_handles may).trans (State.settleBy_handles _ q _ _)
      all_goals exact s.settleBy_handles q _ _
    · split
      · split
        · exact s.becomeLost_handles _ true
        · exact s.becomeLost_handles _ true
        all_goals exact .refl s
      · exact s.becomeLost_handles _ true

/-! ### A point that goes FAILED (R91, R122, R123) -/

theorem State.dropThrow_handles (p : Nat) : Handles i q hard told s (s.dropThrow p) := by
  have quiet : Quiet s (s.dropThrow p) := ⟨_, _, _, rfl⟩
  exact (quiet.changes (.of_same rfl rfl rfl rfl rfl rfl rfl) (fun k _ => .of_same rfl rfl rfl rfl List.filter_sublist)
    fun k _ => .inl (.inl rfl)).handles rfl

theorem State.pt_setPt_cases (p k : Nat) (r : PointRuntime) : (s.setPt p r).pt k = s.pt k ∨ (k = p ∧ (s.setPt p r).pt k = r) := by
  rcases eq_or_ne k p with rfl | other
  · by_cases inside : 1 ≤ k ∧ k ≤ 63
    · exact .inr ⟨rfl, s.pt_setPt_self k r inside⟩
    · exact .inl (by rw [State.pt, State.pt, readAt_outside _ _ inside, readAt_outside _ _ inside])
  · exact .inl (s.pt_setPt_ne r other)

/-- A point FAILED stands evaluated. -/
theorem StandsEvaluated.setPt_failed {s : State} {p k : Nat} (stands : StandsEvaluated s k) {r : PointRuntime} (failed : r.state = .failed) :
    StandsEvaluated (s.setPt p r) k := by
  rcases s.pt_setPt_cases p k r with same | ⟨-, own⟩
  · exact stands.of_same ⟨rfl, rfl, rfl, fun _ _ => rfl, rfl⟩ (.inl same)
  · have state : ((s.setPt p r).pt k).state = .failed := (congrArg _ own).trans failed
    exact ⟨fun e he => absurd (state.symm.trans he) nofun, fun e he => absurd (state.symm.trans he) nofun⟩

/-- The step's own point is set FAILED. -/
theorem State.setPt_failed_handles {r : PointRuntime} (failed : r.state = .failed) : Handles i q True told s (s.setPt q r) :=
  Changes.handles ⟨⟨[], .of_same rfl rfl rfl rfl rfl rfl rfl⟩, .of_tables rfl rfl, fun _ _ => rfl, fun _ => rfl,
    fun _ soft => .of_same rfl rfl rfl (s.pt_setPt_ne r fun own => soft own trivial) (.refl _), fun _ => rfl,
    fun _ _ stands => StandsEvaluated.setPt_failed (s := s.leaveAll i) stands failed⟩ rfl

theorem State.changeCauses_handles (x : Causes) (ev : EngineEvent) : Handles i q True told s (s.changeCauses x ev) := by
  unfold State.changeCauses
  split
  · exact .refl s
  · extract_lets _ e s1
    have put : Handles i q True told s { s with engine := { e with state := e.settledState } } :=
      .of_plain (.of_tables rfl rfl) rfl rfl rfl rfl rfl (fun soft => absurd trivial soft) rfl fun _ => rfl
    have first : Handles i q True told s s1 := put.trans (State.offer_handles _ _)
    split
    · exact first
    · exact first.trans (State.recompute_handles _)

theorem State.countTold_handles : Handles i q True told s s.countTold :=
  .of_plain (.of_tables rfl rfl) rfl rfl rfl rfl rfl (fun soft => absurd trivial soft) rfl fun _ => rfl

theorem State.markFailed_handles (kind : PointFaultKind) : Handles i q True told s (s.markFailed q kind) :=
  (s.dropThrow_handles q).trans (State.setPt_failed_handles _ rfl)

theorem State.wrongLeg_handles : Handles i q True told s (s.wrongLeg q) := by
  unfold State.wrongLeg
  split
  · exact (s.setPt_failed_handles ‹_›).trans (State.offer_handles _ _)
  · refine .trans (.trans (.trans ?_ (State.countTold_handles _)) (State.changeCauses_handles _ _ _)) (State.offer_handles _ _)
    exact s.markFailed_handles .wrongLeg

/-! ### The leg check, the division check and re-entry (R86, R91 to R93) -/

theorem State.misrouted_handles (pathLeg observed : Leg) : Handles i q True told s (s.misrouted i q pathLeg observed) := by
  unfold State.misrouted
  extract_lets s1
  have first : Handles i q True told s s1 := s.wrongLeg_handles
  cases hx : s1.slot i with
  | none => exact first
  | some x =>
    refine first.trans (.trans (.trans ?_ (State.offer_handles _ _)) (State.takeRetarget_handles _ q observed _ q))
    exact s1.setSlot_handles hx id

theorem State.legCheck_handles (observed : Leg) : Handles i q True told s (s.legCheck i q observed) := by
  unfold State.legCheck
  split
  · exact .refl s
  · split
    · exact s.takeRetarget_handles q observed _ _
    · split
      · exact s.becomeLost_handles _ true
      · split
        · exact .refl s
        · exact s.misrouted_handles _ observed

theorem State.divisionCheck_handles (p : Nat) (observed : Leg) : Handles i q hard told s (s.divisionCheck i p observed) := by
  unfold State.divisionCheck
  split
  · exact .refl s
  · split
    · exact .refl s
    · split
      · exact s.becomeLost_handles _ true
      · split
        · exact .refl s
        · exact s.becomeLost_handles _ true

theorem State.reenter_handles (p : Nat) : Handles i q hard told s (s.reenter i p) := by
  unfold State.reenter
  split
  · exact .refl s
  · split
    · exact .refl s
    · split
      · exact s.joinClaim_handles p _
      · exact s.becomeLost_handles _ true

/-! ### Clearing (R94, R95) -/

theorem State.charge_handles (k n : Nat) : Handles i q hard told s (s.charge k n) := by
  unfold State.charge
  split
  · exact .refl s
  · rename_i r hr
    refine .of_plain ⟨rfl, rfl, rfl, rfl, rfl, fun j => ?_⟩ rfl rfl rfl rfl rfl (fun _ => rfl) rfl fun _ => rfl
    rcases eq_or_ne j k with rfl | other
    · by_cases inside : 1 ≤ j ∧ j ≤ 64
      · rw [hr, State.trackRecord, readAt_writeAt_self _ _ _ _ inside]
        rfl
      · rw [State.trackRecord, readAt_outside _ _ inside, State.trackRecord, readAt_outside _ _ inside]
    · rw [State.trackRecord, readAt_writeAt_ne _ _ _ other, ← State.trackRecord]

theorem State.clearInto_handles (k : Nat) (x : Slot) : Handles i q hard told s (s.clearInto i k x) :=
  ((((s.charge_handles k x.counted).trans (State.release_handles _)).trans (State.offer_handles _ _)).trans
    (State.left_handles _ _)).trans (State.freeUp_handles _)

theorem State.tryClear_handles : Handles i q hard told s (s.tryClear i) := by
  unfold State.tryClear
  split
  · exact .refl s
  · split
    · split
      · exact s.clearInto_handles _ _
      · exact .refl s
    all_goals exact .refl s

theorem State.startClearing_handles (k : Nat) : Handles i q hard told s (s.startClearing i k) := by
  unfold State.startClearing
  split
  · exact .refl s
  · extract_lets s1
    have first : Handles i q hard told s s1 := by
      unfold s1
      split
      · exact s.becomeLost_handles _ true
      · exact .refl s
    refine .trans (first.trans ?_) (State.tryClear_handles _)
    exact s1.updSlot_handles fun _ => rfl

theorem State.clearedAxle_handles (k : Nat) : Handles i q hard told s (s.clearedAxle i k) := by
  unfold State.clearedAxle
  split
  · exact .refl s
  · extract_lets s1
    have first : Handles i q hard told s s1 := by
      unfold s1
      split
      · exact s.becomeLost_handles _ true
      · exact .refl s
    refine .trans (first.trans ?_) (State.tryClear_handles _)
    exact s1.updSlot_handles fun _ => rfl

/-! ### Rolling back over the crest (R39, R40) -/

theorem State.shutBinder_handles : Handles i q hard told s s.shutBinder := .of_plain (.of_tables rfl rfl) rfl rfl rfl rfl rfl (fun _ => rfl) rfl fun _ => rfl

theorem State.returnRecord_handles (r : Option CutRecord) : Handles i q hard told s (s.returnRecord r) := by
  unfold State.returnRecord
  split
  · exact .refl s
  · split
    · refine .trans ?_ (State.recompute_handles _)
      exact .of_plain (.of_tables rfl rfl) rfl rfl rfl rfl rfl (fun _ => rfl) rfl fun _ => rfl
    · exact s.offer_handles _

theorem State.rollbackTest_handles : Handles i q hard told s (s.rollbackTest i) := by
  unfold State.rollbackTest
  split
  · exact .refl s
  · split
    · unfold State.rollBack
      extract_lets s1
      have first : Handles i q hard told s s1 :=
        (((s.left_handles _).trans (State.release_handles _)).trans (State.freeUp_handles _)).trans (State.returnRecord_handles _ _)
      split
      · exact first.trans (State.shutBinder_handles _)
      · exact first
    · exact .refl s

/-! ### The crossing (R80 to R82) -/

theorem State.stallAtOnce_handles : Handles i q hard told s (s.stallAtOnce i) := by
  unfold State.stallAtOnce
  split
  · unfold State.stallExpired
    cases hx : s.slot i with
    | none => exact .refl s
    | some x =>
      refine .trans ?_ (State.offer_handles _ _)
      exact s.setSlot_handles hx id
  · exact .refl s

/-- The counter is one of point `q`'s guard, or no guard counter. -/
def Counter.guards (q : Nat) : Counter → Prop
  | .guardIn p => p = q
  | .guardOut p _ => p = q
  | .lead | .clearance _ => True

/-- A crossing at a guard-out may be hard on its point (R91, R123). -/
theorem State.roleStep_handles {c : Counter} (guards : c.guards q) (hardOut : ∀ x, c = .guardOut q x → hard)
    (may : s.stands i q = false ∨ told q) (lost : Bool) : Handles i q hard told s (s.roleStep i lost c) := by
  cases c with
  | lead => exact .refl s
  | guardIn p =>
    cases guards
    simp only [State.roleStep]
    split
    · exact .refl s
    · exact s.settle_handles may
  | guardOut p x =>
    cases guards
    have every : hard = True := eq_true (hardOut x rfl)
    subst every
    simp only [State.roleStep]
    split
    · exact .refl s
    · exact s.legCheck_handles x
  | clearance k => exact s.startClearing_handles k

theorem State.headMoved_lost (x : Slot) (c : Counter) (t : Clock) : (s.headMoved x c t).flags.lost = x.flags.lost := by
  change (s.sampled x c t).flags.lost = _
  unfold State.sampled
  split <;> rfl

theorem State.headCrossing_handles {c : Counter} (guards : c.guards q) (hardOut : ∀ x, c = .guardOut q x → hard)
    (may : s.stands i q = false ∨ told q) {x : Slot} (hx : s.slot i = some x) (time : Clock) :
    Handles i q hard told s (s.headCrossing i x c time) := by
  have moved := s.setSlot_handles (q := q) (hard := hard) (told := told) hx (y := s.headMoved x c time) fun h => (s.headMoved_lost x c time).trans h
  have stands : (((s.setSlot i (some (s.headMoved x c time))).stallAtOnce i)).stands i q = s.stands i q := by
    simp [State.stands, State.claimList]
  exact (moved.trans (State.stallAtOnce_handles _)).trans (State.roleStep_handles _ guards hardOut (by rwa [stands]) _)

theorem State.lateral_handles (c : Counter) : Handles i q hard told s (s.lateral i c) := by
  cases c with
  | lead => exact .refl s
  | guardIn p => exact s.reenter_handles p
  | guardOut p x => exact s.divisionCheck_handles p x
  | clearance k => exact s.clearedAxle_handles k

theorem State.unanchor_handles : Handles i q hard told s (s.unanchor i) := s.updSlot_handles fun _ => rfl

theorem State.upStep_handles (c : Counter) : Handles i q hard told s (s.upStep i c) := by
  cases c with
  | lead => exact s.rollbackTest_handles
  | guardIn p => exact .refl s
  | guardOut p x => exact s.reenter_handles p
  | clearance k => exact .refl s

theorem State.sortCrossing_handles {c : Counter} (guards : c.guards q) (dir : Direction) (hardOut : ∀ x, c = .guardOut q x → dir = .down → hard)
    (may : s.stands i q = false ∨ told q) {x : Slot} (hx : s.slot i = some x) (time : Clock) :
    Handles i q hard told s (s.sortCrossing i x c dir time) := by
  unfold State.sortCrossing
  cases dir with
  | down =>
    simp only
    split
    · exact s.headCrossing_handles guards (fun x e => hardOut x e rfl) may hx time
    · exact s.lateral_handles c
  | up =>
    exact s.unanchor_handles.trans (State.upStep_handles _ c)

end

end Sys2Proof.Machine

/-! SUPPORT. What a crossing tells the points: the tracking table's taking of it, and the sections that it leaves and enters (R45, R51 to R54, R80, R96, R106). -/

namespace Sys2Proof.Machine

/-! ### Steps that tend the points and reach engine control on point `p`'s account alone -/

/-- The points are tended; every other point makes moves of its own, and point `p` too unless the step is `hard` on it, when engine
control may be told. -/
structure Tells (p : Nat) (hard : Prop) (s t : State) : Prop extends Tends s t where
  plays : ∀ k, (k = p → ¬hard) → Plays k (k = p) s t
  engine : ¬hard → t.engine = s.engine

section
variable {p : Nat} {hard : Prop} {s t u : State}

theorem Tells.refl (s : State) : Tells p hard s s := ⟨.refl s, fun k _ => .refl k _ s, fun _ => rfl⟩

theorem Tells.trans (h : Tells p hard s t) (g : Tells p hard t u) : Tells p hard s u :=
  ⟨h.toTends.trans g.toTends, fun k soft => (h.plays k soft).trans (g.plays k soft), fun soft => (g.engine soft).trans (h.engine soft)⟩

theorem Tells.foldl {α : Type} {f : State → α → State} (step : ∀ s a, Tells p hard s (f s a)) (l : List α) (s : State) :
    Tells p hard s (l.foldl f s) := by
  induction l generalizing s with
  | nil => exact .refl s
  | cons a l ih => exact (step s a).trans (ih _)

theorem Handles.tells {i : Nat} {told : Nat → Prop} (h : Handles i p hard told s t) (tends : Tends s t) : Tells p hard s t :=
  ⟨tends, h.plays, h.engine⟩

variable (s)

theorem State.offer_tells (b : ReportBody) : Tells p hard s (s.offer b) :=
  (State.offer_handles (i := 0) (told := fun _ => False) s b).tells (s.offer_tends b)

theorem State.becomeLost_tells (i : Nat) (cause : LostCause) (reported : Bool) : Tells p hard s (s.becomeLost i cause reported) :=
  (State.becomeLost_handles (told := fun _ => False) s cause reported).tells (s.becomeLost_tends i cause reported)

theorem State.reevaluate_tells (k : Nat) : Tells p hard s (s.reevaluate k) where
  toTends := s.reevaluateAll_tends [k]
  plays j _ := s.reevaluate_plays k j _
  engine _ := by simp

theorem State.withdrawn_tells : Tells p hard s (s.withdrawn p) where
  evaluated k h := by
    rcases eq_or_ne k p with rfl | other
    · exact State.reevaluate_standsEvaluated _ k
    · have sent := State.reevaluate_other (s.withdraw p) other
      rw [s.withdraw_other other] at sent
      exact h.of_same ((s.withdrawn_quiet p).sameOutlook k) sent
  relisted k := .inl ((s.withdrawn_quiet p).sameOutlook k).claims
  lost j h := fun x hx => h x (((s.withdrawn_quiet p).slot j).symm.trans hx)
  offered := (State.withdrawn_handles (i := 0) (told := fun _ => True) (hard := False) (.inr trivial)).offered
  plays j _ := s.withdrawn_plays id
  engine _ := by simp

/-! ### The tracking table takes a crossing (R80) -/

variable {s}

/-- Every point that the slot stood at or stands at being evaluated, the points are tended. -/
theorem Handles.tends {i : Nat} {told : Nat → Prop} (h : Handles i p hard told s t) (stood : ∀ k, s.stands i k = true → told k)
    (stands : ∀ k, t.stands i k = true → told k) (evaluated : ∀ k, told k → StandsEvaluated t k) : Tends s t where
  evaluated k e := by
    by_cases known : told k
    · exact evaluated k known
    · have absent : t.stands i k = false := Bool.of_not_eq_true fun m => known (stands k m)
      have before : s.stands i k = false := Bool.of_not_eq_true fun m => known (stood k m)
      exact (StandsEvaluated.leftOut absent).mp (h.evaluated k known (e.leaveAll before))
  relisted k := by
    by_cases known : told k
    · exact .inr (evaluated k known)
    · have absent : t.stands i k = false := Bool.of_not_eq_true fun m => known (stands k m)
      have before : s.stands i k = false := Bool.of_not_eq_true fun m => known (stood k m)
      exact .inl (by rw [← State.claimList_leaveAll_absent absent, h.claims, State.claimList_leaveAll_absent before])
  lost j lost := by
    rcases eq_or_ne j i with rfl | other
    · exact h.lost lost
    · exact fun x hx => lost x ((h.others j other).symm.trans hx)
  offered := h.offered

/-- The crossing of slot `i` taken: a step on it, after which every point that it stood at or stands at is evaluated (R80). -/
theorem State.takeCrossing_handles {i q : Nat} {c : Counter} (guards : c.guards q) (dir : Direction)
    (hardOut : ∀ x, c = .guardOut q x → dir = .down → hard) (time : Clock) {x : Slot} (hx : s.slot i = some x) :
    ∃ told, Handles i q hard told s (s.takeCrossing i c dir time false)
      ∧ (∀ k, s.stands i k = true ∨ (s.takeCrossing i c dir time false).stands i k = true → told k)
      ∧ ∀ k, told k → StandsEvaluated (s.takeCrossing i c dir time false) k := by
  obtain ⟨m, hm⟩ : ∃ m, m = (s.sortCrossing i x c dir time).tailTest i := ⟨_, rfl⟩
  obtain ⟨l, hl⟩ : ∃ l, l = (ids 63).filter fun k => s.stands i k || m.stands i k := ⟨_, rfl⟩
  have listed {k : Nat} : s.stands i k = true ∨ m.stands i k = true → k ∈ l := by
    intro stands
    rw [hl, List.mem_filter, Bool.or_eq_true]
    exact ⟨mem_ids.mpr (stands.elim State.stands_inside State.stands_inside), stands⟩
  have taken : s.takeCrossing i c dir time false = m.reevaluateAll l := by
    simp only [State.takeCrossing, hx, Bool.false_eq_true, if_false, hl, hm]
  have sorted : Handles i q hard (· ∈ l) s m := by
    rw [hm]
    refine .trans (s.sortCrossing_handles guards dir hardOut ?_ hx time) (State.tailTest_handles _)
    cases stood : s.stands i q with
    | false => exact .inl rfl
    | true => exact .inr (listed (.inl stood))
  rw [taken]
  refine ⟨(· ∈ l), sorted.trans (State.reevaluateAll_handles fun _ member => .inr member), fun k stands => listed ?_,
    fun k member => State.reevaluateAll_standsEvaluated m (.inl member)⟩
  rwa [(m.reevaluateAll_quiet l).stands i k] at stands

theorem State.takeCrossing_tells {i q : Nat} {c : Counter} (guards : c.guards q) (dir : Direction)
    (hardOut : ∀ x, c = .guardOut q x → dir = .down → hard) (time : Clock) {x : Slot} (hx : s.slot i = some x) :
    Tells q hard s (s.takeCrossing i c dir time false) := by
  obtain ⟨told, handles, stands, evaluated⟩ := State.takeCrossing_handles guards dir hardOut time hx
  exact handles.tells (handles.tends (fun k h => stands k (.inl h)) (fun k h => stands k (.inr h)) evaluated)

/-- The tracking table's taking of a crossing, whoever owns it. -/
theorem State.handOver_tells {q : Nat} {c : Counter} (guards : c.guards q) (dir : Direction)
    (hardOut : ∀ x, c = .guardOut q x → dir = .down → hard) (time : Clock) (owner : Owner) (discarded : Bool) :
    Tells q hard s (s.handOver owner c dir time discarded) := by
  cases owner with
  | unknown => exact .refl s
  | slot i =>
    cases discarded with
    | true => exact .refl s
    | false =>
      cases hx : s.slot i with
      | none =>
        have same : s.handOver (.slot i) c dir time false = s := by simp [State.handOver, State.takeCrossing, hx]
        rw [same]
        exact .refl s
      | some x => exact State.takeCrossing_tells guards dir hardOut time hx

/-! ### A section as an axle leaves it and enters it (R45, R51 to R54) -/

/-- The section when an axle has left it at one end. -/
def Section.leaving (x : Section) (side : Side) (d : Nat) (t : Clock) : Section :=
  match takeRun side x.runs with
  | some (_, runs) => { x with runs := runs }
  | none => { x with disturbance := some (x.disturbance.getD ⟨.emptySource, some d, some t⟩) }

/-- The section when an axle has entered it at one end, or has been discarded. -/
def Section.entering (x : Section) (side : Side) (owner : Owner) (d : Nat) (t : Clock) : Section :=
  match addRun owner side x.runs with
  | some runs => { x with runs := runs }
  | none => { x with disturbance := some (x.disturbance.getD ⟨.runOverflow, some d, some t⟩) }

variable (s)

theorem State.setSec_sec (id : SectionId) : s.setSec id (s.sec id) = s := by
  cases id with
  | guard k => simp only [State.setSec, State.sec, writeAt_readAt]
  | pointLink k => simp only [State.setSec, State.sec, writeAt_readAt]
  | trackLink k => simp only [State.setSec, State.sec, writeAt_readAt]

/-- A section already DISTURBED keeps its record. -/
theorem State.setSec_disturbed {id : SectionId} {x : Disturbance} (disturbed : (s.sec id).disturbance = some x) (y : Disturbance) :
    s.setSec id { s.sec id with disturbance := some ((s.sec id).disturbance.getD y) } = s := by
  have same : ({ s.sec id with disturbance := some ((s.sec id).disturbance.getD y) } : Section) = s.sec id := by
    rw [disturbed, Option.getD_some, ← disturbed]
  rw [same, s.setSec_sec]

/-- A section is disturbed: but for its record and its report, its slots and the discarded axle's owner become LOST. -/
theorem State.disturb_tells (id : SectionId) (cause : DisturbCause) (d : Option Nat) (t : Option Clock) (owner : Owner) :
    Tells p hard (s.setSec id { s.sec id with disturbance := some ((s.sec id).disturbance.getD ⟨cause, d, t⟩) }) (s.disturb id cause d t owner) := by
  unfold State.disturb
  cases disturbed : (s.sec id).disturbance with
  | some x =>
    have same := s.setSec_disturbed disturbed ⟨cause, d, t⟩
    rw [disturbed] at same
    rw [same]
    cases owner with
    | unknown => exact .refl s
    | slot i => exact s.becomeLost_tells i (.sec id) true
  | none => exact (Tells.foldl (fun a i => a.becomeLost_tells i (.sec id) false) _ _).trans (State.offer_tells _ _)

/-- Without an owner an empty section has no slot to lose. -/
theorem State.disturb_empty {id : SectionId} (empty : (s.sec id).runs = []) (cause : DisturbCause) (d : Option Nat) (t : Option Clock) :
    Told (s.setSec id { s.sec id with disturbance := some ((s.sec id).disturbance.getD ⟨cause, d, t⟩) }) (s.disturb id cause d t .unknown) := by
  unfold State.disturb
  cases disturbed : (s.sec id).disturbance with
  | some x =>
    have same := s.setSec_disturbed disturbed ⟨cause, d, t⟩
    rw [disturbed] at same
    rw [same]
    exact .refl s
  | none =>
    have none : s.disturbedSlots id .unknown = [] := by
      rw [List.eq_nil_iff_forall_not_mem]
      intro i m
      obtain ⟨-, held, -⟩ := State.mem_disturbedSlots.mp m
      rw [Section.holds_iff, empty] at held
      obtain ⟨r, member, -⟩ := held
      cases member
    simp only [none, List.foldl_nil]
    exact State.offer_told _ _

theorem takeRun_none {side : Side} {l : List Run} (h : takeRun side l = none) : l = [] := by
  cases side with
  | head => cases l <;> simp_all [takeRun, takeHead]
  | tail =>
    rw [takeRun, Option.map_eq_none_iff] at h
    cases e : l.reverse with
    | nil => simpa using e
    | cons r rest => simp [e, takeHead] at h

/-- An axle that leaves a section changes no more than it, what the ports send, and the report queue. -/
theorem State.takeAxle_told (id : SectionId) (side : Side) (d : Nat) (t : Clock) :
    Told (s.setSec id ((s.sec id).leaving side d t)) (s.takeAxle id side d t).1 := by
  unfold State.takeAxle Section.leaving
  cases taken : takeRun side (s.sec id).runs with
  | some x => exact .refl _
  | none => exact s.disturb_empty (takeRun_none taken) _ _ _

/-- An axle that enters a section may make slots LOST beside. -/
theorem State.enterAxle_tells (id : SectionId) (side : Side) (owner : Owner) (d : Nat) (t : Clock) :
    Tells p hard (s.setSec id ((s.sec id).entering side owner d t)) (s.enterAxle id side owner d t).1 := by
  unfold State.enterAxle Section.entering
  cases addRun owner side (s.sec id).runs with
  | some runs =>
    simp only
    split
    · exact State.becomeLost_tells _ _ _ true
    · exact .refl _
  | none => exact s.disturb_tells id _ _ _ owner

end

end Sys2Proof.Machine

/-! SUPPORT. The point of a guard told of an entry and of its guard's clearness: what that tells the other points, and what becomes of it (R56, R114, R120, R121). -/

namespace Sys2Proof.Machine

/-! ### Engine control told (R132, R136) -/

/-- Nothing that a point's re-evaluation reads changes. -/
theorem Tends.of_plain {s t : State} (clock : t.clock = s.clock) (straps : t.straps = s.straps) (tables : t.tables = s.tables)
    (link : t.link = { s.link with commands := t.link.commands, signalSlot := t.link.signalSlot }) (reports : t.reports = s.reports)
    (sections : t.sections = s.sections) (points : t.points = s.points) (slots : t.slots = s.slots) (claims : t.claims = s.claims) : Tends s t where
  evaluated k h := by
    refine h.of_same ⟨clock, tables, ?_, fun _ _ => ?_, ?_⟩ (.inl ?_)
    · rw [State.claimList, claims, ← State.claimList]
    · rw [State.slot, slots, ← State.slot]
    · rw [State.guardClear, State.sec_congr sections, ← State.guardClear]
    · rw [State.pt, points, ← State.pt]
  relisted k := .inl (by rw [State.claimList, claims, ← State.claimList])
  lost j h := h.of_slots slots
  offered := ⟨[], .of_same clock straps (by rw [tables]) (by rw [link]) (by rw [link]) (by rw [link]) reports⟩

section
variable (s : State)

theorem State.recompute_tends : Tends s s.recompute := by
  unfold State.recompute
  split
  · exact .refl s
  · refine .trans (t := { s with signal := { s.signal with demand := s.demandNow } }) ?_ ?_
    · exact .of_plain rfl rfl rfl rfl rfl rfl rfl rfl rfl
    · unfold State.writeDemand
      split
      · exact .refl _
      · refine .trans ?_ ((State.select_onlySends _ .t).tends (State.select_queues _ .t))
        exact .of_plain rfl rfl rfl rfl rfl rfl rfl rfl rfl

theorem State.changeCauses_tends (x : Causes) (ev : EngineEvent) : Tends s (s.changeCauses x ev) := by
  unfold State.changeCauses
  split
  · exact .refl s
  · extract_lets _ e s1
    have first : Tends s s1 := by
      refine .trans ?_ (State.offer_tends _ _)
      exact .of_plain rfl rfl rfl rfl rfl rfl rfl rfl rfl
    split
    · exact first
    · exact first.trans (State.recompute_tends _)

theorem State.markFailed_tends (p : Nat) (kind : PointFaultKind) : Tends s (s.markFailed p kind) := by
  refine .trans (t := s.dropThrow p) ?_ ?_
  · exact .of_plain rfl rfl rfl rfl rfl rfl rfl rfl rfl
  · exact ⟨fun k h => h.setPt_failed rfl, fun k => .inl rfl, fun j h => h, [], .of_same rfl rfl rfl rfl rfl rfl rfl⟩

/-! ### A guard violation (R121) -/

/-- The point FAILED, and engine control told, before its slots become LOST. -/
def State.violationTold (s : State) (p : Nat) : State := (s.markFailed p .guardViolation).tellViolation false

theorem State.violation_eq (p : Nat) (entry : Option (Clock × Owner)) : s.violation p entry
    = ((s.violators p (entry.map Prod.snd)).foldl (fun a i => a.becomeLost i (.guardViolation p) true) (s.violationTold p)).offer
      (.guardViolation p (s.pt p).state ((entry.map Prod.fst).getD s.clock) (entry.map Prod.snd) (s.violators p (entry.map Prod.snd))) := rfl

theorem State.violationTold_tells (p : Nat) : Tells p True s (s.violationTold p) := by
  have tells : Tends s (s.violationTold p) := by
    refine (s.markFailed_tends p .guardViolation).trans (.trans (t := (s.markFailed p .guardViolation).countTold) ?_ (State.changeCauses_tends _ _ _))
    exact .of_plain rfl rfl rfl rfl rfl rfl rfl rfl rfl
  have handles : Handles 0 p True (fun _ => False) s (s.violationTold p) :=
    ((s.markFailed_handles _).trans (State.countTold_handles _)).trans (State.changeCauses_handles _ _ _)
  exact handles.tells tells

theorem State.violation_tells (p : Nat) (entry : Option (Clock × Owner)) : Tells p True s (s.violation p entry) := by
  rw [s.violation_eq p entry]
  exact ((s.violationTold_tells p).trans (.foldl (fun a i => a.becomeLost_tells i _ true) _ _)).trans (State.offer_tells _ _)

/-- The slots of the guard, and the entering axle's owner, are LOST. -/
theorem State.violation_lost {p i : Nat} {entry : Option (Clock × Owner)}
    (h : (s.sec (.guard p)).holds i = true ∨ entry.map Prod.snd = some (.slot i)) : LostIfInUse (s.violation p entry) i := by
  rw [s.violation_eq p entry]
  refine (State.offer_tends _ _).lost i ?_
  by_cases inside : 1 ≤ i ∧ i ≤ 16
  · refine State.becomeLost_foldl _ true (List.mem_filter.mpr ⟨mem_ids.mpr inside, ?_⟩) _
    rcases h with held | owner
    · simp [held]
    · simp [owner]
  · exact fun x hx => absurd (State.slot_inside hx) inside

/-- Engine control after a change of the cause set. -/
theorem State.changeCauses_engine (x : Causes) (ev : EngineEvent) : (s.changeCauses x ev).engine
    = if x = s.engine.causes then s.engine
      else { s.engine with causes := x, state := ({ s.engine with causes := x } : EngineControl).settledState } := by
  unfold State.changeCauses
  split
  · rfl
  · extract_lets _ e s1
    have engine : s1.engine = { e with state := e.settledState } := (State.offer_onlySends _ _).engine
    split
    · exact engine
    · exact Eq.trans (by simp) engine

/-- A point that makes moves of its own is FAILED where it was. -/
theorem PointMoves.failed_iff {k allowance : Nat} {clear : Bool} {now : Clock} {forced : Prop} {r r' : PointRuntime}
    (moves : PointMoves k clear now allowance forced r r') : r'.state = .failed ↔ r.state = .failed := by
  induction moves with
  | refl => rfl
  | tail _ move ih =>
    rw [← ih]
    cases move with
    | place state => simp [state]
    | withdraw state => simp [state]
    | start waits =>
      obtain ⟨-, e, state | state⟩ := waits
      · simp [PointRuntime.started, state]
      · simp [PointRuntime.started, state]

theorem Plays.countFailed {forced : Nat → Prop} {s t : State} (h : ∀ k, 1 ≤ k → Plays k (forced k) s t) : t.countFailed = s.countFailed := by
  rw [State.countFailed_eq, State.countFailed_eq]
  refine List.countP_congr fun k m => ?_
  simpa only [decide_eq_true_eq] using (h k (mem_ids.mp m).1).moves.failed_iff

theorem Plays.failed {k : Nat} {forced : Prop} {s t : State} (h : Plays k forced s t) (failed : (s.pt k).state = .failed) : t.pt k = s.pt k := by
  have moves := h.moves
  generalize t.pt k = r' at moves ⊢
  induction moves with
  | refl => rfl
  | tail _ move ih =>
    subst ih
    cases move with
    | place state => cases failed.symm.trans state
    | withdraw state => cases failed.symm.trans state
    | start waits =>
      obtain ⟨-, e, state | state⟩ := waits
      · cases failed.symm.trans state
      · cases failed.symm.trans state

/-- With GUARD_VIOLATION in the set the engine is not in RUN (R136). -/
theorem EngineControl.settled_violated {e : EngineControl} (violation : e.causes.guardViolation = true) : e.settledState ≠ .run := by
  have some_ : e.causes.none = false := by
    refine decide_eq_false fun empty => ?_
    rw [empty] at violation
    cases violation
  unfold EngineControl.settledState
  rw [some_]
  cases e.state <;> nofun

/-- What a violation makes of the point over its occupied guard, and of engine control (R121, R122). -/
theorem State.violation_guardViolated {p : Nat} (inside : 1 ≤ p ∧ p ≤ 63) (occupied : s.guardClear p = false)
    (entry : Option (Clock × Owner)) : GuardViolated s (s.violation p entry) p := by
  obtain ⟨v, hv⟩ : ∃ v, v = s.violation p entry := ⟨_, rfl⟩
  have lost (i : Nat) (held : (v.sec (.guard p)).holds i = true) : LostIfInUse v i := by
    rw [hv, State.sec_congr (State.violation_frame s p entry false).2.2.2.2.2.2.2.1] at held
    exact hv ▸ s.violation_lost (.inl held)
  obtain ⟨f, hf⟩ : ∃ f, f = s.markFailed p .guardViolation := ⟨_, rfl⟩
  have pt : f.pt p = (s.pt p).violated := hf ▸ s.markFailed_pt inside .guardViolation
  have unqueued : Unqueued f p := fun c m => by
    rw [hf] at m
    exact of_decide_eq_true (List.mem_filter.mp m).2
  have still : f.guardClear p = false := hf ▸ occupied
  have engine : f.engine = s.engine := hf ▸ rfl
  obtain ⟨w, hw⟩ : ∃ w, w = f.countTold.changeCauses f.causesViolated
      (.causeSet (if f.engine.causes.guardViolation then .pointFailed else .guardViolation)) := ⟨_, rfl⟩
  have told : Handles 0 0 True (fun _ => False) f w := hw ▸ (State.countTold_handles _).trans (State.changeCauses_handles _ _ _)
  have rest : Tells 0 False w v := by
    rw [hv, s.violation_eq p entry, show s.violationTold p = w by rw [hw, hf]; rfl]
    exact (Tells.foldl (fun a i => a.becomeLost_tells i _ true) _ _).trans (State.offer_tells _ _)
  have plays (k : Nat) (low : 1 ≤ k) : Plays k (k = 0) f v :=
    (told.plays k fun own => absurd own (by omega)).trans (rest.plays k fun _ => not_false)
  have same : v.engine = w.engine := rest.engine not_false
  obtain ⟨violation, command, supervision⟩ := f.causesViolated_has
  have causes : w.engine.causes = f.causesViolated := by
    rw [hw, State.changeCauses_engine]
    split
    · exact Eq.symm ‹_›
    · rfl
  have failed : w.engine.failed = f.countFailed := by
    rw [hw, State.changeCauses_engine]
    split <;> rfl
  rw [← hv]
  refine ⟨⟨_, rfl, ?_⟩, (plays p inside.1).parked still (.inl unqueued), ?_, ?_, fun first => ?_, ?_, ?_, lost⟩
  · rw [(plays p inside.1).failed (by rw [pt]; rfl), pt]
    rfl
  · rw [same, failed, Plays.countFailed plays]
  · rw [same, causes, violation]
  · rw [same, hw, State.changeCauses_engine, if_neg]
    · exact EngineControl.settled_violated violation
    · intro unchanged
      have : s.engine.causes.guardViolation = true := engine ▸ (congrArg Causes.guardViolation unchanged).symm.trans violation
      rw [first] at this
      cases this
  · rw [same, causes, command, engine]
  · rw [same, causes, supervision, engine]

/-! ### The guard notices (R56, R120) -/

theorem State.guardEntry_tells (p : Nat) (t : Clock) (owner : Owner) : Tells p True s (s.guardEntry p t owner) := by
  unfold State.guardEntry
  split
  · exact s.withdrawn_tells
  · exact s.violation_tells p _
  · exact s.violation_tells p _
  all_goals exact .refl s

theorem State.guardOccupied_tells (p : Nat) : Tells p True s (s.guardOccupied p) := by
  unfold State.guardOccupied
  split
  · exact s.withdrawn_tells
  · split
    · exact s.violation_tells p none
    · exact .refl s
  all_goals exact .refl s

theorem State.guardChange_tells (p : Nat) (before : Bool) : Tells p True s (s.guardChange p before) := by
  unfold State.guardChange
  split
  · exact .refl s
  · split
    · exact s.reevaluate_tells p
    · exact s.guardOccupied_tells p

theorem State.guardNotices_tells (p : Nat) (entry before : Bool) (t : Clock) (owner : Owner) :
    Tells p True s (s.guardNotices p entry before t owner) := by
  unfold State.guardNotices
  refine .trans ?_ (State.guardChange_tells _ p before)
  split
  · exact s.guardEntry_tells p t owner
  · exact .refl s

/-- A guard that has become clear has its point evaluated. -/
theorem State.guardNotices_evaluated {p : Nat} (clear : s.guardClear p = true) (t : Clock) (owner : Owner) (entry : Bool) :
    StandsEvaluated (s.guardNotices p entry false t owner) p := by
  have same : (if entry then s.guardEntry p t owner else s).guardClear p = true := by
    rw [State.guardClear, State.sec_congr (s := s) (by split <;> simp), ← State.guardClear, clear]
  unfold State.guardNotices State.guardChange
  simp only [same, Bool.false_eq_true, if_false, if_true]
  exact State.reevaluate_standsEvaluated _ p

end

end Sys2Proof.Machine

/-! SUPPORT. The axle leaves one section and enters another, as the statements of the crossings say it (R41, R45, R48, R51 to R54). -/

namespace Sys2Proof.Machine

/-! ### Section lists from either end (R41, R45, R52) -/

theorem facing_facing (side : Side) (l : List Run) : facing side (facing side l) = l := by
  cases side with
  | head => rfl
  | tail => exact List.reverse_reverse l

theorem takeRun_eq (side : Side) (l : List Run) :
    takeRun side l = (takeHead (facing side l)).map fun x => (x.1, facing side x.2) := by
  cases side with
  | head => cases l <;> rfl
  | tail => rfl

theorem addRun_eq (owner : Owner) (side : Side) (l : List Run) : addRun owner side l = (addHead owner (facing side l)).map (facing side) := by
  cases side with
  | head => exact Option.map_id'.symm
  | tail => rfl

/-- An axle taken is one of the run at the end. -/
theorem takeRun_taken {side : Side} {l m : List Run} {o : Owner} (h : takeRun side l = some (o, m)) : AxleTaken side l o m := by
  rw [takeRun_eq, Option.map_eq_some_iff] at h
  obtain ⟨⟨o', m'⟩, taken, e⟩ := h
  cases e
  unfold AxleTaken
  rw [facing_facing]
  cases e : facing side l with
  | nil => simp [e, takeHead] at taken
  | cons r rest =>
    simp only [e, takeHead, Option.some.injEq, Prod.mk.injEq] at taken
    obtain ⟨rfl, rfl⟩ := taken
    exact ⟨r.count, rest, rfl, rfl⟩

/-- An axle is added where it fits, and nowhere else. -/
theorem addRun_added {side : Side} {l m : List Run} {o : Owner} (h : addRun o side l = some m) : AxleFits side l o ∧ AxleAdded side l o m := by
  have length : (facing side l).length = l.length := by cases side <;> simp [facing]
  rw [addRun_eq, Option.map_eq_some_iff] at h
  obtain ⟨m', added, rfl⟩ := h
  unfold AxleFits AxleAdded
  rw [facing_facing, ← length]
  cases e : facing side l with
  | nil =>
    rw [e, addHead, Option.some.injEq] at added
    exact ⟨trivial, added.symm⟩
  | cons r rest =>
    rw [e, addHead] at added
    simp only
    split at added
    · rename_i same
      simp only [Option.ite_none_right_eq_some, Option.some.injEq] at added
      obtain ⟨room, rfl⟩ := added
      rw [if_pos same, if_pos same, ← same]
      exact ⟨room, rfl⟩
    · rename_i other
      simp only [Option.ite_none_right_eq_some, Option.some.injEq] at added
      obtain ⟨room, rfl⟩ := added
      rw [if_neg other, if_neg other]
      exact ⟨room, rfl⟩

theorem addRun_none {side : Side} {l : List Run} {o : Owner} (h : addRun o side l = none) : ¬AxleFits side l o := by
  have length : (facing side l).length = l.length := by cases side <;> simp [facing]
  rw [addRun_eq, Option.map_eq_none_iff] at h
  unfold AxleFits
  rw [← length]
  cases e : facing side l with
  | nil => simp [e, addHead] at h
  | cons r rest =>
    rw [e, addHead] at h
    simp only
    split at h
    · rename_i same
      rw [if_pos same]
      exact fun room => nomatch (if_pos (show r.count < Config.axleCap from room)).symm.trans h
    · rename_i other
      rw [if_neg other]
      exact fun room => nomatch (if_pos (show (r :: rest).length < Config.runRoom from room)).symm.trans h

theorem AxleFits.addRun {side : Side} {l : List Run} {o : Owner} (h : AxleFits side l o) : ∃ m, addRun o side l = some m := by
  cases e : Machine.addRun o side l with
  | none => exact absurd h (addRun_none e)
  | some m => exact ⟨m, rfl⟩

theorem State.slot_setSec (s : State) (id : SectionId) (x : Section) (i : Nat) : (s.setSec id x).slot i = s.slot i := by cases id <;> rfl

/-! ### What stands between the telegram and the section, and after it -/

/-- Before the axle enters: reports have been offered, and the slots in use have kept their numbers and LOST flags. -/
structure Onset (s t : State) : Prop where
  offered : ∃ bodies, Offers s t bodies
  slots : ∀ i x, s.slot i = some x → ∃ y, t.slot i = some y ∧ y.number = x.number ∧ y.flags.lost = x.flags.lost

theorem Onset.refl (s : State) : Onset s s := ⟨⟨[], .refl s⟩, fun _ x h => ⟨x, h, rfl, rfl⟩⟩

/-- After it: the section has stayed, LOST slots have, and reports have been offered. -/
structure Outcome (s t : State) (id : SectionId) : Prop where
  offered : ∃ bodies, Offers s t bodies
  lost : ∀ j, LostIfInUse s j → LostIfInUse t j
  same : t.sec id = s.sec id

theorem Outcome.trans {s t u : State} {id : SectionId} (h : Outcome s t id) (g : Outcome t u id) : Outcome s u id where
  offered := by
    obtain ⟨a, first⟩ := h.offered
    obtain ⟨b, second⟩ := g.offered
    exact ⟨_, first.trans second⟩
  lost j l := g.lost j (h.lost j l)
  same := g.same.trans h.same

theorem Tends.outcome {s t : State} (h : Tends s t) (sections : t.sections = s.sections) (id : SectionId) : Outcome s t id where
  offered := h.offered.imp fun _ q => q.toOffers
  lost := h.lost
  same := State.sec_congr sections id

theorem OnlySends.outcome {s t : State} (h : OnlySends s t) {bodies : List ReportBody} (offers : Offers s t bodies) (id : SectionId) :
    Outcome s t id := ⟨⟨bodies, offers⟩, fun _ l => l.of_slots h.slots, State.sec_congr h.sections id⟩

theorem Offers.within {s a e t : State} {bodies : List ReportBody} (before : ∃ l, Offers s a l) (offers : Offers a e bodies)
    (after : ∃ l, Offers e t l) : ∃ first last, Reported s t (first ++ bodies ++ last) := by
  obtain ⟨first, before⟩ := before
  obtain ⟨last, after⟩ := after
  exact ⟨first, last, ((before.trans offers).trans after).reported⟩

section
variable {s a e t : State} {id : SectionId} {side : Side} {d : Nat} {time : Clock} {owner : Owner}

theorem DisturbedBy.between {record : Disturbance} (onset : Onset s a) (same : a.sec id = s.sec id)
    (h : (e.sec id).disturbance = some ((a.sec id).disturbance.getD record)
      ∧ ((a.sec id).disturbance = none → (∀ i, (a.sec id).holds i = true → LostIfInUse e i)
        ∧ ∃ slots, Offers a e [.sectionDisturbed id record.cause record.detector record.time slots] ∧ slots.Pairwise (· < ·)
          ∧ ∀ i x, a.slot i = some x → (i ∈ slots ↔ ((a.sec id).holds i = true ∨ owner = .slot i) ∧ x.flags.lost = false)))
    (outcome : Outcome e t id) : DisturbedBy s t id record owner := by
  rw [same] at h
  obtain ⟨disturbed, normal⟩ := h
  refine ⟨outcome.same ▸ disturbed, fun none => ?_⟩
  obtain ⟨held, slots, offers, ascending, listed⟩ := normal none
  obtain ⟨first, last, reported⟩ := Offers.within onset.offered offers outcome.offered
  refine ⟨fun i h => outcome.lost i (held i h), first, last, slots, by simpa using reported, ascending, fun i x hx => ?_⟩
  obtain ⟨y, hy, -, lost⟩ := onset.slots i x hx
  rw [listed i y hy, lost]

/-! ### Disturbances (R53) -/

theorem State.mem_disturbedSlots_owner {s : State} {j : Nat} : j ∈ s.disturbedSlots id owner
    ↔ (1 ≤ j ∧ j ≤ 16) ∧ ((s.sec id).holds j = true ∨ owner = .slot j) ∧ ∃ x, s.slot j = some x ∧ x.flags.lost = false := by
  cases hx : s.slot j <;> simp [State.disturbedSlots, State.isLost, hx]

theorem State.becomeLost_silent (s : State) (i : Nat) (cause : LostCause) : Offers s (s.becomeLost i cause false) [] := by
  cases hx : s.slot i with
  | none => simpa [State.becomeLost, hx] using Offers.refl s
  | some x =>
    cases held : x.flags.lost with
    | true => rw [State.becomeLost_lost hx held]; exact .refl s
    | false =>
      rw [State.becomeLost_eq hx held, if_neg Bool.false_ne_true]
      exact (s.dropped_offers i x).before (State.setSlot_offers _ i _)

theorem State.becomeLost_foldl_sections (cause : LostCause) (reported : Bool) (l : List Nat) (s : State) :
    (l.foldl (fun a i => a.becomeLost i cause reported) s).sections = s.sections := by
  induction l generalizing s with
  | nil => rfl
  | cons i l ih => exact (ih _).trans (by simp)

theorem State.becomeLost_foldl_silent (cause : LostCause) (l : List Nat) (s : State) :
    Offers s (l.foldl (fun a i => a.becomeLost i cause false) s) [] := by
  induction l generalizing s with
  | nil => exact .refl s
  | cons i l ih => exact (s.becomeLost_silent i cause).after (ih _)

variable (s)

theorem State.disturb_sections (id : SectionId) (cause : DisturbCause) (d : Option Nat) (t : Option Clock) (owner : Owner) :
    (s.disturb id cause d t owner).sections
      = (s.setSec id { s.sec id with disturbance := some ((s.sec id).disturbance.getD ⟨cause, d, t⟩) }).sections := by
  unfold State.disturb
  cases disturbed : (s.sec id).disturbance with
  | some x =>
    have same := s.setSec_disturbed disturbed ⟨cause, d, t⟩
    rw [disturbed] at same
    rw [same]
    cases owner with
    | unknown => rfl
    | slot i => exact (State.becomeLost_frame ..).2.2.2.2.2.2.2.1
  | none => exact (State.offer_onlySends _ _).sections.trans (State.becomeLost_foldl_sections _ _ _ _)

/-- An axle's entering changes no section but the one it enters. -/
theorem State.enterAxle_sections : (s.enterAxle id side owner d time).1.sections
    = (s.setSec id ((s.sec id).entering side owner d time)).sections := by
  unfold State.enterAxle Section.entering
  cases addRun owner side (s.sec id).runs with
  | some runs =>
    simp only
    split
    · exact (State.becomeLost_frame ..).2.2.2.2.2.2.2.1
    · rfl
  | none => exact s.disturb_sections ..

/-- A section disturbed: its record, its LOST slots and its report. -/
theorem State.disturb_told (inside : id.inRange = true) (record : Disturbance) :
    ((s.disturb id record.cause record.detector record.time owner).sec id).disturbance = some ((s.sec id).disturbance.getD record)
      ∧ ((s.sec id).disturbance = none →
        (∀ i, (s.sec id).holds i = true ∨ owner = .slot i → LostIfInUse (s.disturb id record.cause record.detector record.time owner) i)
        ∧ ∃ slots, Offers s (s.disturb id record.cause record.detector record.time owner)
            [.sectionDisturbed id record.cause record.detector record.time slots] ∧ slots.Pairwise (· < ·)
          ∧ ∀ i x, s.slot i = some x → (i ∈ slots ↔ ((s.sec id).holds i = true ∨ owner = .slot i) ∧ x.flags.lost = false)) := by
  unfold State.disturb
  cases disturbed : (s.sec id).disturbance with
  | some x =>
    refine ⟨?_, nofun⟩
    cases owner with
    | unknown => exact disturbed
    | slot i => exact (congrArg _ (State.sec_congr (by simp) id)).trans disturbed
  | none =>
    simp only
    obtain ⟨v, hv⟩ : ∃ v, v = s.setSec id { s.sec id with disturbance := some ⟨record.cause, record.detector, record.time⟩ } := ⟨_, rfl⟩
    have put : v.sec id = { s.sec id with disturbance := some ⟨record.cause, record.detector, record.time⟩ } := hv ▸ s.sec_setSec_self id _ inside
    have silent : Offers s v [] := hv ▸ (s.setSec_queues id _).toOffers
    rw [← hv]
    refine ⟨?_, fun _ => ⟨fun i h => (State.offer_tends _ _).lost i ?_, _,
      (silent.after (State.becomeLost_foldl_silent _ _ v)).after (State.offer_offers _ _), (ids_ascending 16).filter _, fun i x hx => ?_⟩⟩
    · rw [State.sec_congr (State.offer_onlySends _ _).sections, State.sec_congr (State.becomeLost_foldl_sections _ _ _ _), put]
      rfl
    · by_cases m : i ∈ s.disturbedSlots id owner
      · exact State.becomeLost_foldl _ _ m v
      · refine (Tends.foldl (fun a i => a.becomeLost_tends i _ false) _ v).lost i fun x hx => ?_
        rw [hv, s.slot_setSec] at hx
        exact Bool.of_not_eq_false fun held => m (State.mem_disturbedSlots_owner.mpr ⟨State.slot_inside hx, h, x, hx, held⟩)
    · rw [State.mem_disturbedSlots_owner]
      exact ⟨fun ⟨_, h, y, hy, held⟩ => ⟨h, Option.some.inj (hx.symm.trans hy) ▸ held⟩,
        fun ⟨h, held⟩ => ⟨State.slot_inside hx, h, x, hx, held⟩⟩

/-! ### The axle leaves (R45, R48, R51) -/

/-- An axle that leaves a section. -/
theorem State.takeAxle_leaves (inside : id.inRange = true) (outcome : Outcome (s.takeAxle id side d time).1 t id) :
    AxleLeaves s t id side d time (s.takeAxle id side d time).2 := by
  cases taken : takeRun side (s.sec id).runs with
  | some x =>
    obtain ⟨o, m⟩ := x
    have left : s.takeAxle id side d time = (s.setSec id { s.sec id with runs := m }, o) := by simp [State.takeAxle, taken]
    rw [left] at outcome ⊢
    have shape := takeRun_taken taken
    refine ⟨fun _ => ?_, fun empty => ?_⟩
    · rw [outcome.same, s.sec_setSec_self id _ inside]
      exact ⟨shape, rfl⟩
    · obtain ⟨n, l, before, -⟩ := shape
      rw [empty] at before
      cases side <;> cases before
  | none =>
    have empty := takeRun_none taken
    have left : s.takeAxle id side d time = (s.disturb id .emptySource (some d) (some time) .unknown, .unknown) := by
      simp [State.takeAxle, taken]
    rw [left] at outcome ⊢
    refine ⟨fun some_ => absurd empty some_, fun _ => ⟨rfl, ?_, ?_⟩⟩
    · obtain ⟨_, _, told⟩ := s.disturb_empty empty .emptySource (some d) (some time)
      rw [outcome.same, told]
      change ((s.setSec id _).sec id).runs = []
      rw [s.sec_setSec_self id _ inside]
      exact empty
    · obtain ⟨record, normal⟩ := s.disturb_told (owner := .unknown) inside ⟨.emptySource, some d, some time⟩
      refine .between (.refl s) rfl ⟨record, fun none => ?_⟩ outcome
      obtain ⟨lost, listed⟩ := normal none
      exact ⟨fun i held => lost i (.inl held), listed⟩

/-! ### The axle enters (R45, R48, R52 to R54) -/

/-- A slot becomes LOST with a report of its own. -/
theorem Outcome.lost_reported {u e : State} {i : Nat} {cause : LostCause} (onset : Onset u s) (silent : Offers s e [])
    (slot : e.slot i = s.slot i) (outcome : Outcome (e.becomeLost i cause true) t id) : LostIfInUse t i
      ∧ ∀ x, u.slot i = some x → x.flags.lost = false → ∃ before after, Reported u t (before ++ .cutLost i x.number cause :: after) := by
  refine ⟨outcome.lost i (e.becomeLost_lostIfInUse i cause true), fun x hx held => ?_⟩
  obtain ⟨y, hy, number, lost⟩ := onset.slots i x hx
  have told := silent.after (State.becomeLost_reported (slot.trans hy) (lost.trans held) cause)
  obtain ⟨first, last, reported⟩ := Offers.within onset.offered told outcome.offered
  exact ⟨first, last, by simpa [number] using reported⟩

/-- An axle that enters a section. -/
theorem State.enterAxle_enters {u : State} (inside : id.inRange = true) (onset : Onset u s) (same : s.sec id = u.sec id)
    (outcome : Outcome (s.enterAxle id side owner d time).1 t id) : AxleEnters u t id side d time owner := by
  unfold AxleEnters
  rw [← same]
  cases added : addRun owner side (s.sec id).runs with
  | some m =>
    obtain ⟨fits, shape⟩ := addRun_added added
    obtain ⟨v, hv⟩ : ∃ v, v = s.setSec id { s.sec id with runs := m } := ⟨_, rfl⟩
    have put : v.sec id = { s.sec id with runs := m } := hv ▸ s.sec_setSec_self id _ inside
    have silent : Offers s v [] := hv ▸ (s.setSec_queues id _).toOffers
    have slot (i : Nat) : v.slot i = s.slot i := hv ▸ s.slot_setSec id _ i
    have recorded (kept : t.sec id = v.sec id) : AxleAdded side (s.sec id).runs owner (t.sec id).runs
        ∧ (t.sec id).disturbance = (s.sec id).disturbance := by
      rw [kept, put]
      exact ⟨shape, rfl⟩
    refine ⟨fun _ => recorded (outcome.same.trans (State.sec_congr ?_ id)), fun not => absurd fits not, ?_⟩
    · simp only [State.enterAxle, added, hv]
      split <;> simp
    · have lost (i : Nat) (own : owner = .slot i) (disturbed : (s.sec id).disturbance ≠ none) : Outcome (v.becomeLost i (.sec id) true) t id := by
        obtain ⟨y, hy⟩ := Option.ne_none_iff_exists'.mp disturbed
        have entered : (s.enterAxle id side owner d time).1 = v.becomeLost i (.sec id) true := by
          subst own
          simp only [State.enterAxle, added, hy, hv]
        rwa [← entered]
      exact ⟨fun unfit i own => ((lost i own (unfit.resolve_left fun not => not fits)).lost_reported s onset silent (slot i)).1,
        fun disturbed i x own => ((lost i own disturbed).lost_reported s onset silent (slot i)).2 x⟩
  | none =>
    have entered : (s.enterAxle id side owner d time).1 = s.disturb id .runOverflow (some d) (some time) owner := by
      simp only [State.enterAxle, added]
    rw [entered] at outcome
    obtain ⟨record, normal⟩ := s.disturb_told (owner := owner) inside ⟨.runOverflow, some d, some time⟩
    have lost (i : Nat) (own : owner = .slot i) (disturbed : (s.sec id).disturbance ≠ none) : Outcome (s.becomeLost i (.sec id) true) t id := by
      obtain ⟨y, hy⟩ := Option.ne_none_iff_exists'.mp disturbed
      simpa only [State.disturb, hy, own] using outcome
    refine ⟨fun fits => absurd fits (addRun_none added), fun _ => ⟨?_, ?_⟩, fun _ i own => ?_,
      fun disturbed i x own => ((lost i own disturbed).lost_reported s onset (.refl s) rfl).2 x⟩
    · rw [outcome.same, State.sec_congr (s.disturb_sections ..) id, s.sec_setSec_self id _ inside]
    · refine .between onset same ⟨record, fun none => ?_⟩ outcome
      obtain ⟨lost, listed⟩ := normal none
      exact ⟨fun i held => lost i (.inl held), listed⟩
    · by_cases disturbed : (s.sec id).disturbance = none
      · exact outcome.lost i ((normal disturbed).1 i (.inr own))
      · exact ((lost i own disturbed).lost_reported s onset (.refl s) rfl).1

end

end Sys2Proof.Machine

/-! SUPPORT. What steps leave of a slot that they do not make LOST: its routing, its head, and the claims that its claim set still wants (R84, R85). -/

namespace Sys2Proof.Machine

/-- Slot `i`, where it is in use and not LOST after the step, was so before, with this path and unresolved point, and with this head unless
the step `moved` it; and it stands in the claim lists in which it stood. -/
structure SlotStays (i : Nat) (moved : Prop) (s t : State) : Prop where
  paths : t.tables.pointPaths = s.tables.pointPaths
  slot : ∀ y, t.slot i = some y → y.flags.lost = false → (∃ x, s.slot i = some x ∧ x.flags.lost = false ∧ x.path = y.path
    ∧ x.unresolved = y.unresolved ∧ (¬moved → x.head = y.head)) ∧ ∀ k, t.stands i k = s.stands i k

/-- Slot `i`, where it is in use and not LOST after the step, was so before, and stands in every claim list of its claim set in which it
stood. -/
structure Realigns (i : Nat) (s t : State) : Prop where
  paths : t.tables.pointPaths = s.tables.pointPaths
  slot : ∀ y, t.slot i = some y → y.flags.lost = false → (∃ x, s.slot i = some x ∧ x.flags.lost = false)
    ∧ ∀ k, s.stands i k = true → (t.claimWant y k).isSome = true → t.stands i k = true

section
variable {i : Nat} {moved : Prop} {s t u : State}

theorem SlotStays.refl (s : State) : SlotStays i moved s s :=
  ⟨rfl, fun y hy held => ⟨⟨y, hy, held, rfl, rfl, fun _ => rfl⟩, fun _ => rfl⟩⟩

theorem SlotStays.trans (h : SlotStays i moved s t) (g : SlotStays i moved t u) : SlotStays i moved s u where
  paths := g.paths.trans h.paths
  slot z hz held := by
    obtain ⟨⟨y, hy, held, path, unresolved, head⟩, stands⟩ := g.slot z hz held
    obtain ⟨⟨x, hx, held, path', unresolved', head'⟩, stands'⟩ := h.slot y hy held
    exact ⟨⟨x, hx, held, path'.trans path, unresolved'.trans unresolved, fun m => (head' m).trans (head m)⟩,
      fun k => (stands k).trans (stands' k)⟩

theorem SlotStays.foldl {α : Type} {f : State → α → State} (step : ∀ s a, SlotStays i moved s (f s a)) (l : List α) (s : State) :
    SlotStays i moved s (l.foldl f s) := by
  induction l generalizing s with
  | nil => exact .refl s
  | cons a l ih => exact (step s a).trans (ih _)

theorem SlotStays.weaken (h : SlotStays i False s t) : SlotStays i moved s t :=
  ⟨h.paths, fun y hy held => (h.slot y hy held).imp_left fun ⟨x, hx, held, path, unresolved, head⟩ =>
    ⟨x, hx, held, path, unresolved, fun _ => head not_false⟩⟩

/-- A slot that is FREE or LOST after the step is of no concern. -/
theorem SlotStays.of_lost (paths : t.tables.pointPaths = s.tables.pointPaths) (lost : LostIfInUse t i) : SlotStays i moved s t :=
  ⟨paths, fun y hy held => absurd ((lost y hy).symm.trans held) nofun⟩

theorem SlotStays.of_same (paths : t.tables.pointPaths = s.tables.pointPaths) (slots : t.slots = s.slots) (claims : t.claims = s.claims) :
    SlotStays i moved s t :=
  ⟨paths, fun y hy held => ⟨⟨y, by rwa [State.slot, slots] at hy, held, rfl, rfl, fun _ => rfl⟩,
    fun k => by rw [State.stands, State.claimList, claims, ← State.claimList, ← State.stands]⟩⟩

theorem Quiet.slotStays (h : Quiet s t) : SlotStays i moved s t := by
  obtain ⟨_, _, _, rfl⟩ := h
  exact .of_same rfl rfl rfl

theorem OnlySends.slotStays (h : OnlySends s t) : SlotStays i moved s t := h.quiet.slotStays

/-- Path and unresolved point being the same, the claim set is. -/
theorem State.claimWant_same (paths : t.tables.pointPaths = s.tables.pointPaths) {x y : Slot} (path : x.path = y.path)
    (unresolved : x.unresolved = y.unresolved) (k : Nat) : t.claimWant y k = s.claimWant x k := by
  simp only [State.claimWant, State.unresolvedCovers, State.below, State.pointPath, paths, path, unresolved]

theorem SlotStays.realigns (h : SlotStays i moved s t) : Realigns i s t :=
  ⟨h.paths, fun y hy held => (h.slot y hy held).imp (fun ⟨x, hx, held, _⟩ => ⟨x, hx, held⟩) fun stands k stood _ => (stands k).trans stood⟩

theorem SlotStays.then (h : SlotStays i moved s t) (g : Realigns i t u) : Realigns i s u where
  paths := g.paths.trans h.paths
  slot z hz held := by
    obtain ⟨⟨y, hy, held⟩, stands⟩ := g.slot z hz held
    obtain ⟨⟨x, hx, held, -⟩, stands'⟩ := h.slot y hy held
    exact ⟨⟨x, hx, held⟩, fun k stood wanted => stands k ((stands' k).trans stood) wanted⟩

theorem Realigns.trans (h : Realigns i s t) (g : SlotStays i moved t u) : Realigns i s u where
  paths := g.paths.trans h.paths
  slot z hz held := by
    obtain ⟨⟨y, hy, held, path, unresolved, -⟩, stands'⟩ := g.slot z hz held
    obtain ⟨used, stands⟩ := h.slot y hy held
    refine ⟨used, fun k stood wanted => (stands' k).trans (stands k stood ?_)⟩
    rwa [← State.claimWant_same g.paths path unresolved]

variable (s)

/-! ### Steps that leave it alone -/

theorem State.offer_slotStays (b : ReportBody) : SlotStays i moved s (s.offer b) := (s.offer_quiet b).slotStays

theorem State.setSlot_slotStays {x y : Slot} (hx : s.slot i = some x) (held : y.flags.lost = false → x.flags.lost = false)
    (path : y.path = x.path) (unresolved : y.unresolved = x.unresolved) (head : ¬moved → y.head = x.head) :
    SlotStays i moved s (s.setSlot i (some y)) :=
  ⟨rfl, fun z hz lost => by
    rw [s.slot_setSlot_self i _ (State.slot_inside hx)] at hz
    cases hz
    exact ⟨⟨x, hx, held lost, path.symm, unresolved.symm, fun m => (head m).symm⟩, fun _ => rfl⟩⟩

theorem State.updSlot_slotStays {f : Slot → Slot} (held : ∀ x, (f x).flags.lost = x.flags.lost) (path : ∀ x, (f x).path = x.path)
    (unresolved : ∀ x, (f x).unresolved = x.unresolved) (head : ∀ x, (f x).head = x.head) : SlotStays i moved s (s.updSlot i f) := by
  cases hx : s.slot i with
  | none => simpa only [State.updSlot, hx] using SlotStays.refl s
  | some x => exact State.updSlot_eq hx f ▸ s.setSlot_slotStays hx (fun h => (held x).symm.trans h) (path x) (unresolved x) fun _ => head x

/-- Another slot becomes LOST, or this one, which is then of no concern. -/
theorem State.becomeLost_slotStays (j : Nat) (cause : LostCause) (reported : Bool) : SlotStays i moved s (s.becomeLost j cause reported) := by
  rcases eq_or_ne i j with rfl | other
  · exact .of_lost (by simp) (s.becomeLost_lostIfInUse i cause reported)
  · refine ⟨by simp, fun y hy held => ?_⟩
    rw [s.becomeLost_ne cause reported other] at hy
    refine ⟨⟨y, hy, held, rfl, rfl, fun _ => rfl⟩, fun k => ?_⟩
    cases hz : s.slot j with
    | none => rw [show s.becomeLost j cause reported = s by simp [State.becomeLost, hz]]
    | some z =>
      cases gone : z.flags.lost with
      | true => rw [State.becomeLost_lost hz gone]
      | false =>
        rw [State.stands, State.becomeLost_claimList hz gone, State.stands, List.any_filter]
        refine congrArg _ (funext fun c => ?_)
        rcases eq_or_ne c.slot i with own | no
        · simp [own, other]
        · simp [no]

theorem State.setSec_slotStays (id : SectionId) (x : Section) : SlotStays i moved s (s.setSec id x) := .of_same (by simp) (by simp) (by simp)

theorem State.disturb_slotStays (id : SectionId) (cause : DisturbCause) (d : Option Nat) (t : Option Clock) (owner : Owner) :
    SlotStays i moved s (s.disturb id cause d t owner) := by
  unfold State.disturb
  split
  · split
    · exact .refl s
    · exact s.becomeLost_slotStays ..
  · exact ((s.setSec_slotStays id _).trans (.foldl (fun a j => a.becomeLost_slotStays j _ false) _ _)).trans (State.offer_slotStays _ _)

theorem State.takeAxle_slotStays (id : SectionId) (side : Side) (d : Nat) (t : Clock) : SlotStays i moved s (s.takeAxle id side d t).1 := by
  unfold State.takeAxle
  split
  · exact s.setSec_slotStays id _
  · exact s.disturb_slotStays id _ _ _ .unknown

theorem State.enterAxle_slotStays (id : SectionId) (side : Side) (owner : Owner) (d : Nat) (t : Clock) :
    SlotStays i moved s (s.enterAxle id side owner d t).1 := by
  unfold State.enterAxle
  split
  · extract_lets _ v
    have put : SlotStays i moved s v := s.setSec_slotStays id _
    split
    · exact put.trans (State.becomeLost_slotStays ..)
    · exact put
  · exact s.disturb_slotStays id _ _ _ owner

theorem State.violation_slotStays (p : Nat) (entry : Option (Clock × Owner)) : SlotStays i moved s (s.violation p entry) := by
  rw [s.violation_eq p entry]
  have told : SlotStays i moved s (s.violationTold p) := .of_same (by simp [State.violationTold]) (by simp [State.violationTold]) (by simp [State.violationTold])
  exact (told.trans (.foldl (fun a j => a.becomeLost_slotStays j _ true) _ _)).trans (State.offer_slotStays _ _)

theorem State.guardNotices_slotStays (p : Nat) (entry before : Bool) (t : Clock) (owner : Owner) :
    SlotStays i moved s (s.guardNotices p entry before t owner) := by
  have entered : SlotStays i moved s (if entry then s.guardEntry p t owner else s) := by
    split
    · unfold State.guardEntry
      split
      · exact (s.withdrawn_quiet p).slotStays
      · exact s.violation_slotStays p _
      · exact s.violation_slotStays p _
      all_goals exact .refl s
    · exact .refl s
  refine entered.trans ?_
  change SlotStays i moved _ (State.guardChange _ p before)
  generalize (if entry then s.guardEntry p t owner else s) = a
  unfold State.guardChange
  split
  · exact .refl a
  · split
    · exact (a.reevaluate_quiet p).slotStays
    · unfold State.guardOccupied
      split
      · exact (a.withdrawn_quiet p).slotStays
      · split
        · exact a.violation_slotStays p none
        · exact .refl a
      all_goals exact .refl a

/-! ### Alignment (R84) -/

variable {s}

/-- A slot goes on standing at a point that its claim set holds. -/
theorem State.alignAt_stands {x : Slot} {base p k : Nat} (stands : s.stands i k = true) (wanted : (s.claimWant x k).isSome = true) :
    (s.alignAt i x base p).stands i k = true := by
  rcases eq_or_ne k p with rfl | other
  · obtain ⟨want, wanted⟩ := Option.isSome_iff_exists.mp wanted
    obtain ⟨c, m, own⟩ := State.stands_iff.mp stands
    unfold State.alignAt
    simp only [wanted, stands, if_true]
    rw [State.stands_iff, State.changeClaim, State.claimList_setClaims_self _ _ _ (State.stands_inside stands)]
    exact ⟨_, List.mem_map_of_mem m, by simp [own]⟩
  · rwa [State.stands, s.alignAt_ne i x base other]

theorem State.alignClaims_stands {x : Slot} (hx : s.slot i = some x) {base k : Nat} (stands : s.stands i k = true)
    (wanted : (s.claimWant x k).isSome = true) : (s.alignClaims i base).stands i k = true := by
  have fold (l : List Nat) : ∀ a : State, Claimed s a → a.stands i k = true → (l.foldl (fun a p => a.alignAt i x base p) a).stands i k = true := by
    induction l with
    | nil => exact fun _ _ h => h
    | cons p l ih =>
      intro a claimed h
      refine ih _ (claimed.trans (a.alignAt_claimed ..)) (State.alignAt_stands h ?_)
      obtain ⟨_, rfl⟩ := claimed
      exact wanted
  unfold State.alignClaims
  simp only [hx]
  exact fold _ s (.refl s) stands

theorem State.alignClaims_realigns (base : Nat) : Realigns i s (s.alignClaims i base) := by
  obtain ⟨claims, e⟩ := s.alignClaims_claimed i base
  refine ⟨by rw [e], fun y hy held => ?_⟩
  have before : s.slot i = some y := by rwa [e] at hy
  refine ⟨⟨y, before, held⟩, fun k stood wanted => State.alignClaims_stands before stood ?_⟩
  rwa [e] at wanted

/-- A rewriting of the routing, and the alignment that follows. -/
theorem Realigns.of_put {x y : Slot} (hx : s.slot i = some x) (held : y.flags.lost = false → x.flags.lost = false) {base : Nat}
    (h : Realigns i (s.setSlot i (some y)) ((s.setSlot i (some y)).alignClaims i base)) :
    Realigns i s ((s.setSlot i (some y)).alignClaims i base) :=
  ⟨h.paths, fun z hz lost => by
    obtain ⟨⟨w, hw, kept⟩, stands⟩ := h.slot z hz lost
    rw [s.slot_setSlot_self i _ (State.slot_inside hx)] at hw
    cases hw
    exact ⟨⟨x, hx, held kept⟩, stands⟩⟩

variable (s)

theorem State.takeRetarget_realigns (p : Nat) (leg : Leg) (result : Retarget) (base : Nat) : Realigns i s (s.takeRetarget i p leg result base) := by
  unfold State.takeRetarget
  cases hx : s.slot i with
  | none => exact (SlotStays.refl (moved := False) s).realigns
  | some x =>
    have kept : (s.retargeted x p leg result).flags.lost = x.flags.lost := by cases result <;> rfl
    exact (Realigns.of_put hx (fun h => kept.symm.trans h) (State.alignClaims_realigns base)).trans (State.offer_slotStays (moved := False) _ _)

theorem State.becomeUnresolved_realigns (p : Nat) : Realigns i s (s.becomeUnresolved i p) := by
  unfold State.becomeUnresolved
  cases hx : s.slot i with
  | none => exact (SlotStays.refl (moved := False) s).realigns
  | some x =>
    refine .trans (moved := False) ?_ (State.offer_slotStays _ _)
    refine Realigns.of_put hx ?_ (State.alignClaims_realigns p)
    exact id

/-! ### The crossing (R80 to R95) -/

theorem State.becomeLost_realigns (cause : LostCause) (reported : Bool) : Realigns i s (s.becomeLost i cause reported) :=
  (s.becomeLost_slotStays (moved := False) i cause reported).realigns

theorem Realigns.refl : Realigns i s s := (SlotStays.refl (moved := False) s).realigns

theorem State.settleBy_realigns (p : Nat) (pathLeg : Leg) (lying : Option Leg) : Realigns i s (s.settleBy i p pathLeg lying) := by
  unfold State.settleBy
  split
  · exact s.becomeUnresolved_realigns p
  · split
    · exact .refl s
    · unfold State.cornered
      cases hx : s.slot i with
      | none => exact .refl s
      | some x =>
        refine SlotStays.then (moved := False) (.trans ?_ (State.offer_slotStays _ _)) (State.takeRetarget_realigns _ p _ _ p)
        exact s.setSlot_slotStays hx id rfl rfl fun _ => rfl

theorem State.settle_realigns (p : Nat) : Realigns i s (s.settle i p) := by
  unfold State.settle
  split
  · exact .refl s
  · split
    · unfold State.settleOnPath
      split
      · exact s.becomeLost_realigns _ true
      · exact s.becomeLost_realigns _ true
      · exact (s.withdrawn_quiet p).slotStays (moved := False) |>.then (State.settleBy_realigns _ p _ _)
      all_goals exact s.settleBy_realigns p _ _
    · split
      · split
        · exact s.becomeLost_realigns _ true
        · exact s.becomeLost_realigns _ true
        all_goals exact .refl s
      · exact s.becomeLost_realigns _ true

theorem State.legCheck_realigns (p : Nat) (observed : Leg) : Realigns i s (s.legCheck i p observed) := by
  unfold State.legCheck
  split
  · exact .refl s
  · split
    · exact s.takeRetarget_realigns p observed _ _
    · split
      · exact s.becomeLost_realigns _ true
      · split
        · exact .refl s
        · unfold State.misrouted
          extract_lets s1
          have first : SlotStays i False s s1 := .of_same (by simp [s1]) (by simp [s1]) (by simp [s1])
          cases hx : s1.slot i with
          | none => exact first.realigns
          | some x =>
            refine (first.trans (.trans ?_ (State.offer_slotStays _ _))).then (State.takeRetarget_realigns _ p observed _ p)
            exact s1.setSlot_slotStays hx id rfl rfl fun _ => rfl

theorem State.divisionCheck_realigns (p : Nat) (observed : Leg) : Realigns i s (s.divisionCheck i p observed) := by
  unfold State.divisionCheck
  split
  · exact .refl s
  · split
    · exact .refl s
    · split
      · exact s.becomeLost_realigns _ true
      · split
        · exact .refl s
        · exact s.becomeLost_realigns _ true

/-- A slot that joins a claim list leaves none. -/
theorem State.joinClaim_mono {p k j : Nat} (want : Option Leg) (stands : s.stands j k = true) : (s.joinClaim p i want).stands j k = true := by
  unfold State.joinClaim
  split
  · exact stands
  · split
    · exact stands
    · rcases eq_or_ne k p with rfl | other
      · obtain ⟨c, m, own⟩ := State.stands_iff.mp stands
        rw [State.stands_iff, State.claimList_setClaims_self _ _ _ (State.stands_inside stands)]
        refine ⟨c, ?_, own⟩
        rw [← List.takeWhile_append_dropWhile (l := s.claimList k) (p := fun c => !s.youngerThan _ c), List.mem_append] at m
        exact List.mem_append.mpr (m.imp id (List.mem_cons_of_mem _))
      · rwa [State.stands, s.claimList_setClaims_ne _ other]

theorem State.reenter_realigns (p : Nat) : Realigns i s (s.reenter i p) := by
  unfold State.reenter
  split
  · exact .refl s
  · split
    · exact .refl s
    · split
      · obtain ⟨claims, e⟩ := s.joinClaim_claimed p i ‹_›
        refine ⟨by rw [e], fun y hy held => ⟨⟨y, by rwa [e] at hy, held⟩, fun k stood _ => s.joinClaim_mono _ stood⟩⟩
      · exact s.becomeLost_realigns _ true

/-- A slot that clears goes FREE. -/
theorem State.tryClear_slotStays : SlotStays i moved s (s.tryClear i) := by
  unfold State.tryClear
  cases hx : s.slot i with
  | none => exact .refl s
  | some x =>
    simp only
    split
    · split
      · refine .of_lost (by rw [State.clearInto_tables]) fun y hy => ?_
        rw [s.clearInto_slot i _ x (State.slot_inside hx)] at hy
        cases hy
      · exact .refl s
    all_goals exact .refl s

theorem State.startClearing_slotStays (k : Nat) : SlotStays i moved s (s.startClearing i k) := by
  unfold State.startClearing
  split
  · exact .refl s
  · extract_lets s1
    have first : SlotStays i moved s s1 := by
      unfold s1
      split
      · exact s.becomeLost_slotStays i _ true
      · exact .refl s
    refine .trans (first.trans ?_) (State.tryClear_slotStays _)
    exact s1.updSlot_slotStays (fun _ => rfl) (fun _ => rfl) (fun _ => rfl) fun _ => rfl

theorem State.clearedAxle_slotStays (k : Nat) : SlotStays i moved s (s.clearedAxle i k) := by
  unfold State.clearedAxle
  split
  · exact .refl s
  · extract_lets s1
    have first : SlotStays i moved s s1 := by
      unfold s1
      split
      · exact s.becomeLost_slotStays i _ true
      · exact .refl s
    refine .trans (first.trans ?_) (State.tryClear_slotStays _)
    exact s1.updSlot_slotStays (fun _ => rfl) (fun _ => rfl) (fun _ => rfl) fun _ => rfl

theorem State.roleStep_realigns (lost : Bool) (c : Counter) : Realigns i s (s.roleStep i lost c) := by
  cases c with
  | lead => exact .refl s
  | guardIn p =>
    simp only [State.roleStep]
    split
    · exact .refl s
    · exact s.settle_realigns p
  | guardOut p x =>
    simp only [State.roleStep]
    split
    · exact .refl s
    · exact s.legCheck_realigns p x
  | clearance k => exact (s.startClearing_slotStays (moved := False) k).realigns

theorem State.headCrossing_realigns {x : Slot} (hx : s.slot i = some x) (c : Counter) (time : Clock) :
    Realigns i s (s.headCrossing i x c time) := by
  have routing : (s.headMoved x c time).path = x.path ∧ (s.headMoved x c time).unresolved = x.unresolved := by
    change (s.sampled x c time).path = _ ∧ (s.sampled x c time).unresolved = _
    unfold State.sampled
    split <;> exact ⟨rfl, rfl⟩
  have moved : SlotStays i True s (s.setSlot i (some (s.headMoved x c time))) :=
    s.setSlot_slotStays hx (fun held => (s.headMoved_lost x c time).symm.trans held) routing.1 routing.2 fun not => absurd trivial not
  have stalled (a : State) : SlotStays i True a (a.stallAtOnce i) := by
    unfold State.stallAtOnce
    split
    · unfold State.stallExpired
      cases hy : a.slot i with
      | none => exact .refl a
      | some y =>
        refine .trans ?_ (State.offer_slotStays _ _)
        exact a.setSlot_slotStays hy id rfl rfl fun _ => rfl
    · exact .refl a
  exact (moved.trans (stalled _)).then (State.roleStep_realigns _ _ c)

theorem State.lateral_realigns (c : Counter) : Realigns i s (s.lateral i c) := by
  cases c with
  | lead => exact .refl s
  | guardIn p => exact s.reenter_realigns p
  | guardOut p x => exact s.divisionCheck_realigns p x
  | clearance k => exact (s.clearedAxle_slotStays (moved := False) k).realigns

theorem State.rollbackTest_slotStays : SlotStays i moved s (s.rollbackTest i) := by
  unfold State.rollbackTest
  cases hx : s.slot i with
  | none => exact .refl s
  | some x =>
    simp only
    split
    · refine .of_lost (by simp) fun y hy => ?_
      rw [s.rollBack_free i x (State.slot_inside hx)] at hy
      cases hy
    · exact .refl s

theorem State.upStep_realigns (c : Counter) : Realigns i s (s.upStep i c) := by
  cases c with
  | lead => exact (s.rollbackTest_slotStays (moved := False)).realigns
  | guardIn p => exact .refl s
  | guardOut p x => exact s.reenter_realigns p
  | clearance k => exact .refl s

theorem State.sortCrossing_realigns {x : Slot} (hx : s.slot i = some x) (c : Counter) (dir : Direction) (time : Clock) :
    Realigns i s (s.sortCrossing i x c dir time) := by
  unfold State.sortCrossing
  cases dir with
  | down =>
    simp only
    split
    · exact s.headCrossing_realigns hx c time
    · exact s.lateral_realigns c
  | up =>
    have unanchored : SlotStays i False s (s.unanchor i) :=
      s.updSlot_slotStays (fun _ => rfl) (fun _ => rfl) (fun _ => rfl) fun _ => rfl
    exact unanchored.then (State.upStep_realigns _ c)

end

end Sys2Proof.Machine

/-! SUPPORT. The tail test after a crossing, in the words of R85: head counters beyond a point's guard-outs, and the sections down to its guard. -/

namespace Sys2Proof.Machine

/-! ### Head and tail (R85) -/

theorem passes_either {path : Path} {p : Nat} : (passes path p .left || passes path p .right) = true ↔ ∃ leg, (p, leg) ∈ path := by
  simp only [passes, Bool.or_eq_true, List.contains_iff_mem]
  constructor
  · rintro (h | h)
    · exact ⟨_, h⟩
    · exact ⟨_, h⟩
  · rintro ⟨_ | _, h⟩
    · exact .inl h
    · exact .inr h

/-- A head counter passed is one of the point's guard-outs, or downstream of them. -/
theorem State.headPassed_iff {s : State} {h : Counter} {k : Nat} : s.headPassed h k = true ↔ HeadBeyond s k h := by
  cases h with
  | lead => simp [State.headPassed, State.downstream, HeadBeyond]
  | guardIn q =>
    have := passes_either (path := s.pointPath q) (p := k)
    simpa [State.headPassed, State.downstream, HeadBeyond] using this
  | guardOut q x =>
    have := passes_either (path := s.pointPath q) (p := k)
    simp only [Bool.or_eq_true] at this
    simp only [State.headPassed, State.downstream, HeadBeyond, Bool.or_eq_true, decide_eq_true_eq, Counter.guardOut.injEq, or_assoc, this]
    cases x <;> simp
  | clearance t =>
    have := passes_either (path := s.trackPath t) (p := k)
    simpa [State.headPassed, State.downstream, HeadBeyond] using this

theorem State.mem_sectionsDownTo {s : State} {k : Nat} {id : SectionId} : id ∈ s.sectionsDownTo k ↔ DownTill s k id := by
  simp only [State.sectionsDownTo, List.mem_flatMap, List.mem_append, List.mem_map, List.mem_cons, List.not_mem_nil,
    or_false, DownTill, Prod.exists, exists_and_right, exists_eq_right]
  constructor
  · rintro ⟨q, above | rfl, h⟩
    · exact ⟨q, .inr above, h.symm⟩
    · exact ⟨q, .inl rfl, h.symm⟩
  · rintro ⟨q, rfl | above, h⟩
    · exact ⟨q, .inr rfl, h.symm⟩
    · exact ⟨q, .inl above, h.symm⟩

theorem State.tailGone_iff {s : State} {i k : Nat} {h : Counter} : s.tailGone i k h = false ↔ TailRemains s s i k h := by
  unfold State.tailGone TailRemains
  rw [← State.headPassed_iff]
  cases s.headPassed h k with
  | false => simp
  | true => simp [List.any_eq_true, State.mem_sectionsDownTo]

/-- The same ladder and sections, the same tail. -/
theorem TailRemains.congr {s t s' t' : State} (points : s'.tables.pointPaths = s.tables.pointPaths)
    (tracks : s'.tables.trackPaths = s.tables.trackPaths) (sections : t'.sections = t.sections) {i k : Nat} {h : Counter}
    (r : TailRemains s t i k h) : TailRemains s' t' i k h := by
  have path (p : Nat) : s'.pointPath p = s.pointPath p := by rw [State.pointPath, points, ← State.pointPath]
  have track (p : Nat) : s'.trackPath p = s.trackPath p := by rw [State.trackPath, tracks, ← State.trackPath]
  have beyond : HeadBeyond s' k h ↔ HeadBeyond s k h := by cases h <;> simp only [HeadBeyond, path, track]
  intro passed
  obtain ⟨id, down, held⟩ := r (beyond.mp passed)
  exact ⟨id, by simpa only [DownTill, path] using down, by rwa [State.sec_congr sections]⟩

/-! ### The tail test -/

theorem State.leaveClaim_stands {s : State} {i p k : Nat} :
    (s.leaveClaim p i).stands i k = true ↔ s.stands i k = true ∧ k ≠ p := by
  rcases eq_or_ne k p with rfl | other
  · simp only [ne_eq, not_true_eq_false, and_false, iff_false]
    intro stands
    have inside := State.stands_inside stands
    rw [State.stands_iff, State.leaveClaim, State.claimList_setClaims_self _ _ _ inside] at stands
    obtain ⟨c, m, own⟩ := stands
    exact of_decide_eq_true (List.mem_filter.mp m).2 own
  · rw [State.stands, s.leaveClaim_ne i other, ← State.stands]
    exact ⟨fun h => ⟨h, other⟩, And.left⟩

/-- A slot that is not LOST goes on standing where its tail remains, and there alone. -/
theorem State.tailTest_stands {s : State} {i k : Nat} {x : Slot} (hx : s.slot i = some x) (held : x.flags.lost = false) :
    (s.tailTest i).stands i k = true ↔ s.stands i k = true ∧ TailRemains s s i k x.head := by
  have fold (l : List Nat) : ∀ a : State, (l.foldl (fun a p => a.leaveClaim p i) a).stands i k = true ↔ a.stands i k = true ∧ k ∉ l := by
    induction l with
    | nil => simp
    | cons p l ih =>
      intro a
      rw [List.foldl_cons, ih, State.leaveClaim_stands, List.mem_cons, not_or, and_assoc]
  unfold State.tailTest
  simp only [hx, held, Bool.false_eq_true, if_false, fold, List.mem_filter, State.mem_standing, not_and, Bool.not_eq_true,
    State.tailGone_iff]
  exact and_congr_right fun stands => ⟨fun h => h stands, fun h _ => h⟩

/-! ### After a crossing -/

section
variable {i : Nat} {s t u : State}

/-- A slot that is FREE or LOST has no tail to follow. -/
theorem TailFollowed.of_lost (lost : LostIfInUse t i) : TailFollowed u t i := fun y hy held => absurd ((lost y hy).symm.trans held) nofun

/-- The tail test makes it so for the slot whose crossing is taken. -/
theorem State.takeCrossing_tailFollowed {c : Counter} {dir : Direction} {time : Clock}
    (tracks : (s.takeCrossing i c dir time false).tables.trackPaths = s.tables.trackPaths) :
    TailFollowed s (s.takeCrossing i c dir time false) i := by
  cases hx : s.slot i with
  | none =>
    have same : s.takeCrossing i c dir time false = s := by simp [State.takeCrossing, hx]
    rw [same]
    exact .of_lost fun y hy => absurd (hx.symm.trans hy) nofun
  | some x =>
    obtain ⟨m, hm⟩ : ∃ m, m = s.sortCrossing i x c dir time := ⟨_, rfl⟩
    obtain ⟨l, taken⟩ : ∃ l, s.takeCrossing i c dir time false = (m.tailTest i).reevaluateAll l := by
      simp only [State.takeCrossing, hx, Bool.false_eq_true, if_false, ← hm]
      exact ⟨_, rfl⟩
    have realigns : Realigns i s m := hm ▸ s.sortCrossing_realigns hx c dir time
    obtain ⟨claims, tested⟩ := m.tailTest_claimed i
    obtain ⟨link, points, reports, e⟩ := (m.tailTest i).reevaluateAll_quiet l
    rw [taken] at tracks ⊢
    have tables : ((m.tailTest i).reevaluateAll l).tables = m.tables := by rw [e, tested]
    have sections : ((m.tailTest i).reevaluateAll l).sections = m.sections := by rw [e, tested]
    have stands (k : Nat) : ((m.tailTest i).reevaluateAll l).stands i k = (m.tailTest i).stands i k := by rw [e]; rfl
    have toS (k : Nat) (h : Counter) : TailRemains m m i k h → TailRemains s ((m.tailTest i).reevaluateAll l) i k h :=
      TailRemains.congr realigns.paths.symm (tables ▸ tracks.symm) sections
    have toM (k : Nat) (h : Counter) : TailRemains s ((m.tailTest i).reevaluateAll l) i k h → TailRemains m m i k h :=
      TailRemains.congr realigns.paths (tables ▸ tracks) sections.symm
    intro y hy held k
    have hy : m.slot i = some y := by rwa [e, tested] at hy
    rw [stands, State.tailTest_stands hy held]
    refine ⟨fun h => toS k _ h.2, fun stood ⟨want, wanted⟩ remains => ⟨(realigns.slot y hy held).2 k stood ?_, toM k _ remains⟩⟩
    rw [State.claimWant_same realigns.paths rfl rfl, State.claimWant_eq_some.mpr wanted]
    rfl

/-- Steps before the crossing and after it that leave the slot be. -/
theorem TailFollowed.between {e : State} (h : TailFollowed s e i) (before : SlotStays i True u s) (after : SlotStays i False e t)
    (tracks : s.tables.trackPaths = u.tables.trackPaths) (used : ∀ y, e.slot i = some y → y.flags.lost = false →
      ∃ x, s.slot i = some x ∧ x.flags.lost = false)
    (sections : t.sections = e.sections) : TailFollowed u t i := by
  intro y hy held k
  obtain ⟨⟨z, hz, kept, path, unresolved, head⟩, stands⟩ := after.slot y hy held
  obtain ⟨x, hx, live⟩ := used z hz kept
  have stood := (before.slot x hx live).2 k
  obtain ⟨remains, stays⟩ := h z hz kept k
  rw [head not_false] at remains stays
  rw [stands, ← stood]
  refine ⟨fun h => (remains h).congr before.paths.symm tracks.symm sections, fun h ⟨want, wanted⟩ r => stays h ⟨want, ?_⟩
    (r.congr before.paths tracks sections.symm)⟩
  rw [← State.claimWant_eq_some] at wanted ⊢
  rw [← wanted, State.claimWant_same before.paths rfl rfl, State.claimWant_same rfl path unresolved]

end

end Sys2Proof.Machine

/-! SUPPORT. A crossing from the axle's entering to the end of the telegram: the points told of it, and the copy sent on (R54, R80, R106, R151). -/

namespace Sys2Proof.Machine

/-! ### The owner of an axle that enters (R52, R54) -/

section
variable {s : State} {id : SectionId} {side : Side} {owner : Owner} {d i : Nat} {time : Clock}

/-- The slot stays in use, with its phase and its cleared axles. -/
def SlotUsed (i : Nat) (s t : State) : Prop :=
  ∀ x, s.slot i = some x → ∃ y, t.slot i = some y ∧ y.phase = x.phase ∧ y.cleared = x.cleared

theorem SlotUsed.of_same {s t : State} (same : t.slot i = s.slot i) : SlotUsed i s t := fun x hx => ⟨x, same.trans hx, rfl, rfl⟩

theorem SlotUsed.trans {s t u : State} (h : SlotUsed i s t) (g : SlotUsed i t u) : SlotUsed i s u := fun x hx => by
  obtain ⟨y, hy, phase, cleared⟩ := h x hx
  obtain ⟨z, hz, phase', cleared'⟩ := g y hy
  exact ⟨z, hz, phase'.trans phase, cleared'.trans cleared⟩

/-- No slot goes FREE by another's becoming LOST, nor by its own. -/
theorem State.becomeLost_used (s : State) (j : Nat) (cause : LostCause) (reported : Bool) : SlotUsed i s (s.becomeLost j cause reported) := by
  intro x hx
  rcases eq_or_ne i j with rfl | other
  · cases held : x.flags.lost with
    | true => exact ⟨x, by rwa [State.becomeLost_lost hx held], rfl, rfl⟩
    | false => exact ⟨_, State.becomeLost_self hx held cause reported, rfl, rfl⟩
  · exact ⟨x, (s.becomeLost_ne cause reported other).trans hx, rfl, rfl⟩

theorem State.becomeLost_foldl_used (cause : LostCause) (reported : Bool) (l : List Nat) (s : State) :
    SlotUsed i s (l.foldl (fun a j => a.becomeLost j cause reported) s) := by
  induction l generalizing s with
  | nil => exact .of_same rfl
  | cons j l ih => exact (s.becomeLost_used j cause reported).trans (ih _)

theorem State.disturb_used (s : State) (cause : DisturbCause) (d : Option Nat) (t : Option Clock) : SlotUsed i s (s.disturb id cause d t owner) := by
  unfold State.disturb
  split
  · split
    · exact .of_same rfl
    · exact s.becomeLost_used _ _ _
  · exact ((SlotUsed.of_same (s.slot_setSec id _ i)).trans (State.becomeLost_foldl_used _ _ _ _)).trans
      (.of_same ((State.offer_quiet _ _).slot i))

theorem State.enterAxle_used (s : State) (id : SectionId) (side : Side) (owner : Owner) (d : Nat) (time : Clock) :
    SlotUsed i s (s.enterAxle id side owner d time).1 := by
  unfold State.enterAxle
  split
  · simp only
    split
    · exact (SlotUsed.of_same (s.slot_setSec id _ i)).trans (State.becomeLost_used _ _ _ _)
    · exact .of_same (s.slot_setSec id _ i)
  · exact s.disturb_used _ _ _

/-- A slot not LOST yet that becomes LOST stands nowhere any more. -/
theorem State.becomeLost_foldl_gone (cause : LostCause) (reported : Bool) (l : List Nat) {s : State} {x : Slot} (gone : s.Gone i x) :
    (l.foldl (fun a j => a.becomeLost j cause reported) s).Gone i x := by
  induction l generalizing s with
  | nil => exact gone
  | cons j l ih => exact ih (gone.becomeLost j cause reported)

theorem State.becomeLost_foldl_absent (cause : LostCause) (reported : Bool) {l : List Nat} (m : i ∈ l) {s : State} {x : Slot}
    (hx : s.slot i = some x) (held : x.flags.lost = false) (k : Nat) :
    (l.foldl (fun a j => a.becomeLost j cause reported) s).stands i k = false := by
  induction l generalizing s with
  | nil => cases m
  | cons j l ih =>
    rcases eq_or_ne i j with rfl | other
    · exact (State.becomeLost_foldl_gone cause reported l (State.becomeLost_gone hx held cause reported)).2.2 k
    · exact ih ((List.mem_cons.mp m).resolve_left other) ((s.becomeLost_ne cause reported other).trans hx)

/-- The owner of a discarded axle stands nowhere any more. -/
theorem State.enterAxle_discarded {x : Slot} (hx : s.slot i = some x) (held : x.flags.lost = false)
    (discarded : (s.enterAxle id side (.slot i) d time).2 = true) (k : Nat) :
    (s.enterAxle id side (.slot i) d time).1.stands i k = false := by
  unfold State.enterAxle at discarded ⊢
  split
  · rename_i added
    simp only [added] at discarded
    split at discarded <;> cases discarded
  · simp only
    unfold State.disturb
    cases disturbed : (s.sec id).disturbance with
    | some y => exact (State.becomeLost_gone hx held _ true).2.2 k
    | none =>
      have put (v : Section) : (s.setSec id v).slot i = some x := (s.slot_setSec id v i).trans hx
      have m : i ∈ s.disturbedSlots id (.slot i) :=
        State.mem_disturbedSlots_owner.mpr ⟨State.slot_inside hx, .inr rfl, x, hx, held⟩
      have absent := State.becomeLost_foldl_absent (.sec id) false m
        (put { s.sec id with disturbance := some ⟨.runOverflow, some d, some time⟩ }) held k
      exact ((State.offer_quiet _ _).stands i k).trans absent

/-- A discarded axle's owner is LOST. -/
theorem State.enterAxle_discarded_lost (inside : id.inRange = true) (discarded : (s.enterAxle id side (.slot i) d time).2 = true) :
    LostIfInUse (s.enterAxle id side (.slot i) d time).1 i := by
  have outcome : Outcome (s.enterAxle id side (.slot i) d time).1 (s.enterAxle id side (.slot i) d time).1 id :=
    ⟨⟨[], .refl _⟩, fun _ h => h, rfl⟩
  have enters := s.enterAxle_enters inside (.refl s) rfl outcome
  refine enters.2.2.1 (.inl fun fits => ?_) i rfl
  obtain ⟨m, added⟩ := fits.addRun
  unfold State.enterAxle at discarded
  simp only [added] at discarded
  split at discarded <;> cases discarded

/-- An axle that fits a NORMAL section is recorded there, and nothing else happens. -/
theorem State.enterAxle_recorded (fits : AxleFits side (s.sec id).runs owner) (normal : (s.sec id).disturbance = none) :
    s.enterAxle id side owner d time = (s.setSec id ((s.sec id).entering side owner d time), false) := by
  obtain ⟨m, added⟩ := fits.addRun
  simp only [State.enterAxle, Section.entering, added, normal]

end

/-! ### The points told of a crossing (R80, R106) -/

/-- The points told of a crossing whose axle enters in state `v`, is handed over in `e`, and has been taken in `x`. -/
theorem PointsReevaluated.of_tends {u v e x n t : State} {owner : Owner}
    (listed : ∀ k, v.claimList k = u.claimList k
      ∨ ∃ i y, owner = .slot i ∧ v.slot i = some y ∧ y.flags.lost = false ∧ v.stands i k = true)
    (slots : ∀ i y, u.slot i = some y → ∃ z, v.slot i = some z ∧ z.flags.lost = y.flags.lost)
    (enters : Tends v e) (taken : Tends e x) (after : Tends x n) (sends : OnlySends n t)
    (told : ∀ i y, owner = .slot i → v.slot i = some y → y.flags.lost = false → ∀ k, e.stands i k = true → StandsEvaluated x k) :
    PointsReevaluated u t owner := by
  have lists (k : Nat) : t.claimList k = n.claimList k := by rw [State.claimList, sends.claims, ← State.claimList]
  intro k concerned
  refine StandsEvaluated.sends ?_ sends
  rcases (enters.trans (taken.trans after)).relisted k with same | stands
  · have stood : ∃ i y, owner = .slot i ∧ v.slot i = some y ∧ y.flags.lost = false ∧ v.stands i k = true := by
      rcases concerned with changed | ⟨i, y, own, hy, held, stands⟩
      · refine (listed k).resolve_left fun unchanged => changed ?_
        rw [lists, same, unchanged]
      · rcases listed k with unchanged | found
        · obtain ⟨z, hz, lost⟩ := slots i y hy
          refine ⟨i, z, own, hz, lost.trans held, ?_⟩
          rcases stands with stands | stands
          · rwa [State.stands, unchanged]
          · rwa [State.stands, lists, same] at stands
        · exact found
    obtain ⟨i, y, own, hy, held, stands⟩ := stood
    rcases enters.relisted k with entered | evaluated
    · refine after.evaluated k (told i y own hy held k ?_)
      rwa [State.stands, entered]
    · exact (taken.trans after).evaluated k evaluated
  · exact stands

/-- The points at which the owner of an entering axle stands are told when its crossing is taken. -/
theorem State.handOver_told {v : State} {id : SectionId} {side : Side} {d i q : Nat} {time : Clock} {c : Counter} (guards : c.guards q)
    (dir : Direction) {y : Slot} (hy : v.slot i = some y) (held : y.flags.lost = false) (k : Nat)
    (stands : (v.enterAxle id side (.slot i) d time).1.stands i k = true) :
    StandsEvaluated ((v.enterAxle id side (.slot i) d time).1.handOver (.slot i) c dir time (v.enterAxle id side (.slot i) d time).2) k := by
  cases discarded : (v.enterAxle id side (.slot i) d time).2 with
  | true =>
    rw [State.enterAxle_discarded hy held discarded] at stands
    cases stands
  | false =>
    obtain ⟨z, hz, -⟩ := v.enterAxle_used id side (.slot i) d time y hy
    obtain ⟨told, -, stood, evaluated⟩ := State.takeCrossing_handles (hard := True) guards dir (fun _ _ _ => trivial) time hz
    exact evaluated k (stood k (.inl stands))

/-! ### The copy of the telegram, and its freed buffer (R151, R153, R154) -/

theorem State.forward_plays (s : State) (m : Telegram) (k : Nat) (forced : Prop) : Plays k forced s (s.forward m) := by
  unfold State.forward
  split
  · exact .refl k forced s
  · split
    · refine .trans ?_ (State.select_plays _ .y k forced)
      exact .of_same rfl rfl rfl rfl (.refl _)
    · exact .of_same rfl rfl rfl rfl (.refl _)

theorem State.freeBuffer_plays (s : State) (p : Port) (k : Nat) (forced : Prop) : Plays k forced s (s.freeBuffer p) := by
  refine .trans ?_ (State.select_plays _ p k forced)
  cases p <;> exact .of_same rfl rfl rfl rfl (.refl _)

/-- Between the end of the crossing and the end of the telegram the ports send, and nothing else happens. -/
structure Sends (s t : State) : Prop where
  sends : OnlySends s t
  offers : Offers s t []
  plays : ∀ k, Plays k False s t

/-- The crossing at the detector's counter, and after it no more than what the ports send. -/
theorem AxleHanded.crosses {s u : State} {frame : List Byte} {d : Nat} {dir : Direction} {time : Clock} {j : Joint}
    (h : AxleHanded s u frame d dir time) (role : u.joint d = some j) :
    ∃ t, exec (.telegramReceived .t false frame) s = .next t ∧ Sends (u.cross j dir d time) t := by
  obtain ⟨room, run, r, age, read, broadcast, kind, parsed, rfl, rfl⟩ := h
  refine ⟨_, State.receive_axle room read broadcast kind parsed, ?_⟩
  generalize (s.handleEarlier .t).takeCredits .t r.credits = u at run role
  have axle : u.axle d dir age = u.cross j dir d (eventTime u.wrapped u.clock age) := by
    unfold State.axle
    cases e : u.engine.state with
    | config => exact absurd e run
    | run | halted => simp only [role]
  rw [axle]
  exact ⟨(State.forward_onlySends _ _).trans (State.freeBuffer_onlySends _ .t), (State.forward_offers _ _).before (State.freeBuffer_offers _ .t),
    fun k => (State.forward_plays _ _ k False).trans (State.freeBuffer_plays _ .t k False)⟩

end Sys2Proof.Machine

/-! SUPPORT. One axle from section to section: what its leaving, its entering and the tracking table's taking of it leave as it was (R44, R45, R48, R53, R54). -/

namespace Sys2Proof.Machine

/-- One axle leaves a section at one end, enters another at one end, and is handed to the tracking table (R45, R48, R55). -/
def State.moveAxle (s : State) (a : SectionId) (off : Side) (b : SectionId) (on : Side) (c : Counter) (dir : Direction) (d : Nat) (t : Clock) :
    State × Owner :=
  let x := s.takeAxle a off d t
  let y := x.1.enterAxle b on x.2 d t
  (y.1.handOver x.2 c dir t y.2, x.2)

theorem State.crossGuard_of_down (s : State) (p : Nat) (c : Counter) (a b : SectionId) (entry : Bool) (d : Nat) (t : Clock) :
    s.crossGuard p c a b entry .down d t = (s.moveAxle a .head b .tail c .down d t).1.guardNotices p entry (s.guardClear p) t
      (s.moveAxle a .head b .tail c .down d t).2 := rfl

theorem State.crossGuard_of_up (s : State) (p : Nat) (c : Counter) (a b : SectionId) (entry : Bool) (d : Nat) (t : Clock) :
    s.crossGuard p c a b entry .up d t = (s.moveAxle b .tail a .head c .up d t).1.guardNotices p entry (s.guardClear p) t
      (s.moveAxle b .tail a .head c .up d t).2 := rfl

/-! ### The axle leaves -/

section
variable (s : State) (id : SectionId) (side : Side) (d : Nat) (t : Clock)

theorem State.takeAxle_slots : (s.takeAxle id side d t).1.slots = s.slots := by
  obtain ⟨_, _, e⟩ := s.takeAxle_told id side d t
  rw [e]
  cases id <;> rfl

theorem State.takeAxle_slot (i : Nat) : (s.takeAxle id side d t).1.slot i = s.slot i := by
  rw [State.slot, s.takeAxle_slots, ← State.slot]

theorem State.takeAxle_claims : (s.takeAxle id side d t).1.claims = s.claims := by
  obtain ⟨_, _, e⟩ := s.takeAxle_told id side d t
  rw [e]
  cases id <;> rfl

theorem State.takeAxle_claimList (k : Nat) : (s.takeAxle id side d t).1.claimList k = s.claimList k := by
  rw [State.claimList, s.takeAxle_claims, ← State.claimList]

theorem State.takeAxle_points : (s.takeAxle id side d t).1.points = s.points := by
  obtain ⟨_, _, e⟩ := s.takeAxle_told id side d t
  rw [e]
  cases id <;> rfl

variable {id} in
theorem State.takeAxle_sec_ne {k : SectionId} (other : k ≠ id) : (s.takeAxle id side d t).1.sec k = s.sec k := by
  obtain ⟨_, _, e⟩ := s.takeAxle_told id side d t
  rw [e]
  exact s.sec_setSec_ne _ other

theorem State.takeAxle_tells {p : Nat} {hard : Prop} :
    Tells p hard (s.setSec id ((s.sec id).leaving side d t)) (s.takeAxle id side d t).1 := by
  unfold State.takeAxle Section.leaving
  cases takeRun side (s.sec id).runs with
  | some x => exact .refl _
  | none => exact s.disturb_tells id _ _ _ .unknown

theorem State.takeAxle_offers : ∃ bodies, Offers s (s.takeAxle id side d t).1 bodies := by
  obtain ⟨bodies, told⟩ := (s.takeAxle_tells id side d t (p := 0) (hard := True)).offered
  exact ⟨_, (s.setSec_queues id _).toOffers.after told.toOffers⟩

theorem State.takeAxle_onset : Onset s (s.takeAxle id side d t).1 where
  offered := s.takeAxle_offers id side d t
  slots i x hx := ⟨x, (s.takeAxle_slot id side d t i).trans hx, rfl, rfl⟩

/-- A section's change is nothing to a point whose guard it is not. -/
theorem State.setSec_plays {k : Nat} (other : id ≠ .guard k) (x : Section) : Plays k False s (s.setSec id x) := by
  have clear : (s.setSec id x).guardClear k = s.guardClear k := by
    rw [State.guardClear, s.sec_setSec_ne _ other.symm, ← State.guardClear]
  cases id <;> exact .of_same rfl rfl clear rfl (.refl _)

end

/-! ### The owner's axle handed over at a guard (R80, R87, R91, R93) -/

/-- A counter of the guard of point `q` (R9). -/
def Counter.OfGuard (q : Nat) (c : Counter) : Prop := c = .guardIn q ∨ ∃ x, c = .guardOut q x

theorem Counter.OfGuard.guards {q : Nat} {c : Counter} (h : c.OfGuard q) : c.guards q := by
  rcases h with rfl | ⟨x, rfl⟩ <;> rfl

section
variable (s : State) {q : Nat} {c : Counter} (guard : c.OfGuard q)
include guard

/-- At a guard's counter no track is charged, no record goes back, and the binder stays. -/
theorem State.takeCrossing_yard (i : Nat) (dir : Direction) (t : Clock) (discarded : Bool) :
    (s.takeCrossing i c dir t discarded).binder = s.binder ∧ (s.takeCrossing i c dir t discarded).cutList = s.cutList
      ∧ (s.takeCrossing i c dir t discarded).tables = s.tables := by
  have role (a : State) (lost : Bool) : (a.roleStep i lost c).tables = a.tables := by
    rcases guard with rfl | ⟨x, rfl⟩ <;> cases lost <;> simp [State.roleStep]
  have sorted (x : Slot) : (s.sortCrossing i x c dir t).binder = s.binder ∧ (s.sortCrossing i x c dir t).cutList = s.cutList
      ∧ (s.sortCrossing i x c dir t).tables = s.tables := by
    unfold State.sortCrossing
    cases dir with
    | down =>
      simp only
      split
      · exact ⟨by simp, by simp, by rw [State.headCrossing, role]; simp⟩
      · rcases guard with rfl | ⟨x, rfl⟩ <;> simp [State.lateral]
    | up => rcases guard with rfl | ⟨x, rfl⟩ <;> simp [State.upStep]
  unfold State.takeCrossing
  split
  · exact ⟨rfl, rfl, rfl⟩
  · split
    · exact ⟨rfl, rfl, rfl⟩
    · simpa using sorted _

theorem State.handOver_yard (owner : Owner) (dir : Direction) (t : Clock) (discarded : Bool) :
    (s.handOver owner c dir t discarded).binder = s.binder ∧ (s.handOver owner c dir t discarded).cutList = s.cutList
      ∧ (s.handOver owner c dir t discarded).tables = s.tables := by
  cases owner with
  | unknown => exact ⟨rfl, rfl, rfl⟩
  | slot i => exact s.takeCrossing_yard guard i dir t discarded

end

/-- The tail test of the crossing taken in state `e`, with steps before it and after it that leave the slot be (R85). -/
theorem TailFollowed.of_taken {u e t : State} {i q : Nat} {c : Counter} {dir : Direction} {time : Clock} (guards : c.guards q)
    (before : SlotStays i True u e) (tracks : e.tables.trackPaths = u.tables.trackPaths)
    (after : SlotStays i False (e.takeCrossing i c dir time false) t) (sections : t.sections = (e.takeCrossing i c dir time false).sections) :
    TailFollowed u t i := by
  cases hz : e.slot i with
  | none =>
    have same : e.takeCrossing i c dir time false = e := by simp [State.takeCrossing, hz]
    rw [same] at after
    exact .of_lost fun y hy => Bool.of_not_eq_false fun held => by
      obtain ⟨⟨x, hx, -⟩, -⟩ := after.slot y hy held
      exact absurd (hz.symm.trans hx) nofun
  | some z =>
    obtain ⟨_, handles, -⟩ := State.takeCrossing_handles (hard := True) guards dir (fun _ _ _ => trivial) time hz
    refine (State.takeCrossing_tailFollowed handles.ladder.trackPaths).between before after tracks (fun y hy held => ?_) sections
    refine ⟨z, hz, Bool.of_not_eq_true fun lost => absurd (held.symm.trans (handles.lost (fun w hw => ?_) y hy)) nofun⟩
    rw [hz] at hw
    cases hw
    exact lost

/-! ### The slots that a crossing concerns (R44) -/

theorem State.becomeLost_foldl_ne {i : Nat} (cause : LostCause) (reported : Bool) {l : List Nat} (none : i ∉ l) (s : State) :
    (l.foldl (fun a j => a.becomeLost j cause reported) s).slot i = s.slot i := by
  induction l generalizing s with
  | nil => rfl
  | cons j l ih =>
    obtain ⟨ne, rest⟩ := not_or.mp (mt List.mem_cons.mpr none)
    exact (ih rest _).trans (s.becomeLost_ne cause reported ne)

section
variable (s : State) {i : Nat} {owner : Owner} (other : owner ≠ .slot i)
include other

theorem State.disturb_slot_ne {id : SectionId} (none : (s.sec id).holds i = false) (cause : DisturbCause) (d : Option Nat) (t : Option Clock) :
    (s.disturb id cause d t owner).slot i = s.slot i := by
  unfold State.disturb
  split
  · cases owner with
    | unknown => rfl
    | slot j => exact s.becomeLost_ne _ _ fun own => other (congrArg Owner.slot own.symm)
  · have absent : i ∉ s.disturbedSlots id owner := fun m => by
      obtain ⟨-, held | own, -⟩ := State.mem_disturbedSlots_owner.mp m
      · exact nomatch none.symm.trans held
      · exact other own
    refine ((State.offer_quiet _ _).slot i).trans ((State.becomeLost_foldl_ne _ _ absent _).trans (s.slot_setSec id _ i))

theorem State.enterAxle_slot_ne {id : SectionId} (none : (s.sec id).holds i = false) (side : Side) (d : Nat) (t : Clock) :
    (s.enterAxle id side owner d t).1.slot i = s.slot i := by
  unfold State.enterAxle
  split
  · simp only
    split
    · exact (State.becomeLost_ne _ _ _ fun own => other (congrArg Owner.slot own.symm)).trans (s.slot_setSec id _ i)
    · exact s.slot_setSec id _ i
  · exact s.disturb_slot_ne other none ..

theorem State.handOver_slot_ne {q : Nat} {c : Counter} (guards : c.guards q) (dir : Direction) (t : Clock) (discarded : Bool) :
    (s.handOver owner c dir t discarded).slot i = s.slot i := by
  cases owner with
  | unknown => rfl
  | slot j =>
    cases discarded with
    | true => rfl
    | false =>
      cases hx : s.slot j with
      | none => simp [State.handOver, State.takeCrossing, hx]
      | some x =>
        obtain ⟨_, handles, -⟩ := State.takeCrossing_handles (hard := True) guards dir (fun _ _ _ => trivial) t hx
        exact handles.others i fun own => other (congrArg Owner.slot own.symm)

theorem State.violation_slot_ne {p : Nat} (none : (s.sec (.guard p)).holds i = false) (entry : Option (Clock × Owner))
    (owned : ∀ e, entry = some e → e.2 = owner) : (s.violation p entry).slot i = s.slot i := by
  have absent : i ∉ s.violators p (entry.map Prod.snd) := fun m => by
    have held := (List.mem_filter.mp m).2
    rw [none, Bool.false_or, decide_eq_true_eq, Option.map_eq_some_iff] at held
    obtain ⟨e, own, slot⟩ := held
    exact other ((owned e own).symm.trans slot)
  have told : (s.violationTold p).slot i = s.slot i := by
    rw [State.slot, State.violationTold, (State.tellViolation_frame ..).2.2.2.2.2.2.2.2.1, (State.markFailed_frame ..).2.2.2.2.2.2.2.2.1, ← State.slot]
  rw [s.violation_eq p entry]
  exact ((State.offer_quiet _ _).slot i).trans ((State.becomeLost_foldl_ne _ _ absent _).trans told)

theorem State.guardNotices_slot_ne {p : Nat} (none : (s.sec (.guard p)).holds i = false) (entry before : Bool) (t : Clock) :
    (s.guardNotices p entry before t owner).slot i = s.slot i := by
  have entered : (if entry then s.guardEntry p t owner else s).slot i = s.slot i := by
    unfold State.guardEntry
    repeat' split
    · exact (s.withdrawn_quiet p).slot i
    · exact s.violation_slot_ne other none _ fun e h => by cases h; rfl
    · exact s.violation_slot_ne other none _ fun e h => by cases h; rfl
    all_goals rfl
  have kept : ((if entry then s.guardEntry p t owner else s).sec (.guard p)).holds i = false := by
    rw [State.sec_congr (s := s) (by split <;> simp), none]
  refine Eq.trans ?_ entered
  unfold State.guardNotices
  generalize (if entry then s.guardEntry p t owner else s) = a at kept
  unfold State.guardChange State.guardOccupied
  repeat' split
  · rfl
  · exact (a.reevaluate_quiet p).slot i
  · exact (a.withdrawn_quiet p).slot i
  · exact a.violation_slot_ne other kept _ nofun
  all_goals rfl

end

end Sys2Proof.Machine

/-! SUPPORT. The guard's point told of an entry and of its guard's becoming occupied, at the end of the telegram (R56, R114, R120, R121). -/

namespace Sys2Proof.Machine

section
variable {u v x t s n : State} {p : Nat} {time : Clock} {owner : Owner} {before : Bool}

/-! ### What the two notices do -/

/-- A point neither PENDING nor RETURNING is not concerned by its guard's becoming occupied. -/
theorem State.guardOccupied_idle (pending : ∀ e, (s.pt p).state ≠ .pending e) (returning : ∀ e, (s.pt p).state ≠ .returning e) :
    s.guardOccupied p = s := by
  unfold State.guardOccupied
  split
  · exact absurd ‹_› (pending _)
  · exact absurd ‹_› (returning _)
  all_goals rfl

/-- The point once it has been told of an entry, its guard being occupied. -/
theorem State.guardEntry_pt (inside : 1 ≤ p ∧ p ≤ 63) (occupied : s.guardClear p = false) (t : Clock) (owner : Owner) :
    (∀ e, ((s.guardEntry p t owner).pt p).state ≠ .pending e) ∧ ∀ e, ((s.guardEntry p t owner).pt p).state ≠ .returning e := by
  have violated : ((s.violation p (some (t, owner))).pt p).state = .failed := by
    obtain ⟨⟨r, rfl, pt⟩, -⟩ := s.violation_guardViolated inside occupied (some (t, owner))
    rw [pt]
  unfold State.guardEntry
  split
  · rename_i e state
    rw [State.withdrawn_occupied occupied, State.pt_withdraw state]
    exact ⟨nofun, nofun⟩
  · rw [violated]
    exact ⟨nofun, nofun⟩
  · rw [violated]
    exact ⟨nofun, nofun⟩
  all_goals
    rename_i state
    rw [state]
    exact ⟨nofun, nofun⟩

/-- Told of the entry, the point has no more to do of its guard's being occupied. -/
theorem State.guardNotices_entry (inside : 1 ≤ p ∧ p ≤ 63) (occupied : s.guardClear p = false) :
    s.guardNotices p true before time owner = s.guardEntry p time owner := by
  have still : (s.guardEntry p time owner).guardClear p = false := by
    rw [State.guardClear, State.sec_congr (s := s) (by simp), ← State.guardClear, occupied]
  obtain ⟨pending, returning⟩ := State.guardEntry_pt inside occupied time owner
  unfold State.guardNotices State.guardChange
  simp only [if_true, still]
  split
  · rfl
  · exact State.guardOccupied_idle pending returning

/-! ### A violation, up to the end of the telegram -/

/-- A violation's own report is the last that it offers. -/
theorem State.violation_told (s : State) (p : Nat) (entry : Option (Clock × Owner)) : ∃ others, Offers s (s.violation p entry)
    (others ++ [.guardViolation p (s.pt p).state ((entry.map Prod.fst).getD s.clock) (entry.map Prod.snd) (s.violators p (entry.map Prod.snd))]) := by
  obtain ⟨others, told⟩ := ((s.violationTold_tells p).trans
    (.foldl (fun a i => a.becomeLost_tells i (.guardViolation p) true) (s.violators p (entry.map Prod.snd)) _)).offered
  rw [s.violation_eq p entry]
  exact ⟨others, told.toOffers.trans (State.offer_offers _ _)⟩

theorem GuardViolated.between (pt : x.pt p = u.pt p) (engine : x.engine = u.engine) (h : GuardViolated x n p)
    (occupied : n.guardClear p = false) (sends : Sends n t) : GuardViolated u t p := by
  obtain ⟨⟨r, hr, failed⟩, unqueued, counted, violation, halted, command, supervision, lost⟩ := h
  have same : t.engine = n.engine := sends.sends.engine
  refine ⟨⟨r, pt ▸ hr, ?_⟩, (sends.plays p).parked occupied (.inl unqueued), ?_, ?_, fun first => ?_, ?_, ?_, fun i held => ?_⟩
  · rw [(sends.plays p).failed (by rw [failed, hr]), failed]
  · rw [same, counted, sends.sends.countFailed]
  · rw [same, violation]
  · rw [same]
    exact halted (engine ▸ first)
  · rw [same, command, engine]
  · rw [same, supervision, engine]
  · rw [State.sec_congr sends.sends.sections] at held
    exact (lost i held).of_slots sends.sends.slots

/-- A point's THROW withdrawn over its occupied guard. -/
theorem Plays.withdrawn {e : Leg} (occupied : v.guardClear p = false) (state : (v.pt p).state = .pending e) (plays : Plays p True v n)
    (gone : (n.pt p).state ≠ .pending e) (sends : Sends n t) :
    t.pt p = { v.pt p with state := .rest e.other, command := .none } ∧ ∀ c ∈ t.link.commands, c.point ≠ p := by
  rcases plays.occupied occupied with same | ⟨e', state', pt⟩
  · exact absurd (same ▸ state) gone
  · obtain rfl : e' = e := by
      rw [state] at state'
      cases state'
      rfl
    have filled : n.guardClear p = false := plays.clear.trans occupied
    have unqueued : Unqueued n p := plays.parked occupied (.inr fun same => gone (same ▸ state))
    refine ⟨?_, (sends.plays p).parked filled (.inl unqueued)⟩
    rcases (sends.plays p).occupied filled with same | ⟨_, pending, -⟩
    · rw [same, pt]
    · rw [pt] at pending
      cases pending

/-- A point that is not PENDING stays as it is over its occupied guard. -/
theorem Plays.kept {forced : Prop} (occupied : v.guardClear p = false) (state : ∀ e, (v.pt p).state ≠ .pending e) (plays : Plays p forced v n) :
    n.pt p = v.pt p :=
  (plays.occupied occupied).resolve_right fun ⟨e, pending, _⟩ => state e pending

/-! ### The point told of the entry -/

/-- The axle has entered in `v`, where the guard is occupied, and has been handed over in `x`; the point is told of the entry then. -/
theorem EntryTold.of_notices (inside : 1 ≤ p ∧ p ≤ 63) (pt : v.pt p = u.pt p) (engine : x.engine = u.engine) (occupied : v.guardClear p = false)
    (plays : Plays p True v x) (offers : ∃ bodies, Offers u x bodies) (sends : Sends (x.guardNotices p true before time owner) t) :
    EntryTold u t p time owner := by
  have filled : x.guardClear p = false := plays.clear.trans occupied
  rw [State.guardNotices_entry inside filled] at sends
  have violated (same : x.pt p = u.pt p) (entered : x.guardEntry p time owner = x.violation p (some (time, owner))) :
      GuardViolated u t p ∧ (∀ i, owner = .slot i → LostIfInUse t i)
      ∧ ∃ others slots, slots = (ids 16).filter (fun i => (t.sec (.guard p)).holds i || decide (owner = .slot i))
        ∧ Reported u t (others ++ [.guardViolation p (u.pt p).state time (some owner) slots]) := by
    rw [entered] at sends
    have after : (x.violation p (some (time, owner))).guardClear p = false := by
      rw [State.guardClear, State.sec_congr (s := x) (by simp), ← State.guardClear, filled]
    refine ⟨.between same engine (x.violation_guardViolated inside filled _) after sends, fun i own => ?_, ?_⟩
    · exact (x.violation_lost (entry := some (time, owner)) (.inr (congrArg some own))).of_slots sends.sends.slots
    · obtain ⟨first, before⟩ := offers
      have guard : t.sec (.guard p) = x.sec (.guard p) := State.sec_congr (sends.sends.sections.trans (by simp)) _
      obtain ⟨others, told⟩ := x.violation_told p (some (time, owner))
      refine ⟨first ++ others, _, rfl, ?_⟩
      have reported := ((before.trans told).before sends.offers).reported
      rw [same] at reported
      simpa [State.violators, guard] using reported
  have idle (state : ∀ e, (u.pt p).state ≠ .pending e) (entered : x.pt p = u.pt p → x.guardEntry p time owner = x) : t.pt p = u.pt p := by
    have same := (plays.kept occupied (pt ▸ state)).trans pt
    rw [entered same] at sends
    exact ((sends.plays p).kept filled (same ▸ state)).trans same
  unfold EntryTold
  split
  · rename_i e state
    have pending : (v.pt p).state = .pending e := pt ▸ state
    rw [← pt]
    refine Plays.withdrawn occupied pending (n := x.guardEntry p time owner) (plays.trans ?_)
      ((State.guardEntry_pt inside filled time owner).1 e) sends
    unfold State.guardEntry
    rcases plays.occupied occupied with same | ⟨e', -, same⟩
    · simp only [same, pending]
      exact x.withdrawn_plays fun _ => trivial
    · simp only [same]
      exact .refl p True x
  · rename_i e state
    have same := (plays.kept occupied fun e => by rw [pt, state]; nofun).trans pt
    exact violated same (by simp only [State.guardEntry, same, state])
  · rename_i e state
    have same := (plays.kept occupied fun e => by rw [pt, state]; nofun).trans pt
    exact violated same (by simp only [State.guardEntry, same, state])
  all_goals
    rename_i state
    exact idle (fun e => by rw [state]; nofun) fun same => by simp only [State.guardEntry, same, state]

/-! ### The point told of its guard's becoming occupied -/

/-- The guard is occupied in `v` and holds no run in `x`, where the point is told. -/
theorem OccupiedTold.of_notices (inside : 1 ≤ p ∧ p ≤ 63) (pt : v.pt p = u.pt p) (engine : x.engine = u.engine) (clock : x.clock = u.clock)
    (occupied : v.guardClear p = false) (plays : Plays p True v x) (offers : ∃ bodies, Offers u x bodies) (empty : (x.sec (.guard p)).runs = [])
    (sends : Sends (x.guardNotices p false true time owner) t) : OccupiedTold u t p := by
  have filled : x.guardClear p = false := plays.clear.trans occupied
  have told : x.guardNotices p false true time owner = x.guardOccupied p := by
    simp [State.guardNotices, State.guardChange, filled]
  rw [told] at sends
  have idle (state : ∀ e, (u.pt p).state ≠ .pending e) (entered : x.pt p = u.pt p → x.guardOccupied p = x) : t.pt p = u.pt p := by
    have same := (plays.kept occupied (pt ▸ state)).trans pt
    rw [entered same] at sends
    exact ((sends.plays p).kept filled (same ▸ state)).trans same
  unfold OccupiedTold
  split
  · rename_i e state
    have pending : (v.pt p).state = .pending e := pt ▸ state
    rw [← pt]
    unfold State.guardOccupied at sends
    rcases plays.occupied occupied with same | ⟨e', -, same⟩
    · simp only [same, pending] at sends
      refine Plays.withdrawn occupied pending (plays.trans (x.withdrawn_plays fun _ => trivial)) ?_ sends
      rw [State.withdrawn_occupied filled, State.pt_withdraw (same ▸ pending)]
      nofun
    · simp only [same] at sends
      refine Plays.withdrawn occupied pending plays ?_ sends
      rw [same]
      nofun
  · rename_i e state
    have same := (plays.kept occupied fun e => by rw [pt, state]; nofun).trans pt
    split
    · rename_i queued
      have violated : x.guardOccupied p = x.violation p none := by simp only [State.guardOccupied, same, state, queued, if_true]
      rw [violated] at sends
      have after : (x.violation p none).guardClear p = false := by
        rw [State.guardClear, State.sec_congr (s := x) (by simp), ← State.guardClear, filled]
      refine ⟨.between same engine (x.violation_guardViolated inside filled _) after sends, ?_⟩
      obtain ⟨first, before⟩ := offers
      obtain ⟨others, told⟩ := x.violation_told p none
      refine ⟨first ++ others, ?_⟩
      have none : x.violators p none = [] := by simp [State.violators, Section.holds, empty]
      have reported := ((before.trans told).before sends.offers).reported
      rw [same, clock] at reported
      simpa [none, state] using reported
    · rename_i unqueued
      exact idle (fun e => by rw [state]; nofun) fun same => by
        simp only [State.guardOccupied, same, state]
        exact if_neg unqueued
  all_goals
    rename_i state
    exact idle (fun e => by rw [state]; nofun) fun same => by simp only [State.guardOccupied, same, state]

end

end Sys2Proof.Machine

/-! SUPPORT. The runs of a section that an axle leaves or enters, and an owner's re-entry into the guard (R41, R45, R48, R56, R86). -/

namespace Sys2Proof.Machine

/-! ### The runs of a section -/

section
variable {side : Side} {l m : List Run} {o : Owner}

theorem mem_facing {r : Run} : r ∈ facing side l ↔ r ∈ l := by
  cases side with
  | head => rfl
  | tail => exact List.mem_reverse

theorem AxleTaken.owners (h : AxleTaken side l o m) {r : Run} (mem : r ∈ m) : ∃ x ∈ l, x.owner = r.owner := by
  obtain ⟨n, rest, before, after⟩ := h
  rw [← mem_facing (side := side), after] at mem
  have back {x : Run} (h : x ∈ ⟨o, n⟩ :: rest) : x ∈ l := mem_facing.mp (before ▸ h)
  split at mem
  · exact ⟨r, back (List.mem_cons_of_mem _ mem), rfl⟩
  · rcases List.mem_cons.mp mem with rfl | mem
    · exact ⟨_, back List.mem_cons_self, rfl⟩
    · exact ⟨r, back (List.mem_cons_of_mem _ mem), rfl⟩

theorem AxleAdded.owners (h : AxleAdded side l o m) {r : Run} (mem : r ∈ m) : r.owner = o ∨ ∃ x ∈ l, x.owner = r.owner := by
  rw [← mem_facing (side := side), h] at mem
  cases e : facing side l with
  | nil =>
    simp only [e, List.mem_singleton] at mem
    exact .inl (mem ▸ rfl)
  | cons x rest =>
    have back {y : Run} (h : y ∈ x :: rest) : y ∈ l := mem_facing.mp (e ▸ h)
    simp only [e] at mem
    split at mem
    · rcases List.mem_cons.mp mem with rfl | mem
      · exact .inl rfl
      · exact .inr ⟨r, back (List.mem_cons_of_mem _ mem), rfl⟩
    · rcases List.mem_cons.mp mem with rfl | mem
      · exact .inl rfl
      · exact .inr ⟨r, back mem, rfl⟩

/-- The section holds the axle added. -/
theorem AxleAdded.mem (h : AxleAdded side l o m) : ∃ r ∈ m, r.owner = o := by
  have first : ∃ r ∈ facing side m, r.owner = o := by
    rw [h]
    split
    · exact ⟨_, List.mem_singleton_self _, rfl⟩
    · split
      · exact ⟨_, List.mem_cons_self, rfl⟩
      · exact ⟨_, List.mem_cons_self, rfl⟩
  exact first.imp fun r => .imp_left mem_facing.mp

variable {s t : State} {id : SectionId} {d i : Nat} {time : Clock}

theorem AxleLeaves.holds (h : AxleLeaves s t id side d time o) (held : (t.sec id).holds i = true) : (s.sec id).holds i = true := by
  obtain ⟨taken, none⟩ := h
  rw [Section.holds_iff] at held ⊢
  obtain ⟨r, mem, own⟩ := held
  by_cases empty : (s.sec id).runs = []
  · rw [(none empty).2.1] at mem
    cases mem
  · obtain ⟨x, mem', same⟩ := (taken empty).1.owners mem
    exact ⟨x, mem', same.trans own⟩

theorem AxleEnters.holds (h : AxleEnters s t id side d time o) (held : (t.sec id).holds i = true) :
    (s.sec id).holds i = true ∨ o = .slot i := by
  obtain ⟨recorded, discarded, -⟩ := h
  rw [Section.holds_iff] at held ⊢
  obtain ⟨r, mem, own⟩ := held
  by_cases fits : AxleFits side (s.sec id).runs o
  · rcases (recorded fits).1.owners mem with same | ⟨x, mem', same⟩
    · exact .inr (same.symm.trans own)
    · exact .inl ⟨x, mem', same.trans own⟩
  · rw [(discarded fits).1] at mem
    exact .inl ⟨r, mem, own⟩

/-- An axle that has entered a guard, or has been discarded there, has made it occupied. -/
theorem State.entering_occupied (s : State) {p : Nat} (inside : 1 ≤ p ∧ p ≤ 63) (side : Side) (o : Owner) (d : Nat) (t : Clock) :
    (s.setSec (.guard p) ((s.sec (.guard p)).entering side o d t)).guardClear p = false := by
  rw [State.guardClear, s.sec_setSec_self _ _ (by simpa [SectionId.inRange] using inside), Section.entering]
  cases added : addRun o side (s.sec (.guard p)).runs with
  | some m =>
    obtain ⟨r, mem, -⟩ := (addRun_added added).2.mem
    cases m with
    | nil => cases mem
    | cons => simp
  | none => simp

/-- So has an axle taken from a guard that holds none. -/
theorem State.leaving_occupied (s : State) {p : Nat} (inside : 1 ≤ p ∧ p ≤ 63) (empty : (s.sec (.guard p)).runs = []) (side : Side) (d : Nat)
    (t : Clock) : (s.setSec (.guard p) ((s.sec (.guard p)).leaving side d t)).guardClear p = false := by
  have none : takeRun side (s.sec (.guard p)).runs = none := by
    rw [empty]
    cases side <;> rfl
  rw [State.guardClear, s.sec_setSec_self _ _ (by simpa [SectionId.inRange] using inside), Section.leaving]
  simp [none]

end

/-! ### Re-entry (R86) -/

/-- A claim list stays where the slot's tail remains. -/
theorem State.tailTest_remains {s : State} {i k : Nat} {x : Slot} (hx : s.slot i = some x) (remains : TailRemains s s i k x.head) :
    (s.tailTest i).claimList k = s.claimList k := by
  have fold (l : List Nat) (none : k ∉ l) : ∀ a : State, (l.foldl (fun a p => a.leaveClaim p i) a).claimList k = a.claimList k := by
    induction l with
    | nil => exact fun a => rfl
    | cons p l ih =>
      intro a
      obtain ⟨other, rest⟩ := not_or.mp (mt List.mem_cons.mpr none)
      exact (ih rest _).trans (a.leaveClaim_ne i other)
  unfold State.tailTest
  simp only [hx]
  split
  · rfl
  · refine fold _ (fun m => ?_) s
    have gone := (List.mem_filter.mp m).2
    rw [State.tailGone_iff.mpr remains] at gone
    cases gone

section
variable {u w r t : State} {i p : Nat} {x y : Slot} {before : Bool} {time : Clock} {l : List Nat}

/-- The slot's axle is in the guard: to the end the slot stays in the point's claim list, where it stands in it. -/
theorem State.Still.stays (still : r.Still p) (hy : r.slot i = some y) (held : (r.sec (.guard p)).holds i = true)
    (sends : Sends (((r.tailTest i).reevaluateAll l).guardNotices p true before time (.slot i)) t) :
    t.slot i = some y ∧ t.claimList p = r.claimList p ∧ Offers r t [] := by
  have tested := r.tailTest_claimed i
  have list := State.tailTest_remains hy fun _ => ⟨.guard p, ⟨p, .inl rfl, .inl rfl⟩, held⟩
  obtain ⟨quiet, offers⟩ := ((tested.still still).reevaluateAll l).guardNotices before time (.slot i)
  have quiet := (State.reevaluateAll_quiet (r.tailTest i) l).trans (quiet.trans sends.sends.quiet)
  refine ⟨?_, ?_, tested.offers.after ((State.reevaluateAll_offers _ l).after (offers.after sends.offers))⟩
  · obtain ⟨_, e⟩ := tested
    rw [quiet.slot, e]
    exact hy
  · rw [(quiet.sameOutlook p).claims, list]

/-- The slot's axle is in the guard in `w`, where the slot re-enters; the tail test, the re-evaluations and the notices follow. -/
theorem Rejoined.of_reenter (inside : 1 ≤ p ∧ p ≤ 63) (hy : w.slot i = some y) (live : y.flags.lost = false) (claims : w.claims = u.claims)
    (tables : w.tables = u.tables) (path : y.path = x.path) (unresolved : y.unresolved = x.unresolved) (number : y.number = x.number)
    (held : (w.sec (.guard p)).holds i = true) (still : w.Still p) (into : Offers u w [])
    (sends : Sends ((((w.reenter i p).tailTest i).reevaluateAll l).guardNotices p true before time (.slot i)) t) : Rejoined u t i p x y := by
  have wants (want : Option Leg) : w.claimWant y p = some want ↔ Wants u x p want := by
    rw [State.claimWant_same (congrArg Tables.pointPaths tables) path.symm unresolved.symm, State.claimWant_eq_some]
  have stood : w.stands i p = u.stands i p := by rw [State.stands, State.claimList, claims, ← State.claimList, ← State.stands]
  have standing (stands : w.stands i p = true) : t.slot i = some y ∧ t.stands i p = true ∧ Reported u t [] := by
    have same : w.reenter i p = w := by simp [State.reenter, hy, stands]
    rw [same] at sends
    obtain ⟨slot, list, offers⟩ := State.Still.stays still hy held sends
    exact ⟨slot, by rwa [State.stands, list], (into.after offers).reported⟩
  have joining (absent : w.stands i p = false) (want : Option Leg) (wanted : w.claimWant y p = some want) :
      t.slot i = some y ∧ t.stands i p = true ∧ (⟨i, want⟩ : Claim) ∈ t.claimList p ∧ Reported u t [] := by
    have joined : w.reenter i p = w.joinClaim p i want := by simp [State.reenter, hy, live, absent, wanted]
    have list := State.joinClaim_claimList want inside absent hy
    have claimed := w.joinClaim_claimed p i want
    rw [joined] at sends
    generalize w.joinClaim p i want = r at sends list claimed
    have slot : r.slot i = some y := by obtain ⟨_, rfl⟩ := claimed; exact hy
    have guard : (r.sec (.guard p)).holds i = true := by obtain ⟨_, rfl⟩ := claimed; exact held
    obtain ⟨slot, same, offers⟩ := State.Still.stays (claimed.still still) slot guard sends
    have member : (⟨i, want⟩ : Claim) ∈ t.claimList p := by
      rw [same, list]
      exact List.mem_append_right _ List.mem_cons_self
    exact ⟨slot, State.stands_iff.mpr ⟨_, member, rfl⟩, member, ((into.after claimed.offers).after offers).reported⟩
  have losing (absent : w.stands i p = false) (none : w.claimWant y p = none) :
      BecameLost t i y ∧ Reported u t [.cutLost i x.number (.offPath p)] := by
    have lost : w.reenter i p = w.becomeLost i (.offPath p) true := by simp [State.reenter, hy, live, absent, none]
    have gone := State.becomeLost_gone hy live (.offPath p) true
    rw [lost, gone.tailTest] at sends
    obtain ⟨quiet, offers⟩ := ((still.becomeLost i (.offPath p)).reevaluateAll l).guardNotices before time (.slot i)
    have told := State.becomeLost_reported hy live (.offPath p)
    have quiet := (State.reevaluateAll_quiet _ l).trans (quiet.trans sends.sends.quiet)
    have offers := told.before ((State.reevaluateAll_offers _ l).after (offers.after sends.offers))
    exact ⟨(quiet.gone gone).becameLost, number ▸ (into.after offers).reported⟩
  constructor
  · intro want wanted
    cases stands : w.stands i p with
    | true =>
      obtain ⟨slot, after, reported⟩ := standing stands
      exact ⟨slot, after, fun absent => absurd ((stood.trans absent).symm.trans stands) nofun, reported⟩
    | false =>
      obtain ⟨slot, after, member, reported⟩ := joining stands want ((wants want).mpr wanted)
      exact ⟨slot, after, fun _ => member, reported⟩
  · intro unwanted
    refine ⟨fun stands => ?_, fun absent => losing (stood.trans absent) ?_⟩
    · obtain ⟨slot, -, reported⟩ := standing (stood.trans stands)
      exact ⟨slot, reported⟩
    · exact Option.eq_none_iff_forall_ne_some.mpr fun want e => unwanted want ((wants want).mp e)

end

end Sys2Proof.Machine

/-! PROOF. A crossing at a guard's counter moves one axle and tells the points (O32). -/

namespace Sys2Proof.Machine

theorem Tells.apart {p k : Nat} {hard : Prop} {s t : State} (h : Tells p hard s t) (other : k ≠ p) : Plays k False s t := by
  simpa [other] using h.plays k fun own => absurd own other

theorem Tells.own {p : Nat} {s t : State} (h : Tells p False s t) : Plays p True s t := by
  simpa using h.plays p fun _ => not_false

theorem Tells.outcome {p : Nat} {hard : Prop} {s t : State} (h : Tells p hard s t) (sections : t.sections = s.sections) (id : SectionId) :
    Outcome s t id := h.toTends.outcome sections id

theorem Sends.outcome {s t : State} (h : Sends s t) (id : SectionId) : Outcome s t id := h.sends.outcome h.offers id

/-! ### From section to section -/

section
variable (u : State) (a : SectionId) (off : Side) (b : SectionId) (on : Side) (d : Nat) (time : Clock)

/-- The axle has left section `a`, and section `b` has been written with it. -/
def State.axleWritten : State :=
  (u.takeAxle a off d time).1.setSec b (((u.takeAxle a off d time).1.sec b).entering on (u.takeAxle a off d time).2 d time)

/-- The axle has entered section `b`. -/
def State.axleIn : State × Bool := (u.takeAxle a off d time).1.enterAxle b on (u.takeAxle a off d time).2 d time

theorem State.takeAxle_plays {k : Nat} (other : a ≠ .guard k) : Plays k False u (u.takeAxle a off d time).1 :=
  (u.setSec_plays a other _).trans ((u.takeAxle_tells a off d time (p := k + 1) (hard := False)).apart (by omega))

theorem State.axleWritten_plays {k : Nat} (source : a ≠ .guard k) (target : b ≠ .guard k) : Plays k False u (u.axleWritten a off b on d time) :=
  (u.takeAxle_plays a off d time source).trans (State.setSec_plays _ b target _)

theorem State.axleWritten_slot (i : Nat) : (u.axleWritten a off b on d time).slot i = u.slot i :=
  (State.slot_setSec _ b _ i).trans (u.takeAxle_slot a off d time i)

theorem State.axleWritten_claimList (k : Nat) : (u.axleWritten a off b on d time).claimList k = u.claimList k := by
  refine Eq.trans ?_ (u.takeAxle_claimList a off d time k)
  cases b <;> rfl

theorem State.axleWritten_pt (k : Nat) : (u.axleWritten a off b on d time).pt k = u.pt k := by
  have taken : (u.takeAxle a off d time).1.pt k = u.pt k := by rw [State.pt, u.takeAxle_points, ← State.pt]
  refine Eq.trans ?_ taken
  cases b <;> rfl

theorem State.axleWritten_engine : (u.axleWritten a off b on d time).engine = u.engine := by simp [State.axleWritten]

theorem State.axleWritten_offers : ∃ bodies, Offers u (u.axleWritten a off b on d time) bodies := by
  obtain ⟨bodies, offers⟩ := u.takeAxle_offers a off d time
  exact ⟨bodies, offers.before (State.setSec_queues _ b _).toOffers⟩

theorem State.axleIn_tells {p : Nat} {hard : Prop} : Tells p hard (u.axleWritten a off b on d time) (u.axleIn a off b on d time).1 :=
  State.enterAxle_tells _ b on _ d time

theorem State.axleIn_sections : (u.axleIn a off b on d time).1.sections = (u.axleWritten a off b on d time).sections :=
  State.enterAxle_sections _

variable {u a off b on d time} {c : Counter} {dir : Direction} {p : Nat} {t : State}

theorem State.moveAxle_sections : (u.moveAxle a off b on c dir d time).1.sections = (u.axleWritten a off b on d time).sections := by
  refine Eq.trans ?_ (u.axleIn_sections a off b on d time)
  exact (State.handOver_frame ..).2.2.2.2.1

/-- From the section written to the crossing's end the points are tended; the guard's point fares hard at a DOWN crossing at its
guard-out alone. -/
theorem State.moveAxle_tells {hard : Prop} (guards : c.guards p) (hardOut : ∀ x, c = .guardOut p x → dir = .down → hard) :
    Tells p hard (u.axleWritten a off b on d time) (u.moveAxle a off b on c dir d time).1 :=
  (u.axleIn_tells a off b on d time).trans (State.handOver_tells guards dir hardOut time _ _)

theorem State.moveAxle_sec_ne {id : SectionId} (source : id ≠ a) (target : id ≠ b) : (u.moveAxle a off b on c dir d time).1.sec id = u.sec id := by
  rw [State.sec_congr State.moveAxle_sections, State.axleWritten, State.sec_setSec_ne _ _ target, u.takeAxle_sec_ne off d time source]

theorem State.axleWritten_outcome (ne : a ≠ b) : Outcome (u.takeAxle a off d time).1 (u.axleWritten a off b on d time) a where
  offered := ⟨[], (State.setSec_queues _ b _).toOffers⟩
  lost j h x hx := h x ((State.slot_setSec _ b _ j).symm.trans hx)
  same := State.sec_setSec_ne _ _ ne

theorem State.moveAxle_leaves (guards : c.guards p) (ne : a ≠ b) (inside : a.inRange = true)
    (outcome : Outcome (u.moveAxle a off b on c dir d time).1 t a) : AxleLeaves u t a off d time (u.moveAxle a off b on c dir d time).2 :=
  State.takeAxle_leaves u inside
    (((State.axleWritten_outcome ne).trans ((State.moveAxle_tells (hard := True) guards fun _ _ _ => trivial).outcome State.moveAxle_sections a)).trans outcome)

theorem State.moveAxle_enters (guards : c.guards p) (ne : a ≠ b) (inside : b.inRange = true)
    (outcome : Outcome (u.moveAxle a off b on c dir d time).1 t b) : AxleEnters u t b on d time (u.moveAxle a off b on c dir d time).2 := by
  refine State.enterAxle_enters _ inside (u.takeAxle_onset a off d time) (u.takeAxle_sec_ne off d time ne.symm) (Outcome.trans ?_ outcome)
  exact (State.handOver_tells (hard := True) guards dir (fun _ _ _ => trivial) time _ _).outcome (State.handOver_frame ..).2.2.2.2.1 b

theorem State.moveAxle_yard (guard : c.OfGuard p) : (u.moveAxle a off b on c dir d time).1.binder = u.binder
    ∧ (u.moveAxle a off b on c dir d time).1.cutList = u.cutList ∧ (u.moveAxle a off b on c dir d time).1.tables = u.tables := by
  obtain ⟨binder, cutList, tables⟩ := State.handOver_yard (u.axleIn a off b on d time).1 guard (u.takeAxle a off d time).2 dir time
    (u.axleIn a off b on d time).2
  exact ⟨binder.trans (by simp [State.axleIn]), cutList.trans (by simp [State.axleIn]), tables.trans (by simp [State.axleIn])⟩

theorem State.moveAxle_slot_ne {i : Nat} (guards : c.guards p) (ne : a ≠ b) (other : (u.moveAxle a off b on c dir d time).2 ≠ .slot i)
    (none : (u.sec b).holds i = false) : (u.moveAxle a off b on c dir d time).1.slot i = u.slot i := by
  have same := u.takeAxle_sec_ne off d time ne.symm
  exact ((State.handOver_slot_ne _ other guards dir time _).trans
    (State.enterAxle_slot_ne _ other (by rw [same, none]) on d time)).trans (u.takeAxle_slot a off d time i)

/-- The owner is UNKNOWN where the source held no axle, and only the sections have changed where it is a slot. -/
theorem State.takeAxle_owner (s : State) (id : SectionId) (side : Side) (d : Nat) (t : Clock) :
    ((s.sec id).runs = [] → (s.takeAxle id side d t).2 = .unknown)
      ∧ ∀ i, (s.takeAxle id side d t).2 = .slot i → (s.takeAxle id side d t).1 = s.setSec id ((s.sec id).leaving side d t) := by
  unfold State.takeAxle Section.leaving
  cases taken : takeRun side (s.sec id).runs with
  | some x =>
    refine ⟨fun empty => ?_, fun _ _ => rfl⟩
    rw [empty] at taken
    cases side <;> cases taken
  | none => exact ⟨fun _ => rfl, nofun⟩

/-! ### With the notices and up to the end of the telegram -/

section
variable {entry before : Bool}
  (sends : Sends ((u.moveAxle a off b on c dir d time).1.guardNotices p entry before time (u.moveAxle a off b on c dir d time).2) t)
include sends

theorem Sends.crossed_sections : t.sections = (u.moveAxle a off b on c dir d time).1.sections := sends.sends.sections.trans (by simp)

theorem Sends.crossed_outcome (id : SectionId) : Outcome (u.moveAxle a off b on c dir d time).1 t id :=
  ((State.guardNotices_tells _ p entry before time _).outcome (by simp) id).trans (sends.outcome id)

variable (guard : c.OfGuard p)
include guard

theorem Sends.crossed_slot_ne {i : Nat} (ne : a ≠ b) (ina : a.inRange = true) (inb : b.inRange = true) (own : a = .guard p ∨ b = .guard p)
    (other : (u.moveAxle a off b on c dir d time).2 ≠ .slot i) (source : (u.sec a).holds i = false) (target : (u.sec b).holds i = false) :
    t.slot i = u.slot i := by
  have leaves := State.moveAxle_leaves guard.guards ne ina (sends.crossed_outcome a)
  have enters := State.moveAxle_enters guard.guards ne inb (sends.crossed_outcome b)
  have none : ((u.moveAxle a off b on c dir d time).1.sec (.guard p)).holds i = false := by
    rw [← State.sec_congr sends.crossed_sections]
    refine Bool.of_not_eq_true fun held => ?_
    rcases own with rfl | rfl
    · exact absurd (source.symm.trans (leaves.holds held)) nofun
    · rcases enters.holds held with held | own
      · exact absurd (target.symm.trans held) nofun
      · exact other own
  have noticed := State.guardNotices_slot_ne _ other none entry before time
  rw [State.slot, sends.sends.slots, ← State.slot, noticed]
  exact State.moveAxle_slot_ne guard.guards ne other target

theorem Sends.crossed_reevaluated : PointsReevaluated u t (u.moveAxle a off b on c dir d time).2 := by
  refine PointsReevaluated.of_tends (v := u.axleWritten a off b on d time) (e := (u.axleIn a off b on d time).1)
    (x := (u.moveAxle a off b on c dir d time).1) (fun k => .inl (u.axleWritten_claimList a off b on d time k)) (fun i y hy => ?_)
    (u.axleIn_tells a off b on d time (p := p) (hard := True)).toTends
    (State.handOver_tells (hard := True) guard.guards dir (fun _ _ _ => trivial) time _ _).toTends
    (State.guardNotices_tells _ p entry before time _).toTends sends.sends fun i y own hy held k stands => ?_
  · exact ⟨y, (u.axleWritten_slot a off b on d time i).trans hy, rfl⟩
  · have hy : (u.takeAxle a off d time).1.slot i = some y := (State.slot_setSec _ b _ i).symm.trans hy
    have own : (u.takeAxle a off d time).2 = .slot i := own
    unfold State.axleIn at stands
    unfold State.moveAxle
    simp only [own] at stands ⊢
    exact State.handOver_told guard.guards dir hy held k stands

theorem Sends.crossed_follows {k : Nat} (other : k ≠ p) (source : a ≠ .guard k) (target : b ≠ .guard k) : PointFollows u t k :=
  ((((u.axleWritten_plays a off b on d time source target).trans
    ((State.moveAxle_tells (hard := True) guard.guards fun _ _ _ => trivial).apart other)).trans
    ((State.guardNotices_tells _ p entry before time _).apart other)).trans (sends.plays k)).pointFollows

theorem Sends.crossed_tail {i : Nat} (own : (u.moveAxle a off b on c dir d time).2 = .slot i) (inb : b.inRange = true) :
    TailFollowed u t i := by
  have owner : (u.takeAxle a off d time).2 = .slot i := own
  obtain ⟨x, hx⟩ : ∃ x, x = (u.moveAxle a off b on c dir d time).1 := ⟨_, rfl⟩
  obtain ⟨e, he⟩ : ∃ e, e = (u.axleIn a off b on d time).1 := ⟨_, rfl⟩
  have after : SlotStays i False x t := hx ▸ (State.guardNotices_slotStays _ p entry before time _).trans sends.sends.slotStays
  cases discarded : (u.axleIn a off b on d time).2 with
  | true =>
    have lost : LostIfInUse e i := by
      rw [he]
      unfold State.axleIn at discarded ⊢
      rw [owner] at discarded ⊢
      exact State.enterAxle_discarded_lost inb discarded
    have same : x = e := by
      rw [hx, he]
      unfold State.axleIn State.moveAxle at *
      simp only [owner] at discarded ⊢
      rw [discarded]
      rfl
    exact .of_lost ((sends.crossed_outcome a).lost i (hx ▸ same ▸ lost))
  | false =>
    have taken : x = e.takeCrossing i c dir time false := by
      rw [hx, he]
      unfold State.axleIn State.moveAxle at *
      simp only [owner] at discarded ⊢
      rw [discarded]
      rfl
    have entered : SlotStays i True u e :=
      he ▸ (u.takeAxle_slotStays a off d time).trans (State.enterAxle_slotStays _ b on _ d time)
    rw [taken] at after
    refine .of_taken guard.guards entered (by simp [he, State.axleIn]) after ?_
    rw [← taken, hx]
    exact sends.crossed_sections

end

end

end Sys2Proof.Machine

/-! PROOF. A crossing at a guard's counter, with its notices to the guard's point (O32). -/

namespace Sys2Proof.Machine

section
variable {u t : State} {a b : SectionId} {off on : Side} {c : Counter} {dir : Direction} {d p : Nat} {time : Clock} {entry before : Bool}

/-! ### What every crossing at a guard's counter does -/

/-- One axle of the owner has moved between two sections, one of them the guard of point `p`: what has stayed, and what the points are told. -/
structure GuardCrossed (u t : State) (a b : SectionId) (p : Nat) (owner : Owner) : Prop where
  sections : ∀ id, id ≠ a → id ≠ b → t.sec id = u.sec id
  slots : ∀ i, owner ≠ .slot i → (u.sec a).holds i = false → (u.sec b).holds i = false → t.slot i = u.slot i
  yard : t.binder = u.binder ∧ t.cutList = u.cutList ∧ t.tables = u.tables ∧ t.mgmt = u.mgmt ∧ t.clock = u.clock
  reevaluated : PointsReevaluated u t owner
  follows : ∀ k, k ≠ p → PointFollows u t k
  cleared : u.guardClear p = false → t.guardClear p = true → StandsEvaluated t p
  tail : ∀ i, owner = .slot i → TailFollowed u t i

theorem Sends.guardCrossed (guard : c.OfGuard p) (ne : a ≠ b) (ina : a.inRange = true) (inb : b.inRange = true) (own : a = .guard p ∨ b = .guard p)
    (apart : ∀ k, k ≠ p → a ≠ .guard k ∧ b ≠ .guard k)
    (sends : Sends ((u.moveAxle a off b on c dir d time).1.guardNotices p entry (u.guardClear p) time (u.moveAxle a off b on c dir d time).2) t) :
    GuardCrossed u t a b p (u.moveAxle a off b on c dir d time).2 where
  sections id source target := (State.sec_congr sends.crossed_sections id).trans (State.moveAxle_sec_ne source target)
  slots i := sends.crossed_slot_ne guard ne ina inb own
  yard := by
    obtain ⟨binder, cutList, tables⟩ := State.moveAxle_yard guard (u := u) (a := a) (off := off) (b := b) (on := on) (dir := dir) (d := d) (time := time)
    refine ⟨?_, ?_, ?_, ?_, ?_⟩
    · rw [sends.sends.binder, ← binder]
      simp
    · rw [sends.sends.cutList, ← cutList]
      simp
    · rw [sends.sends.tables, ← tables]
      simp
    · rw [sends.sends.mgmt]
      simp [State.moveAxle]
    · rw [sends.sends.clock]
      simp [State.moveAxle]
  reevaluated := sends.crossed_reevaluated guard
  follows k other := sends.crossed_follows guard other (apart k other).1 (apart k other).2
  cleared occupied clear := by
    rw [occupied] at sends
    rw [State.guardClear, State.sec_congr sends.crossed_sections, ← State.guardClear] at clear
    exact (State.guardNotices_evaluated _ clear time _ entry).sends sends.sends
  tail i own := sends.crossed_tail guard own inb

/-! ### The guard's point -/

/-- The axle has entered the guard. -/
theorem Sends.crossed_entry (inside : 1 ≤ p ∧ p ≤ 63) (guard : c.OfGuard p) (soft : ∀ x, c = .guardOut p x → dir ≠ .down)
    (sends : Sends ((u.moveAxle a off (.guard p) on c dir d time).1.guardNotices p true before time (u.moveAxle a off (.guard p) on c dir d time).2) t) :
    EntryTold u t p time (u.moveAxle a off (.guard p) on c dir d time).2 := by
  have tells : Tells p False (u.axleWritten a off (.guard p) on d time) (u.moveAxle a off (.guard p) on c dir d time).1 :=
    State.moveAxle_tells guard.guards fun x out down => soft x out down
  refine EntryTold.of_notices inside (u.axleWritten_pt a off _ on d time p) ((tells.engine not_false).trans (u.axleWritten_engine a off _ on d time))
    (State.entering_occupied _ inside on _ d time) tells.own ?_ sends
  obtain ⟨first, before⟩ := u.axleWritten_offers a off (.guard p) on d time
  obtain ⟨rest, after⟩ := tells.offered
  exact ⟨_, before.trans after.toOffers⟩

/-- The axle has come from the guard, which held none. -/
theorem Sends.crossed_occupied (inside : 1 ≤ p ∧ p ≤ 63) (ne : .guard p ≠ b) (empty : (u.sec (.guard p)).runs = [])
    (sends : Sends ((u.moveAxle (.guard p) off b on c dir d time).1.guardNotices p false true time (u.moveAxle (.guard p) off b on c dir d time).2) t) :
    OccupiedTold u t p := by
  have owner : (u.takeAxle (.guard p) off d time).2 = .unknown := (u.takeAxle_owner _ off d time).1 empty
  have moved : (u.moveAxle (.guard p) off b on c dir d time).1 = (u.axleIn (.guard p) off b on d time).1 := by
    unfold State.moveAxle State.axleIn
    simp only [owner]
    rfl
  have left : (u.takeAxle (.guard p) off d time).1.guardClear p = false := by
    obtain ⟨_, _, e⟩ := u.takeAxle_told (.guard p) off d time
    rw [e]
    exact u.leaving_occupied inside empty off d time
  have occupied : (u.axleWritten (.guard p) off b on d time).guardClear p = false := by
    rw [State.guardClear, State.axleWritten, State.sec_setSec_ne _ _ ne, ← State.guardClear, left]
  have none : ((u.axleIn (.guard p) off b on d time).1.sec (.guard p)).runs = [] := by
    have guard : (u.axleIn (.guard p) off b on d time).1.sec (.guard p) = (u.takeAxle (.guard p) off d time).1.sec (.guard p) :=
      (State.sec_congr (u.axleIn_sections (.guard p) off b on d time) _).trans (State.sec_setSec_ne _ _ ne)
    have leaves := u.takeAxle_leaves (side := off) (d := d) (time := time) (by simpa [SectionId.inRange] using inside : (SectionId.guard p).inRange = true)
      (t := (u.takeAxle (.guard p) off d time).1) ⟨⟨[], .refl _⟩, fun _ h => h, rfl⟩
    rw [guard]
    exact (leaves.2 empty).2.1
  have tells : Tells p False (u.axleWritten (.guard p) off b on d time) (u.axleIn (.guard p) off b on d time).1 := u.axleIn_tells ..
  rw [moved] at sends
  refine OccupiedTold.of_notices inside (u.axleWritten_pt _ off b on d time p) ((tells.engine not_false).trans (u.axleWritten_engine _ off b on d time))
    (by simp [State.axleIn]) occupied tells.own ?_ none sends
  obtain ⟨first, before⟩ := u.axleWritten_offers (.guard p) off b on d time
  obtain ⟨rest, after⟩ := tells.offered
  exact ⟨_, before.trans after.toOffers⟩

/-! ### An owner that enters the guard again (R86) -/

/-- The section holds the axle that has been recorded there. -/
theorem State.entering_holds (s : State) {id : SectionId} {side : Side} {i : Nat} (inside : id.inRange = true)
    (fits : AxleFits side (s.sec id).runs (.slot i)) :
    ((s.setSec id ((s.sec id).entering side (.slot i) d time)).sec id).holds i = true := by
  obtain ⟨m, added⟩ := fits.addRun
  rw [s.sec_setSec_self id _ inside, Section.holds_iff, Section.entering, added]
  exact (addRun_added added).2.mem

/-- A slot's crossing that enters a NORMAL guard with room, up to the tracking table's taking of it, has changed no more than sections. -/
theorem State.moveAxle_slot {i : Nat} (ne : b ≠ a) (own : (u.moveAxle a off b on c dir d time).2 = .slot i)
    (fits : AxleFits on (u.sec b).runs (.slot i)) (normal : (u.sec b).disturbance = none) :
    ∃ sections, u.axleWritten a off b on d time = { u with sections := sections }
      ∧ (u.moveAxle a off b on c dir d time).1 = ({ u with sections := sections } : State).takeCrossing i c dir time false := by
  have owner : (u.takeAxle a off d time).2 = .slot i := own
  have left := (u.takeAxle_owner a off d time).2 i owner
  have same := u.takeAxle_sec_ne off d time ne
  obtain ⟨sections, written⟩ : ∃ sections, u.axleWritten a off b on d time = { u with sections := sections } := by
    unfold State.axleWritten
    rw [left, State.setSec_eq, State.setSec_eq]
    exact ⟨_, rfl⟩
  refine ⟨sections, written, ?_⟩
  rw [← written]
  unfold State.moveAxle State.axleWritten
  simp only [owner]
  rw [State.enterAxle_recorded (same ▸ fits) (same ▸ normal)]
  rfl

/-- Other than as its head, DOWN at the guard-in, or UP at a guard-out. -/
theorem Sends.crossed_rejoined {i : Nat} {x y : Slot} (inside : 1 ≤ p ∧ p ≤ 63) (ne : .guard p ≠ a)
    (own : (u.moveAxle a off (.guard p) on c dir d time).2 = .slot i) (hx : u.slot i = some x) (live : x.flags.lost = false)
    (normal : (u.sec (.guard p)).disturbance = none) (moving : ∀ e, (u.pt p).state ≠ .moving e) (returning : ∀ e, (u.pt p).state ≠ .returning e)
    (fits : AxleFits on (u.sec (.guard p)).runs (.slot i))
    (crossing : (dir = .down ∧ c = .guardIn p ∧ u.downstream x.head c = false ∧ y = x)
      ∨ (dir = .up ∧ (∃ leg, c = .guardOut p leg) ∧ y = { x with flags := { x.flags with unanchored := true } }))
    (sends : Sends ((u.moveAxle a off (.guard p) on c dir d time).1.guardNotices p true before time (u.moveAxle a off (.guard p) on c dir d time).2) t) :
    Rejoined u t i p x y := by
  obtain ⟨sections, written, moved⟩ := State.moveAxle_slot ne own fits normal
  obtain ⟨v, hv⟩ : ∃ v : State, v = { u with sections := sections } := ⟨_, rfl⟩
  have occupied : v.guardClear p = false := by
    rw [hv, ← written]
    exact State.entering_occupied _ inside on _ d time
  have held : (v.sec (.guard p)).holds i = true := by
    rw [hv, ← written]
    unfold State.axleWritten
    rw [show (u.takeAxle a off d time).2 = .slot i from own]
    refine State.entering_holds _ (by simpa [SectionId.inRange] using inside) ?_
    rwa [u.takeAxle_sec_ne off d time ne]
  rw [← hv] at moved
  have still : v.Still p := ⟨occupied, fun e => hv ▸ ⟨moving e, returning e⟩⟩
  have into : Offers u v [] := hv ▸ .of_same rfl rfl rfl rfl rfl
  have slot : v.slot i = some x := hv ▸ hx
  rw [own, moved] at sends
  rcases crossing with ⟨rfl, rfl, passed, rfl⟩ | ⟨rfl, ⟨leg, rfl⟩, rfl⟩
  · rw [State.takeCrossing_lateral slot (by rw [hv]; exact passed)] at sends
    exact Rejoined.of_reenter inside slot live (hv ▸ rfl) (hv ▸ rfl) rfl rfl rfl held still into sends
  · obtain ⟨w, hw⟩ : ∃ w, w = v.unanchor i := ⟨_, rfl⟩
    have put : w = v.setSlot i (some { x with flags := { x.flags with unanchored := true } }) := hw ▸ State.updSlot_eq slot _
    have taken : v.takeCrossing i (.guardOut p leg) .up time false
        = ((w.reenter i p).tailTest i).reevaluateAll (v.toldOf ((w.reenter i p).tailTest i) i) := by
      simp only [State.takeCrossing, slot, Bool.false_eq_true, if_false, State.sortCrossing, State.upStep, hw]
      rfl
    rw [taken] at sends
    refine Rejoined.of_reenter inside (w := w) ?_ live (by rw [put, hv]; rfl) (by rw [put, hv]; rfl) rfl rfl rfl ?_ (still.of_same ?_ ?_)
      (into.after (put ▸ v.setSlot_offers i _)) sends
    · rw [put]
      exact v.slot_setSlot_self i _ (State.slot_inside slot)
    · rw [put]
      exact held
    · rw [put]
      rfl
    · rw [put]
      rfl

/-! ### An axle into the guard, and out of it -/

theorem State.guardClear_empty {s : State} (clear : s.guardClear p = true) : (s.sec (.guard p)).runs = [] := by
  unfold State.guardClear at clear
  rw [Bool.and_eq_true] at clear
  exact List.isEmpty_iff.mp clear.2

theorem SectionId.guard_inRange (inside : 1 ≤ p ∧ p ≤ 63) : (SectionId.guard p).inRange = true := by simpa [SectionId.inRange] using inside

theorem Sends.entersGuard (inside : 1 ≤ p ∧ p ≤ 63) (guard : c.OfGuard p) (soft : ∀ x, c = .guardOut p x → dir ≠ .down)
    (source : ∀ k, a ≠ .guard k) (ina : a.inRange = true)
    (sends : Sends ((u.moveAxle a off (.guard p) on c dir d time).1.guardNotices p true (u.guardClear p) time
      (u.moveAxle a off (.guard p) on c dir d time).2) t) :
    AxleLeaves u t a off d time (u.moveAxle a off (.guard p) on c dir d time).2
      ∧ AxleEnters u t (.guard p) on d time (u.moveAxle a off (.guard p) on c dir d time).2
      ∧ GuardCrossed u t a (.guard p) p (u.moveAxle a off (.guard p) on c dir d time).2
      ∧ EntryTold u t p time (u.moveAxle a off (.guard p) on c dir d time).2 :=
  have inb := SectionId.guard_inRange inside
  ⟨State.moveAxle_leaves guard.guards (source p) ina (sends.crossed_outcome a),
    State.moveAxle_enters guard.guards (source p) inb (sends.crossed_outcome (.guard p)),
    sends.guardCrossed guard (source p) ina inb (.inr rfl) fun k other => ⟨source k, fun e => other (SectionId.guard.inj e).symm⟩,
    sends.crossed_entry inside guard soft⟩

theorem Sends.leavesGuard (inside : 1 ≤ p ∧ p ≤ 63) (guard : c.OfGuard p) (target : ∀ k, b ≠ .guard k) (inb : b.inRange = true)
    (sends : Sends ((u.moveAxle (.guard p) off b on c dir d time).1.guardNotices p false (u.guardClear p) time
      (u.moveAxle (.guard p) off b on c dir d time).2) t) :
    AxleLeaves u t (.guard p) off d time (u.moveAxle (.guard p) off b on c dir d time).2
      ∧ AxleEnters u t b on d time (u.moveAxle (.guard p) off b on c dir d time).2
      ∧ GuardCrossed u t (.guard p) b p (u.moveAxle (.guard p) off b on c dir d time).2
      ∧ (u.guardClear p = true → OccupiedTold u t p) :=
  have ina := SectionId.guard_inRange inside
  ⟨State.moveAxle_leaves guard.guards (target p).symm ina (sends.crossed_outcome (.guard p)),
    State.moveAxle_enters guard.guards (target p).symm inb (sends.crossed_outcome b),
    sends.guardCrossed guard (target p).symm ina inb (.inl rfl) fun k other => ⟨fun e => other (SectionId.guard.inj e).symm, target k⟩,
    fun clear => (clear ▸ sends).crossed_occupied inside (target p).symm (State.guardClear_empty clear)⟩

end

theorem branchSec_ne_guard (x : Branch) (k : Nat) : x.sec ≠ .guard k := by cases x <;> nofun

/-- Settles O32, from the parts above: the axle's way, the points told beside, the guard's own point, the tail test, and the re-entry. -/
theorem crossingMovesOneAxle : Obligations.CrossingMovesOneAxle := by
  unfold Obligations.CrossingMovesOneAxle
  intro frame s u d p dir time counter a b handed role low high inb ends
  have inside : 1 ≤ p ∧ p ≤ 63 := ⟨low, high⟩
  have linkInside : (SectionId.pointLink p).inRange = true := by simpa [SectionId.inRange] using inside
  obtain ⟨t, run, sends⟩ := handed.crosses role
  rcases ends with ⟨rfl, rfl, rfl⟩ | ⟨leg, branch, rfl, rfl, rfl⟩
  · have guard : (Counter.guardIn p).OfGuard p := .inl rfl
    have soft (x : Leg) : Counter.guardIn p ≠ .guardOut p x := nofun
    have link (k : Nat) : SectionId.pointLink p ≠ .guard k := nofun
    cases dir with
    | down =>
      have sends : Sends (u.crossGuard p (.guardIn p) (.pointLink p) (.guard p) true .down d time) t := sends
      rw [State.crossGuard_of_down] at sends
      obtain ⟨leaves, enters, crossed, told⟩ := sends.entersGuard inside guard (fun x out => absurd out (soft x)) link linkInside
      obtain ⟨binder, cutList, tables, mgmt, clock⟩ := crossed.yard
      refine ⟨t, _, run, ⟨leaves, enters⟩, crossed.sections, crossed.slots, binder, cutList, tables, mgmt, clock, crossed.reevaluated,
        crossed.follows, crossed.cleared, fun _ => told, fun exit => absurd rfl exit, crossed.tail, ?_⟩
      rintro i x y own hx live normal moving returning (⟨-, -, passed, fits, rfl⟩ | ⟨up, -⟩)
      · exact sends.crossed_rejoined inside (link p).symm own hx live normal moving returning (own ▸ fits) (.inl ⟨rfl, rfl, passed, rfl⟩)
      · cases up
    | up =>
      have sends : Sends (u.crossGuard p (.guardIn p) (.pointLink p) (.guard p) false .up d time) t := sends
      rw [State.crossGuard_of_up] at sends
      have exit : ¬IsGuardEntry .up (.guardIn p) := nofun
      obtain ⟨leaves, enters, crossed, told⟩ := sends.leavesGuard inside guard link linkInside
      obtain ⟨binder, cutList, tables, mgmt, clock⟩ := crossed.yard
      refine ⟨t, _, run, ⟨leaves, enters⟩, fun id above below => crossed.sections id below above, fun i other above below =>
        crossed.slots i other below above, binder, cutList, tables, mgmt, clock, crossed.reevaluated,
        crossed.follows, crossed.cleared, fun entry => absurd entry exit, fun _ clear _ => told clear, crossed.tail, ?_⟩
      rintro i x y own hx live normal moving returning (⟨down, -⟩ | ⟨-, out, -⟩)
      · cases down
      · exact absurd rfl out
  · have guard : (Counter.guardOut p leg).OfGuard p := .inr ⟨leg, rfl⟩
    cases dir with
    | down =>
      have sends : Sends (u.crossGuard p (.guardOut p leg) (.guard p) (Branch.sec branch) false .down d time) t := sends
      rw [State.crossGuard_of_down] at sends
      have exit : ¬IsGuardEntry .down (.guardOut p leg) := nofun
      obtain ⟨leaves, enters, crossed, told⟩ := sends.leavesGuard inside guard (branchSec_ne_guard branch) inb
      obtain ⟨binder, cutList, tables, mgmt, clock⟩ := crossed.yard
      refine ⟨t, _, run, ⟨leaves, enters⟩, crossed.sections, crossed.slots, binder, cutList, tables, mgmt, clock, crossed.reevaluated,
        crossed.follows, crossed.cleared, fun entry => absurd entry exit, fun _ clear _ => told clear, crossed.tail, ?_⟩
      rintro i x y own hx live normal moving returning (⟨-, in_, -⟩ | ⟨up, -⟩)
      · cases in_
      · cases up
    | up =>
      have sends : Sends (u.crossGuard p (.guardOut p leg) (.guard p) (Branch.sec branch) true .up d time) t := sends
      rw [State.crossGuard_of_up] at sends
      obtain ⟨leaves, enters, crossed, told⟩ := sends.entersGuard inside guard (fun _ _ => (nofun : Direction.up ≠ .down)) (branchSec_ne_guard branch) inb
      obtain ⟨binder, cutList, tables, mgmt, clock⟩ := crossed.yard
      refine ⟨t, _, run, ⟨leaves, enters⟩, fun id above below => crossed.sections id below above, fun i other above below =>
        crossed.slots i other below above, binder, cutList, tables, mgmt, clock, crossed.reevaluated,
        crossed.follows, crossed.cleared, fun _ => told, fun exit => absurd rfl exit, crossed.tail, ?_⟩
      rintro i x y own hx live normal moving returning (⟨down, -⟩ | ⟨-, -, fits, rfl⟩)
      · cases down
      · exact sends.crossed_rejoined inside (branchSec_ne_guard branch p).symm own hx live normal moving returning (own ▸ fits)
          (.inr ⟨rfl, ⟨leg, rfl⟩, rfl⟩)

end Sys2Proof.Machine

/-! SUPPORT. The binder at an axle of the lead, and the closing of its cut: what they leave of the slots, the claims and the points (R32 to R37, R95). -/

namespace Sys2Proof.Machine

/-! ### Steps on one slot, as other slots and the points see them -/

section
variable {i j k : Nat} {told : Nat → Prop} {s t : State}

theorem State.leaveAll_stands_ne (s : State) (other : i ≠ j) (k : Nat) : (s.leaveAll j).stands i k = s.stands i k := by
  rw [State.stands, s.claimList_leaveAll, State.stands, List.any_filter]
  refine congrArg _ (funext fun c => ?_)
  rcases eq_or_ne c.slot i with own | no
  · simp [own, other]
  · simp [no]

/-- A step on slot `j` leaves any other slot be. -/
theorem Changes.slotStays_ne {q : Nat} {hard moved : Prop} (h : Changes j q hard told s t) (other : i ≠ j) : SlotStays i moved s t where
  paths := h.ladder.pointPaths
  slot y hy held := by
    refine ⟨⟨y, (h.others i other).symm.trans hy, held, rfl, rfl, fun _ => rfl⟩, fun k => ?_⟩
    rw [← t.leaveAll_stands_ne other, State.stands, h.claims, ← State.stands, s.leaveAll_stands_ne other]

/-- A step that is hard on no point leaves each to its own moves. -/
theorem Changes.plays_any (h : ∀ q, Changes i q False told s t) (k : Nat) : Plays k False s t := by
  simpa using (h (k + 1)).plays k fun _ => not_false

/-- A slot is rewritten with the head, the times and the LOST flag that it had. -/
theorem State.setSlot_rewritten {x y : Slot} (hx : s.slot i = some x) (lost : x.flags.lost = true → y.flags.lost = true)
    (arrives : ArrivesAs (some x) (some y)) : Tends s (s.setSlot i (some y)) where
  evaluated k h := by
    refine h.of_reads (.of_tables rfl rfl) rfl (fun c _ => ?_) id (.inl rfl)
    rcases s.slot_setSlot_cases i c.slot (some y) with same | ⟨own, new⟩
    · exact .of_eq same
    · rw [new, own, hx]
      exact arrives
  relisted k := .inl rfl
  lost j h z hz := by
    rcases s.slot_setSlot_cases i j (some y) with same | ⟨own, new⟩
    · exact h z (same ▸ hz)
    · cases new.symm.trans hz
      exact lost (h x (own ▸ hx))
  offered := ⟨[], .of_same rfl rfl rfl rfl rfl rfl rfl⟩

theorem State.updSlot_rewritten (s : State) {f : Slot → Slot} (lost : ∀ x, (f x).flags.lost = x.flags.lost)
    (arrives : ∀ x, ArrivesAs (some x) (some (f x))) : Tends s (s.updSlot i f) := by
  cases hx : s.slot i with
  | none => simpa only [State.updSlot, hx] using Tends.refl s
  | some x => exact State.updSlot_eq hx f ▸ State.setSlot_rewritten hx (fun h => (lost x).trans h) (arrives x)

end

/-! ### The clearing test and the closing of the cut (R36, R37, R95) -/

section
variable (s : State) {i q : Nat} {hard moved : Prop} {told : Nat → Prop}

theorem State.tryClear_tends (i : Nat) : Tends s (s.tryClear i) := by
  unfold State.tryClear
  cases hx : s.slot i with
  | none => exact .refl s
  | some x =>
    simp only
    split
    · split
      · exact (s.clearInto_handles (q := 0) (hard := True) (told := fun k => s.stands i k = true) _ x).tends (fun _ stood => stood)
          (fun k stands => absurd ((s.clearInto_stands i _ x k).symm.trans stands) nofun) fun k stood => s.clearInto_standsEvaluated i _ x stood
      · exact .refl s
    all_goals exact .refl s

/-- A slot in use stays so, or stands nowhere any more. -/
theorem State.tryClear_used {x : Slot} (hx : s.slot i = some x) (j : Nat) :
    (∃ z, (s.tryClear j).slot i = some z) ∨ ∀ k, (s.tryClear j).stands i k = false := by
  rcases eq_or_ne i j with rfl | other
  · unfold State.tryClear
    simp only [hx]
    split
    · split
      · exact .inr (s.clearInto_stands i _ x)
      · exact .inl ⟨x, hx⟩
    all_goals exact .inl ⟨x, hx⟩
  · exact .inl ⟨x, (s.tryClear_ne other).trans hx⟩

theorem Slot.closed_routing (x : Slot) : x.closed.path = x.path ∧ x.closed.unresolved = x.unresolved ∧ x.closed.head = x.head
    ∧ x.closed.flags.lost = x.flags.lost := by
  unfold Slot.closed
  cases x.record <;> exact ⟨rfl, rfl, rfl, rfl⟩

theorem Slot.closed_arrives (x : Slot) : ArrivesAs (some x) (some x.closed) := by
  unfold Slot.closed
  cases x.record <;> exact .of_fields rfl rfl rfl rfl

theorem State.closeSlot_eq {x : Slot} (hx : s.slot i = some x) : s.closeSlot i = s.setSlot i (some x.closed)
    ∨ ∃ body, s.closeSlot i = (s.setSlot i (some x.closed)).offer body := by
  unfold State.closeSlot
  simp only [hx]
  split
  · split
    · exact .inr ⟨_, rfl⟩
    · exact .inl rfl
  · exact .inl rfl

theorem State.shut_handles : Handles i q hard told s (s.shut i) := by
  refine .trans ?_ (State.shutBinder_handles _)
  cases hx : s.slot i with
  | none => simpa [State.closeSlot, hx] using Handles.refl s
  | some x =>
    have put : Handles i q hard told s (s.setSlot i (some x.closed)) := s.setSlot_handles hx fun h => x.closed_routing.2.2.2.trans h
    rcases s.closeSlot_eq hx with e | ⟨body, e⟩ <;> rw [e]
    · exact put
    · exact put.trans (State.offer_handles _ body)

theorem State.shutBinder_tends : Tends s s.shutBinder := .of_plain rfl rfl rfl rfl rfl rfl rfl rfl rfl

theorem State.shut_tends (i : Nat) : Tends s (s.shut i) := by
  refine .trans ?_ (State.shutBinder_tends _)
  cases hx : s.slot i with
  | none => simpa [State.closeSlot, hx] using Tends.refl s
  | some x =>
    have put : Tends s (s.setSlot i (some x.closed)) := State.setSlot_rewritten hx (fun h => x.closed_routing.2.2.2.trans h) x.closed_arrives
    rcases s.closeSlot_eq hx with e | ⟨body, e⟩ <;> rw [e]
    · exact put
    · exact put.trans (State.offer_tends _ body)

theorem State.shut_slotStays : SlotStays i moved s (s.shut i) := by
  refine SlotStays.trans (t := s.closeSlot i) ?_ (.of_same rfl rfl rfl)
  cases hx : s.slot i with
  | none => simpa [State.closeSlot, hx] using SlotStays.refl s
  | some x =>
    obtain ⟨path, unresolved, head, lost⟩ := x.closed_routing
    have put : SlotStays i moved s (s.setSlot i (some x.closed)) := s.setSlot_slotStays hx (fun h => lost.symm.trans h) path unresolved fun _ => head
    rcases s.closeSlot_eq hx with e | ⟨body, e⟩ <;> rw [e]
    · exact put
    · exact put.trans (State.offer_slotStays _ body)

theorem State.shut_used {x : Slot} (hx : s.slot i = some x) (j : Nat) : ∃ z, (s.shut j).slot i = some z := by
  rcases eq_or_ne i j with rfl | other
  · exact ⟨_, State.shut_slot hx⟩
  · exact ⟨x, (State.shut_ne other).trans hx⟩

/-- A step on one slot's account: the points are tended and make moves of their own, no slot is led another way, and one in use stays so or
stands nowhere any more. -/
structure Attends (s t : State) : Prop where
  tends : Tends s t
  plays : ∀ k, Plays k False s t
  stays : ∀ i, SlotStays i False s t
  used : ∀ i x, s.slot i = some x → (∃ z, t.slot i = some z) ∨ ∀ k, t.stands i k = false
  tracks : t.tables.trackPaths = s.tables.trackPaths
  sections : t.sections = s.sections

theorem Attends.refl : Attends s s := ⟨.refl s, fun k => .refl k False s, fun _ => .refl s, fun _ x hx => .inl ⟨x, hx⟩, rfl, rfl⟩

theorem State.closeCut_attends : Attends s s.closeCut := by
  by_cases tracked : ∃ i, s.binder.state = .tracked i
  · obtain ⟨i, tracked⟩ := tracked
    have handles (q : Nat) : Handles i q False (fun _ => True) s s.closeCut := by
      rw [State.closeCut_tracked tracked]
      exact s.shut_handles.trans (State.tryClear_handles _)
    have stays : SlotStays i False s s.closeCut := by
      rw [State.closeCut_tracked tracked]
      exact s.shut_slotStays.trans (State.tryClear_slotStays _)
    refine ⟨?_, Changes.plays_any fun q => (handles q).toChanges, fun j => ?_, fun j x hx => ?_, (handles 0).ladder.trackPaths, by simp⟩
    · rw [State.closeCut_tracked tracked]
      exact (s.shut_tends i).trans (State.tryClear_tends _ i)
    · rcases eq_or_ne j i with rfl | other
      · exact stays
      · exact (handles 0).toChanges.slotStays_ne other
    · rw [State.closeCut_tracked tracked]
      obtain ⟨z, hz⟩ := s.shut_used hx i
      exact State.tryClear_used _ hz i
  · rw [State.closeCut_other fun i h => tracked ⟨i, h⟩]
    have handles (q : Nat) : Handles 0 q False (fun _ => True) s s.shutBinder := State.shutBinder_handles _
    exact ⟨s.shutBinder_tends, Changes.plays_any fun q => (handles q).toChanges, fun _ => .of_same rfl rfl rfl, fun _ x hx => .inl ⟨x, hx⟩, rfl, rfl⟩

theorem State.capClosure_attends : Attends s s.capClosure := by
  unfold State.capClosure
  split
  · split
    · exact s.closeCut_attends
    · exact .refl s
  all_goals exact .refl s

theorem State.gapAtOnce_attends : Attends s s.gapAtOnce := by
  unfold State.gapAtOnce
  split
  · exact s.closeCut_attends
  · exact .refl s

end

/-! ### The binder's decision (R32 to R35) -/

section
variable (s : State) {i q k : Nat} {hard : Prop} {told : Nat → Prop} (time : Clock)

theorem State.withBinder_changes (b : Binder) : Changes i q hard told s { s with binder := b } :=
  .of_plain (.of_tables rfl rfl) rfl rfl rfl rfl rfl (fun _ => rfl) (fun _ _ => rfl) fun _ => rfl

theorem State.giveSlot_changes (record : Option CutRecord) (n target : Nat) (mark : Bool) :
    Changes i q hard told s (s.giveSlot time i record n target mark) := by
  rw [State.giveSlot_eq]
  have given (x : Slot) : Changes i q hard told s (s.handed i x) :=
    ((s.setSlot_changes (some x)).trans (State.recompute_handles _).toChanges).trans (State.withBinder_changes _ _)
  exact (((given _).trans (State.joinPath_handles _ _).toChanges).trans (State.offer_handles _ _).toChanges).trans (State.withBinder_changes _ _)

theorem State.withPatches_changes (patches : Vector Patch 8) : Changes i q hard told s { s with tables := { s.tables with patches := patches } } :=
  .of_plain ⟨rfl, rfl, rfl, rfl, rfl, fun _ => rfl⟩ rfl rfl rfl rfl rfl (fun _ => rfl) (fun _ _ => rfl) fun _ => rfl

theorem State.bindListed_changes (r : CutRecord) (rest : List CutRecord) : Changes i q hard told s (s.bindListed time i r rest) := by
  have taken : Changes i q hard told s { s with cutList := rest } :=
    .of_plain (.of_tables rfl rfl) rfl rfl rfl rfl rfl (fun _ => rfl) (fun _ _ => rfl) fun _ => rfl
  have listed := taken.trans (State.recompute_handles _).toChanges
  obtain ⟨patches, drawn⟩ := ({ s with cutList := rest } : State).recompute.candidate_eq r
  unfold State.bindListed
  simp only [drawn]
  exact (listed.trans (State.withPatches_changes _ patches)).trans (State.giveSlot_changes _ time _ _ _ _)

/-- The binder's decision concerns the owner's slot alone. -/
theorem State.binderDown_changes (own : ∀ j, (s.binderDown time).2 = .slot j → j = i) : Changes i q hard told s (s.binderDown time).1 := by
  unfold State.binderDown at own ⊢
  cases state : s.binder.state with
  | tracked j =>
    simp only [state] at own ⊢
    obtain rfl := own j rfl
    have counted : Changes j q hard told s (s.updSlot j fun x => { x with counted := min Config.axleCap (x.counted + 1) }) :=
      Handles.toChanges (s.updSlot_handles fun _ => rfl)
    exact counted.trans (State.withBinder_changes _ _)
  | untracked => exact s.withBinder_changes _
  | closed =>
    simp only [state] at own ⊢
    cases free : s.freeSlot with
    | none => exact .trans (.trans (State.offer_handles _ _).toChanges (State.withBinder_changes _ _)) (State.withBinder_changes _ _)
    | some j =>
      simp only [free] at own
      cases list : s.cutList with
      | nil =>
        obtain rfl := own j (by rw [list])
        exact s.giveSlot_changes time _ _ _ _
      | cons r rest =>
        obtain rfl := own j (by rw [list])
        exact s.bindListed_changes time r rest

end

end Sys2Proof.Machine

/-! PROOF. An axle crosses at the lead entry counter DOWN: the binder's decision, the axle's entering, the cap, and a gap already past (O33). -/

namespace Sys2Proof.Machine

/-! ### What the binder's decision leaves of the claims, and of the slots in use -/

section
variable (s : State) {i k : Nat} (time : Clock)

theorem State.joinPath_mono (path : Path) {j : Nat} (stands : s.stands j k = true) : (s.joinPath i path).stands j k = true := by
  unfold State.joinPath
  induction path generalizing s with
  | nil => exact stands
  | cons x path ih => exact ih _ (s.joinClaim_mono _ stands)

/-- A claim list of a path joined stays, or holds the slot. -/
theorem State.joinPath_listed (path : Path) : (s.joinPath i path).claimList k = s.claimList k ∨ (s.joinPath i path).stands i k = true := by
  induction path generalizing s with
  | nil => exact .inl rfl
  | cons x path ih =>
    rcases ih (s.joinClaim x.1 i (some x.2)) with same | stands
    · by_cases own : k = x.1 ∧ s.stands i k = false ∧ ∃ y, s.slot i = some y
      · obtain ⟨rfl, absent, y, hy⟩ := own
        by_cases inside : 1 ≤ x.1 ∧ x.1 ≤ 63
        · have list := same.trans (State.joinClaim_claimList (some x.2) inside absent hy)
          exact .inr (State.stands_iff.mpr ⟨⟨i, some x.2⟩, list ▸ List.mem_append_right _ List.mem_cons_self, rfl⟩)
        · exact .inl ((readAt_outside _ _ inside).trans (readAt_outside _ _ inside).symm)
      · refine .inl (Eq.trans same ?_)
        rcases eq_or_ne k x.1 with rfl | other
        · unfold State.joinClaim
          split
          · rfl
          · rename_i absent
            split
            · rfl
            · exact absurd ⟨rfl, Bool.of_not_eq_true absent, _, ‹_›⟩ own
        · exact s.joinClaim_ne i _ other
    · exact .inr stands

/-- The slot given, its list at a point stays or holds it. -/
theorem State.giveSlot_listed (inside : 1 ≤ i ∧ i ≤ 16) (record : Option CutRecord) (n target : Nat) (mark : Bool) :
    (∃ y, (s.giveSlot time i record n target mark).slot i = some y ∧ y.flags.lost = false)
      ∧ ((s.giveSlot time i record n target mark).claimList k = s.claimList k ∨ (s.giveSlot time i record n target mark).stands i k = true)
      ∧ (s.stands i k = true → (s.giveSlot time i record n target mark).stands i k = true) := by
  obtain ⟨x, hx⟩ : ∃ x, x = s.boundSlot time record n target mark := ⟨_, rfl⟩
  have list : (s.giveSlot time i record n target mark).claimList k = ((s.handed i x).joinPath i x.path).claimList k := by
    rw [State.claimList, State.giveSlot_claims, ← hx, ← State.claimList]
  have base : (s.handed i x).claimList k = s.claimList k := by simp [State.claimList, State.handed]
  refine ⟨⟨x, ?_, hx ▸ rfl⟩, ?_, fun stood => ?_⟩
  · rw [State.slot, State.giveSlot_slots, ← State.slot, ← hx]
    exact s.slot_setSlot_self i _ inside
  · rcases (s.handed i x).joinPath_listed (i := i) (k := k) x.path with same | stands
    · exact .inl ((list.trans same).trans base)
    · exact .inr (by rwa [State.stands, list])
  · rw [State.stands, list]
    exact (s.handed i x).joinPath_mono x.path (by rwa [State.stands, base])

/-- The two ways in which the binder names a slot: its cut is open, or it is FREE and is given one. -/
theorem State.binderDown_slot (own : (s.binderDown time).2 = .slot i) :
    (s.binderDown time).1 = (s.updSlot i fun x => { x with counted := min Config.axleCap (x.counted + 1) }).restartGap time
    ∨ s.freeSlot = some i ∧ ∃ (v : State) (record : Option CutRecord) (n target : Nat) (mark : Bool),
      (s.binderDown time).1 = v.giveSlot time i record n target mark ∧ v.claims = s.claims := by
  unfold State.binderDown at own ⊢
  cases state : s.binder.state with
  | tracked j =>
    simp only [state] at own ⊢
    cases own
    exact .inl rfl
  | untracked =>
    simp only [state] at own
    cases own
  | closed =>
    simp only [state] at own ⊢
    cases free : s.freeSlot with
    | none =>
      simp only [free] at own
      cases own
    | some j =>
      simp only [free] at own
      cases list : s.cutList with
      | nil =>
        simp only [list] at own ⊢
        cases own
        exact .inr ⟨rfl, s, none, 1, s.tables.params.rejectTrack, _, rfl, rfl⟩
      | cons r rest =>
        simp only [list] at own ⊢
        cases own
        obtain ⟨patches, drawn⟩ := ({ s with cutList := rest } : State).recompute.candidate_eq r
        refine .inr ⟨rfl, _, _, _, _, _, rfl, ?_⟩
        rw [drawn]
        simp

theorem State.binderDown_unknown (own : (s.binderDown time).2 = .unknown) : (s.binderDown time).1.claims = s.claims := by
  unfold State.binderDown at own ⊢
  cases state : s.binder.state with
  | tracked j =>
    simp only [state] at own
    cases own
  | untracked => rfl
  | closed =>
    simp only [state] at own ⊢
    cases free : s.freeSlot with
    | none => simp [State.startUntracked, State.restartGap]
    | some j =>
      simp only [free] at own
      cases list : s.cutList with
      | nil => simp only [list] at own; cases own
      | cons r rest => simp only [list] at own; cases own

/-- A slot found open keeps its claims; one given a cut joins claim lists. -/
theorem State.binderDown_listed (own : (s.binderDown time).2 = .slot i) (k : Nat) :
    ((s.binderDown time).1.claimList k = s.claimList k
      ∨ ∃ y, (s.binderDown time).1.slot i = some y ∧ y.flags.lost = false ∧ (s.binderDown time).1.stands i k = true)
    ∧ (s.stands i k = true → (s.binderDown time).1.stands i k = true) := by
  rcases s.binderDown_slot time own with open_ | ⟨free, v, record, n, target, mark, given, claims⟩
  · have same : (s.binderDown time).1.claimList k = s.claimList k := by rw [open_]; simp [State.claimList, State.restartGap]
    exact ⟨.inl same, fun stood => by rwa [State.stands, same]⟩
  · have base : v.claimList k = s.claimList k := by rw [State.claimList, claims, ← State.claimList]
    obtain ⟨⟨y, hy, live⟩, listed, mono⟩ := v.giveSlot_listed (k := k) time (State.freeSlot_inside free) record n target mark
    rw [given]
    exact ⟨listed.imp base.symm.substr fun stands => ⟨y, hy, live, stands⟩, fun stood => mono (by rwa [State.stands, base])⟩

/-- Whoever the binder names, it leaves another slot be. -/
theorem State.binderDown_other {j : Nat} (other : (s.binderDown time).2 ≠ .slot j) : (s.binderDown time).1.slot j = s.slot j := by
  obtain ⟨i, own, ne⟩ : ∃ i, (∀ m, (s.binderDown time).2 = .slot m → m = i) ∧ j ≠ i := by
    cases named : (s.binderDown time).2 with
    | unknown => exact ⟨j + 1, nofun, by omega⟩
    | slot i => exact ⟨i, fun m e => (Owner.slot.inj e).symm, fun same => other (same ▸ named)⟩
  exact (s.binderDown_changes (q := 0) (hard := True) (told := fun _ => True) time own).others j ne

/-- The decision concerns the slot that it names, or any. -/
theorem State.binderDown_concerns : ∃ i, ∀ (q : Nat) (hard : Prop), Changes i q hard (fun _ => True) s (s.binderDown time).1 := by
  cases named : (s.binderDown time).2 with
  | unknown => exact ⟨0, fun q hard => s.binderDown_changes time fun j e => nomatch named.symm.trans e⟩
  | slot i => exact ⟨i, fun q hard => s.binderDown_changes time fun j e => (Owner.slot.inj (named.symm.trans e)).symm⟩

theorem State.binderDown_onset : Onset s (s.binderDown time).1 where
  offered := by
    obtain ⟨i, changes⟩ := s.binderDown_concerns time
    exact (changes 0 True).offered.imp fun _ q => q.toOffers
  slots j x hx := by
    by_cases named : (s.binderDown time).2 = .slot j
    · rcases s.binderDown_slot time named with open_ | ⟨free, -⟩
      · rw [open_]
        refine ⟨{ x with counted := min Config.axleCap (x.counted + 1) }, ?_, rfl, rfl⟩
        change (s.updSlot j fun x => { x with counted := min Config.axleCap (x.counted + 1) }).slot j = _
        rw [State.updSlot_eq hx]
        exact s.slot_setSlot_self j _ (State.slot_inside hx)
      · exact nomatch (State.freeSlot_free free).symm.trans hx
    · exact ⟨x, (s.binderDown_other time named).trans hx, rfl, rfl⟩

end

end Sys2Proof.Machine

/-! PROOF. The four crossings at the lead entry and clearance counters, each from the axle's leaving or entering to the end of the telegram (O33). -/

namespace Sys2Proof.Machine

/-! ### Counters outside the guards -/

/-- The lead entry counter, or a clearance counter (R9). -/
def Counter.Outside (c : Counter) : Prop := c = .lead ∨ ∃ k, c = .clearance k

theorem Counter.Outside.guards {c : Counter} (h : c.Outside) (q : Nat) : c.guards q := by
  rcases h with rfl | ⟨k, rfl⟩ <;> trivial

/-- A crossing taken there is hard on no point. -/
theorem Counter.Outside.tells {c : Counter} (h : c.Outside) {q : Nat} {hard : Prop} (s : State) (owner : Owner) (dir : Direction) (time : Clock)
    (discarded : Bool) : Tells q hard s (s.handOver owner c dir time discarded) := by
  refine State.handOver_tells (h.guards q) dir (fun x out => ?_) time owner discarded
  rcases h with rfl | ⟨k, rfl⟩ <;> cases out

theorem Counter.Outside.lead : Counter.lead.Outside := .inl rfl

theorem Counter.Outside.clearance (k : Nat) : (Counter.clearance k).Outside := .inr ⟨k, rfl⟩

/-- The tail follows as it did before the slot joined claim lists. -/
theorem TailFollowed.of_joined {u v t : State} {i : Nat} (h : TailFollowed v t i) (points : v.tables.pointPaths = u.tables.pointPaths)
    (tracks : v.tables.trackPaths = u.tables.trackPaths) (mono : ∀ k, u.stands i k = true → v.stands i k = true) : TailFollowed u t i := by
  intro y hy held k
  obtain ⟨remains, stays⟩ := h y hy held k
  refine ⟨fun stands => (remains stands).congr points.symm tracks.symm rfl, fun stood ⟨want, wanted⟩ r =>
    stays (mono k stood) ⟨want, ?_⟩ (r.congr points tracks rfl)⟩
  rw [← State.claimWant_eq_some] at wanted ⊢
  rw [← wanted, State.claimWant_same points rfl rfl]

/-- The owner of the crossing stood at the point before such a step: the point is told when the crossing is taken. -/
theorem Attends.told {e w : State} {c : Counter} {i k : Nat} {y : Slot} (h : Attends e w) (outside : c.Outside) (hy : e.slot i = some y)
    (stands : e.stands i k = true) (dir : Direction) (time : Clock) : StandsEvaluated (w.takeCrossing i c dir time false) k := by
  rcases h.tends.relisted k with same | evaluated
  · have stands : w.stands i k = true := by rwa [State.stands, same]
    rcases h.used i y hy with ⟨z, hz⟩ | absent
    · obtain ⟨told, -, stood, evaluated⟩ := State.takeCrossing_handles (q := 0) (hard := True) (outside.guards 0) dir (fun _ _ _ => trivial) time hz
      exact evaluated k (stood k (.inl stands))
    · exact nomatch (absent k).symm.trans stands
  · exact (outside.tells (q := 0) (hard := True) w (.slot i) dir time false).toTends.evaluated k evaluated

section
variable {u t : State} {id : SectionId} {d k : Nat} {time : Clock}

/-! ### DOWN at the lead (R46) -/

section
variable (sends : Sends (u.crossLeadDown id d time) t)
include sends

/-- From the binder's decision on, the axle enters, the cap is tested, the crossing is taken, and a gap already past closes the cut. -/
theorem Sends.leadDown_steps : ∃ (owner : Owner) (b e c x : State) (discarded : Bool), u.binderDown time = (b, owner)
    ∧ b.enterAxle id .tail owner d time = (e, discarded) ∧ c = e.capClosure ∧ x = c.handOver owner .lead .down time discarded
    ∧ Attends e c ∧ Attends x x.gapAtOnce ∧ Sends x.gapAtOnce t :=
  ⟨_, _, _, _, _, _, rfl, rfl, rfl, rfl, State.capClosure_attends _, State.gapAtOnce_attends _, sends⟩

theorem Sends.leadDown_enters (inside : id.inRange = true) : AxleEnters u t id .tail d time (u.binderDown time).2
    ∧ OtherSections u t id id := by
  obtain ⟨owner, b, e, c, x, discarded, decided, entered, rfl, rfl, cap, gap, sends⟩ := sends.leadDown_steps
  have sections : b.sections = u.sections := by
    have frame := (u.binderDown_frame time).2.2.2.2.1
    rwa [decided] at frame
  have onset := u.binderDown_onset time
  have told : Tells 0 True e.capClosure (e.capClosure.handOver owner .lead .down time discarded) :=
    Counter.Outside.lead.tells _ owner .down time discarded
  have after (k : SectionId) : Outcome e t k := (((cap.tends.outcome cap.sections k).trans (told.outcome (by simp) k)).trans
    (gap.tends.outcome gap.sections k)).trans (sends.outcome k)
  rw [decided] at onset ⊢
  refine ⟨b.enterAxle_enters inside onset (State.sec_congr sections id) (by rw [entered]; exact after id), fun k other _ => ?_⟩
  have written := b.enterAxle_sections (id := id) (side := .tail) (owner := owner) (d := d) (time := time)
  rw [entered] at written
  rw [(after k).same, State.sec_congr written, b.sec_setSec_ne _ other, State.sec_congr sections]

theorem Sends.leadDown_follows (other : ∀ j, id ≠ .guard j) (j : Nat) : PointFollows u t j := by
  obtain ⟨owner, b, e, c, x, discarded, decided, entered, rfl, rfl, cap, gap, sends⟩ := sends.leadDown_steps
  obtain ⟨i, changes⟩ := u.binderDown_concerns time
  have binder : Plays j False u b := by
    have := Changes.plays_any (fun q => changes q False) j
    rwa [decided] at this
  have enters : Plays j False (b.setSec id ((b.sec id).entering .tail owner d time)) e := by
    have := (b.enterAxle_tells id .tail owner d time (p := j + 1) (hard := True)).apart (k := j) (by omega)
    rwa [entered] at this
  have taken : Plays j False e.capClosure (e.capClosure.handOver owner .lead .down time discarded) :=
    (Counter.Outside.lead.tells (q := j + 1) (hard := True) _ owner .down time discarded).apart (by omega)
  exact (((((binder.trans (b.setSec_plays id (other j) _)).trans enters).trans (cap.plays j)).trans taken).trans
    (gap.plays j)).trans (sends.plays j) |>.pointFollows

theorem Sends.leadDown_reevaluated : PointsReevaluated u t (u.binderDown time).2 := by
  obtain ⟨owner, b, e, c, x, discarded, decided, entered, rfl, rfl, cap, gap, sends⟩ := sends.leadDown_steps
  have onset := u.binderDown_onset time
  have enters := (b.enterAxle_tells id .tail owner d time (p := 0) (hard := True)).toTends
  have taken : Tends e.capClosure (e.capClosure.handOver owner .lead .down time discarded) :=
    (Counter.Outside.lead.tells (q := 0) (hard := True) _ owner .down time discarded).toTends
  have put (v : Section) (k : Nat) : (b.setSec id v).claimList k = b.claimList k := by cases id <;> rfl
  have known (i : Nat) (own : owner = .slot i) := u.binderDown_listed time (i := i) (by rw [decided, own])
  have unknown (own : owner = .unknown) := u.binderDown_unknown time (by rw [decided, own])
  rw [decided] at onset known unknown ⊢
  rw [entered] at enters
  refine PointsReevaluated.of_tends (fun k => ?_) (fun i y hy => ?_) enters (cap.tends.trans taken) gap.tends sends.sends fun i y own hy held k stands => ?_
  · rw [put]
    cases owner with
    | unknown => exact .inl (by rw [State.claimList, unknown rfl, ← State.claimList])
    | slot i =>
      refine ((known i rfl) k).1.imp_right fun ⟨y, hy, live, stands⟩ => ⟨i, y, rfl, (b.slot_setSec id _ i).trans hy, live, ?_⟩
      rwa [State.stands, put]
  · obtain ⟨z, hz, -, lost⟩ := onset.slots i y hy
    exact ⟨z, (b.slot_setSec id _ i).trans hz, lost⟩
  · subst own
    have hy : b.slot i = some y := (b.slot_setSec id _ i).symm.trans hy
    cases discarded with
    | true =>
      have absent := State.enterAxle_discarded (id := id) (side := .tail) (d := d) (time := time) hy held (by rw [entered]) k
      rw [entered] at absent
      exact nomatch absent.symm.trans stands
    | false =>
      obtain ⟨w, hw, -⟩ := b.enterAxle_used id .tail (.slot i) d time y hy
      rw [entered] at hw
      exact cap.told Counter.Outside.lead hw stands .down time

theorem Sends.leadDown_tail (inside : id.inRange = true) {i : Nat} (own : (u.binderDown time).2 = .slot i) : TailFollowed u t i := by
  obtain ⟨owner, b, e, c, x, discarded, decided, entered, rfl, rfl, cap, gap, sends⟩ := sends.leadDown_steps
  have listed := fun k => (u.binderDown_listed time own k).2
  obtain ⟨j, changes⟩ := u.binderDown_concerns time
  have ladder := (changes 0 True).ladder
  rw [decided] at own listed ladder
  obtain rfl : owner = .slot i := own
  refine TailFollowed.of_joined (v := b) ?_ ladder.pointPaths ladder.trackPaths listed
  cases discarded with
  | true =>
    have lost := b.enterAxle_discarded_lost (id := id) (side := .tail) (d := d) (time := time) (i := i) inside (by rw [entered])
    rw [entered] at lost
    exact .of_lost ((gap.tends.lost i (cap.tends.lost i lost)).of_slots sends.sends.slots)
  | false =>
    have enters : SlotStays i True b e := by
      have := b.enterAxle_slotStays (i := i) (moved := True) id .tail (.slot i) d time
      rwa [entered] at this
    have tables : e.tables = b.tables := by
      have := (b.enterAxle_frame id .tail (.slot i) d time).2.2.2.2.1
      rwa [entered] at this
    exact .of_taken (Counter.Outside.lead.guards 0) (enters.trans (cap.stays i).weaken) (cap.tracks.trans (by rw [tables]))
      ((gap.stays i).trans sends.sends.slotStays) (sends.sends.sections.trans gap.sections)

end

/-! ### An axle that leaves a section for the outside or for a track (R47, R49) -/

section
variable {side : Side} {c : Counter} {dir : Direction} {w : State} (outside : c.Outside) (attends : Attends (u.takeAxle id side d time).1 w)
  (sends : Sends (w.handOver (u.takeAxle id side d time).2 c dir time false) t)
include outside attends sends

theorem Sends.left_outcome (k : SectionId) : Outcome (u.takeAxle id side d time).1 t k :=
  ((attends.tends.outcome attends.sections k).trans ((outside.tells (q := 0) (hard := True) w _ dir time false).outcome (by simp) k)).trans
    (sends.outcome k)

theorem Sends.left_leaves (inside : id.inRange = true) : AxleLeaves u t id side d time (u.takeAxle id side d time).2 ∧ OtherSections u t id id :=
  ⟨u.takeAxle_leaves inside (Sends.left_outcome outside attends sends id), fun k other _ =>
    (Sends.left_outcome outside attends sends k).same.trans (u.takeAxle_sec_ne side d time other)⟩

theorem Sends.left_follows (other : ∀ j, id ≠ .guard j) (j : Nat) : PointFollows u t j :=
  ((((u.takeAxle_plays id side d time (other j)).trans (attends.plays j)).trans
    ((outside.tells (q := j + 1) (hard := True) w _ dir time false).apart (by omega))).trans (sends.plays j)).pointFollows

theorem Sends.left_reevaluated : PointsReevaluated u t (u.takeAxle id side d time).2 := by
  have taken : Tends w (w.handOver (u.takeAxle id side d time).2 c dir time false) :=
    (outside.tells (q := 0) (hard := True) w _ dir time false).toTends
  refine PointsReevaluated.of_tends (fun k => .inl (u.takeAxle_claimList id side d time k)) (fun i y hy => ⟨y, ?_, rfl⟩) (.refl _)
    (attends.tends.trans taken) (.refl _) sends.sends fun i y own hy _ k stands => ?_
  · exact (u.takeAxle_slot id side d time i).trans hy
  · rw [own]
    exact attends.told outside hy stands dir time

theorem Sends.left_tail {i : Nat} (own : (u.takeAxle id side d time).2 = .slot i) : TailFollowed u t i := by
  rw [own] at sends
  exact .of_taken (outside.guards 0) ((u.takeAxle_slotStays id side d time).trans (attends.stays i).weaken)
    (attends.tracks.trans (by simp)) sends.sends.slotStays sends.sends.sections

end

end

/-- Counts alone differ between the two: the routing, the head and its times, the estimate and the flags are the same. -/
structure SameRoute (x y : Slot) : Prop where
  path : y.path = x.path
  unresolved : y.unresolved = x.unresolved
  head : y.head = x.head
  headTime : y.headTime = x.headTime
  estimate : y.estimate = x.estimate
  flags : y.flags = x.flags

/-- A slot whose counts are rewritten. -/
theorem State.updSlot_attends (s : State) (i : Nat) {f : Slot → Slot} (same : ∀ x, SameRoute x (f x)) : Attends s (s.updSlot i f) := by
  have lost (x : Slot) : (f x).flags.lost = x.flags.lost := by rw [(same x).flags]
  have handles (q : Nat) : Handles i q False (fun _ => True) s (s.updSlot i f) := s.updSlot_handles lost
  refine ⟨s.updSlot_rewritten lost fun x => .of_fields (same x).head (same x).headTime (same x).estimate (by rw [(same x).flags]),
    Changes.plays_any fun q => (handles q).toChanges, fun j => ?_, fun j x hx => .inl ?_, (handles 0).ladder.trackPaths, by simp⟩
  · rcases eq_or_ne j i with rfl | other
    · exact s.updSlot_slotStays lost (fun x => (same x).path) (fun x => (same x).unresolved) fun x => (same x).head
    · exact (handles 0).toChanges.slotStays_ne other
  · rcases eq_or_ne j i with rfl | other
    · exact ⟨_, (congrArg (State.slot · j) (State.updSlot_eq hx f)).trans (s.slot_setSlot_self j _ (State.slot_inside hx))⟩
    · exact ⟨x, ((handles 0).others j other).trans hx⟩

end Sys2Proof.Machine

/-! PROOF. An axle comes back out of a track UP at its clearance counter: the youngest slot CLEARING there, and the axle's way back (O33). -/

namespace Sys2Proof.Machine

/-! ### The owner of an axle that comes back (R50) -/

section
variable {s : State} {i j k : Nat}

/-- The slot is CLEARING into the track with a cleared axle. -/
theorem State.mem_returning : i ∈ s.returning k ↔ ∃ x, s.slot i = some x ∧ x.phase = .clearing k ∧ 1 ≤ x.cleared := by
  rw [State.returning, List.mem_filter, mem_ids]
  constructor
  · rintro ⟨-, found⟩
    cases hx : s.slot i with
    | none => simp [hx] at found
    | some x => exact ⟨x, rfl, by simpa [hx] using found⟩
  · rintro ⟨x, hx, phase, cleared⟩
    exact ⟨State.slot_inside hx, by simp [hx, phase, cleared]⟩

theorem State.younger_either (s : State) (i j : Nat) : s.younger i j = i ∨ s.younger i j = j := by
  unfold State.younger
  repeat' split
  · exact .inr rfl
  all_goals exact .inl rfl

theorem State.younger_foldl_mem (l : List Nat) (i : Nat) : l.foldl s.younger i ∈ i :: l := by
  induction l generalizing i with
  | nil => exact List.mem_singleton_self i
  | cons j l ih =>
    rcases List.mem_cons.mp (ih (s.younger i j)) with own | rest
    · rw [List.foldl_cons, own]
      rcases s.younger_either i j with e | e <;> rw [e] <;> simp
    · exact List.mem_cons_of_mem _ (List.mem_cons_of_mem _ rest)

/-- The slot that the owner is, is one of those that qualify. -/
theorem State.returningOwner_mem (own : s.returningOwner k = .slot i) : i ∈ s.returning k := by
  unfold State.returningOwner at own
  cases e : s.returning k with
  | nil => simp [e] at own
  | cons j l =>
    simp only [e, Owner.slot.injEq] at own
    exact own ▸ State.younger_foldl_mem l j

/-- No slot qualifies where the owner is UNKNOWN. -/
theorem State.returningOwner_unknown (own : s.returningOwner k = .unknown) : s.returning k = [] := by
  unfold State.returningOwner at own
  cases e : s.returning k with
  | nil => rfl
  | cons j l => simp [e] at own

/-- The slot that is younger than every other is found wherever it stands. -/
theorem State.younger_foldl_youngest {x : Slot} (hx : s.slot i = some x) (l : List Nat) (a : Nat) (m : i ∈ a :: l)
    (oldest : ∀ j ∈ a :: l, j ≠ i → ∃ y, s.slot j = some y ∧ older y.ordinal x.ordinal = true) : l.foldl s.younger a = i := by
  induction l generalizing a with
  | nil => exact (List.mem_singleton.mp m).symm
  | cons b l ih =>
    have keeps : i ∈ s.younger a b :: l := by
      rcases eq_or_ne a i with rfl | other
      · refine List.mem_cons.mpr (.inl (Eq.symm ?_))
        rcases eq_or_ne b a with rfl | no
        · exact (s.younger_either b b).elim id id
        · obtain ⟨y, hy, young⟩ := oldest b (by simp) no
          have distinct : x.ordinal ≠ y.ordinal := fun same => by
            rw [same, older_irrefl] at young
            cases young
          simp [State.younger, hx, hy, older_antisymm distinct, young]
      · rcases List.mem_cons.mp m with own | m
        · exact absurd own.symm other
        · rcases List.mem_cons.mp m with rfl | m
          · obtain ⟨y, hy, young⟩ := oldest a (by simp) other
            simp [State.younger, hx, hy, young]
          · exact List.mem_cons_of_mem _ m
    refine ih (s.younger a b) keeps fun j m no => oldest j ?_ no
    rcases List.mem_cons.mp m with rfl | m
    · rcases s.younger_either a b with e | e <;> rw [e] <;> simp
    · exact List.mem_cons_of_mem _ (List.mem_cons_of_mem _ m)

theorem State.returningOwner_youngest {x : Slot} (hx : s.slot i = some x) (phase : x.phase = .clearing k) (cleared : 1 ≤ x.cleared)
    (oldest : ∀ j y, j ≠ i → s.slot j = some y → y.phase = .clearing k → 1 ≤ y.cleared → older y.ordinal x.ordinal = true) :
    s.returningOwner k = .slot i := by
  have m : i ∈ s.returning k := State.mem_returning.mpr ⟨x, hx, phase, cleared⟩
  have others (j : Nat) (m : j ∈ s.returning k) (no : j ≠ i) : ∃ y, s.slot j = some y ∧ older y.ordinal x.ordinal = true := by
    obtain ⟨y, hy, phase, cleared⟩ := State.mem_returning.mp m
    exact ⟨y, hy, oldest j y no hy phase cleared⟩
  unfold State.returningOwner
  cases e : s.returning k with
  | nil =>
    rw [e] at m
    cases m
  | cons a l =>
    rw [e] at m others
    exact congrArg Owner.slot (State.younger_foldl_youngest hx l a m others)

end

/-! ### The axle comes back -/

/-- The slot with one cleared axle less (R50). -/
def Slot.uncleared (x : Slot) : Slot := { x with cleared := x.cleared - 1 }

/-- The owner's count taken back. -/
def State.uncount (s : State) : Owner → State
  | .unknown => s
  | .slot i => s.updSlot i Slot.uncleared

theorem State.crossClearUp_eq (s : State) (k d : Nat) (t : Clock) : s.crossClearUp k d t
    = ((s.uncount (s.returningOwner k)).enterAxle (.trackLink k) .head (s.returningOwner k) d t).1.handOver (s.returningOwner k) (.clearance k) .up t
      ((s.uncount (s.returningOwner k)).enterAxle (.trackLink k) .head (s.returningOwner k) d t).2 := by
  unfold State.crossClearUp State.uncount
  cases s.returningOwner k <;> rfl

section
variable (s : State) (owner : Owner)

theorem State.uncount_attends : Attends s (s.uncount owner) := by
  cases owner with
  | unknown => exact .refl s
  | slot i => exact s.updSlot_attends i fun _ => ⟨rfl, rfl, rfl, rfl, rfl, rfl⟩

theorem State.uncount_claims : (s.uncount owner).claims = s.claims := by cases owner <;> simp [State.uncount]

theorem State.uncount_slot {i : Nat} {x : Slot} (hx : s.slot i = some x) : (s.uncount owner).slot i
    = some (if owner = .slot i then x.uncleared else x) := by
  cases owner with
  | unknown => simpa [State.uncount] using hx
  | slot j =>
    rcases eq_or_ne i j with rfl | other
    · rw [if_pos rfl, State.uncount, State.updSlot_eq hx]
      exact s.slot_setSlot_self i _ (State.slot_inside hx)
    · rw [if_neg fun e => other (Owner.slot.inj e).symm, State.uncount, s.updSlot_ne _ other, hx]

theorem State.uncount_onset : Onset s (s.uncount owner) where
  offered := (s.uncount_attends owner).tends.offered.imp fun _ q => q.toOffers
  slots i x hx := by
    refine ⟨_, s.uncount_slot owner hx, ?_, ?_⟩ <;> split <;> rfl

end

/-- UP at a clearance counter a crossing keeps the slot's phase and its cleared axles. -/
theorem State.handOver_clearanceUp_used (s : State) (i k : Nat) (t : Clock) (discarded : Bool) :
    SlotUsed i s (s.handOver (.slot i) (.clearance k) .up t discarded) := by
  cases discarded with
  | true => exact .of_same rfl
  | false =>
    intro x hx
    have sorted : s.sortCrossing i x (.clearance k) .up t = s.setSlot i (some { x with flags := { x.flags with unanchored := true } }) :=
      State.updSlot_eq hx _
    refine ⟨{ x with flags := { x.flags with unanchored := true } }, ?_, rfl, rfl⟩
    simp only [State.handOver, State.takeCrossing, hx, Bool.false_eq_true, if_false, sorted]
    rw [(State.reevaluateAll_quiet _ _).slot, State.slot, (State.tailTest_frame _ _).2.2.2.2.2.2.2.2.1]
    exact s.slot_setSlot_self i _ (State.slot_inside hx)

section
variable {u t : State} {d k : Nat} {time : Clock} (sends : Sends (u.crossClearUp k d time) t)
include sends

/-- The count taken back, the axle enters L(t), and the crossing is taken. -/
theorem Sends.clearUp_steps : ∃ (owner : Owner) (b e : State) (discarded : Bool), u.returningOwner k = owner ∧ u.uncount owner = b
    ∧ b.enterAxle (.trackLink k) .head owner d time = (e, discarded) ∧ Sends (e.handOver owner (.clearance k) .up time discarded) t := by
  rw [State.crossClearUp_eq] at sends
  exact ⟨_, _, _, _, rfl, rfl, rfl, sends⟩

theorem Sends.clearUp_enters (inside : (SectionId.trackLink k).inRange = true) :
    AxleEnters u t (.trackLink k) .head d time (u.returningOwner k) ∧ OtherSections u t (.trackLink k) (.trackLink k) := by
  obtain ⟨owner, b, e, discarded, rfl, rfl, entered, sends⟩ := sends.clearUp_steps
  have sections := (u.uncount_attends (u.returningOwner k)).sections
  have told : Tells 0 True e (e.handOver (u.returningOwner k) (.clearance k) .up time discarded) :=
    (Counter.Outside.clearance k).tells _ _ .up time discarded
  have after (id : SectionId) : Outcome e t id := (told.outcome (by simp) id).trans (sends.outcome id)
  have written := (u.uncount (u.returningOwner k)).enterAxle_sections (id := .trackLink k) (side := .head) (owner := u.returningOwner k)
    (d := d) (time := time)
  rw [entered] at written
  refine ⟨State.enterAxle_enters _ inside (u.uncount_onset _) (State.sec_congr sections _) (by rw [entered]; exact after _), fun id other _ => ?_⟩
  rw [(after id).same, State.sec_congr written, State.sec_setSec_ne _ _ other, State.sec_congr sections]

theorem Sends.clearUp_follows (j : Nat) : PointFollows u t j := by
  obtain ⟨owner, b, e, discarded, rfl, rfl, entered, sends⟩ := sends.clearUp_steps
  have enters := (State.enterAxle_tells (u.uncount (u.returningOwner k)) (.trackLink k) .head (u.returningOwner k) d time (p := j + 1)
    (hard := True)).apart (k := j) (by omega)
  have taken : Plays j False e (e.handOver (u.returningOwner k) (.clearance k) .up time discarded) :=
    ((Counter.Outside.clearance k).tells (q := j + 1) (hard := True) _ _ .up time discarded).apart (by omega)
  rw [entered] at enters
  exact ((((((u.uncount_attends _).plays j).trans (State.setSec_plays _ (.trackLink k) nofun _)).trans enters).trans taken).trans
    (sends.plays j)).pointFollows

theorem Sends.clearUp_reevaluated : PointsReevaluated u t (u.returningOwner k) := by
  obtain ⟨owner, b, e, discarded, rfl, rfl, entered, sends⟩ := sends.clearUp_steps
  obtain ⟨w, hw⟩ : ∃ w, w = u.uncount (u.returningOwner k) := ⟨_, rfl⟩
  have onset : Onset u w := hw ▸ u.uncount_onset _
  have claims : w.claims = u.claims := hw ▸ u.uncount_claims _
  rw [← hw] at entered
  have enters := (w.enterAxle_tells (.trackLink k) .head (u.returningOwner k) d time (p := 0) (hard := True)).toTends
  have taken := ((Counter.Outside.clearance k).tells (q := 0) (hard := True) e (u.returningOwner k) .up time discarded).toTends
  rw [entered] at enters
  refine PointsReevaluated.of_tends (fun j => .inl ?_) (fun i y hy => ?_) enters taken (.refl _) sends.sends fun i y own hy held j stands => ?_
  · exact congrArg (readAt · [] j) claims
  · obtain ⟨z, hz, -, lost⟩ := onset.slots i y hy
    exact ⟨z, (w.slot_setSec _ _ i).trans hz, lost⟩
  · have hy : w.slot i = some y := (w.slot_setSec _ _ i).symm.trans hy
    rw [own] at entered ⊢
    have told := State.handOver_told (id := .trackLink k) (side := .head) (d := d) (time := time) ((Counter.Outside.clearance k).guards 0) .up hy held j
    rw [entered] at told
    exact told stands

theorem Sends.clearUp_tail (inside : (SectionId.trackLink k).inRange = true) {i : Nat} (own : u.returningOwner k = .slot i) : TailFollowed u t i := by
  obtain ⟨owner, b, e, discarded, rfl, rfl, entered, sends⟩ := sends.clearUp_steps
  have attends := u.uncount_attends (u.returningOwner k)
  rw [own] at entered sends attends
  cases discarded with
  | true =>
    have lost := State.enterAxle_discarded_lost (s := u.uncount (.slot i)) (side := .head) (d := d) (time := time) (i := i) inside (by rw [entered])
    rw [entered] at lost
    exact .of_lost (lost.of_slots sends.sends.slots)
  | false =>
    have enters := (u.uncount (.slot i)).enterAxle_slotStays (i := i) (moved := True) (.trackLink k) .head (.slot i) d time
    have tables := ((u.uncount (.slot i)).enterAxle_frame (.trackLink k) .head (.slot i) d time).2.2.2.2.1
    rw [entered] at enters tables
    exact .of_taken ((Counter.Outside.clearance k).guards 0) ((attends.stays i).weaken.trans enters)
      ((congrArg Tables.trackPaths tables).trans attends.tracks) sends.sends.slotStays sends.sends.sections

/-- The owner's slot is in use, CLEARING there with a cleared axle, and has one less in the end. -/
theorem Sends.clearUp_counted {i : Nat} {x : Slot} (own : u.returningOwner k = .slot i) (hx : u.slot i = some x) :
    x.phase = .clearing k ∧ 1 ≤ x.cleared ∧ ∃ y, t.slot i = some y ∧ y.cleared = x.cleared - 1 ∧ y.phase = x.phase := by
  obtain ⟨x', hx', phase, cleared⟩ := State.mem_returning.mp (State.returningOwner_mem own)
  obtain rfl : x' = x := Option.some.inj (hx'.symm.trans hx)
  refine ⟨phase, cleared, ?_⟩
  obtain ⟨owner, b, e, discarded, rfl, rfl, entered, sends⟩ := sends.clearUp_steps
  rw [own] at entered sends
  have put : (u.uncount (.slot i)).slot i = some x'.uncleared := (u.uncount_slot (.slot i) hx).trans (congrArg some (if_pos rfl))
  obtain ⟨z, hz, phase', cleared'⟩ := (u.uncount (.slot i)).enterAxle_used (.trackLink k) .head (.slot i) d time _ put
  rw [entered] at hz
  obtain ⟨y, hy, phase'', cleared''⟩ := e.handOver_clearanceUp_used i k time discarded z hz
  exact ⟨y, by rw [State.slot, sends.sends.slots]; exact hy, cleared''.trans cleared', phase''.trans phase'⟩

end

/-! ### UP at the lead -/

/-- The owner's counted axle taken back (R39). -/
def State.recount (s : State) : Owner → State
  | .unknown => s
  | .slot i => s.countDown i

theorem State.recount_attends (s : State) (owner : Owner) : Attends s (s.recount owner) := by
  cases owner with
  | unknown => exact .refl s
  | slot i => exact s.updSlot_attends i fun _ => ⟨rfl, rfl, rfl, rfl, rfl, rfl⟩

theorem State.crossLeadUp_eq (s : State) (lead : SectionId) (d : Nat) (t : Clock) : s.crossLeadUp lead d t
    = ((s.takeAxle lead .tail d t).1.recount (s.takeAxle lead .tail d t).2).handOver (s.takeAxle lead .tail d t).2 .lead .up t false := by
  unfold State.crossLeadUp
  cases owner : (s.takeAxle lead .tail d t).2 <;> simp only [owner] <;> rfl

/-! ### Assembly -/

/-- The owner that the binder names (R32 to R35). -/
theorem State.binderDown_owner (s : State) (t : Clock) :
    (∀ i, s.binder.state = .tracked i → (s.binderDown t).2 = .slot i) ∧ (s.binder.state = .untracked → (s.binderDown t).2 = .unknown)
      ∧ (s.binder.state = .closed → (∀ i, s.freeSlot = some i → (s.binderDown t).2 = .slot i)
        ∧ (s.freeSlot = none → (s.binderDown t).2 = .unknown)) := by
  unfold State.binderDown
  refine ⟨fun i state => by simp only [state], fun state => by simp only [state], fun state => ⟨fun i free => ?_, fun free => ?_⟩⟩
  · simp only [state, free]
    cases s.cutList <;> rfl
  · simp only [state, free]

/-- Settles O33, from the parts above, by the counter and the direction. -/
theorem leadAndClearanceCrossings : Obligations.LeadAndClearanceCrossings := by
  unfold Obligations.LeadAndClearanceCrossings
  intro frame s u d dir time handed
  refine ⟨fun p role low high => ?_, fun k role low high => ?_⟩
  · have inside : (SectionId.pointLink p).inRange = true := by simp [SectionId.inRange, low, high]
    have link (j : Nat) : SectionId.pointLink p ≠ .guard j := nofun
    obtain ⟨t, run, sends⟩ := handed.crosses role
    cases dir with
    | down =>
      have sends : Sends (u.crossLeadDown (.pointLink p) d time) t := sends
      obtain ⟨enters, others⟩ := sends.leadDown_enters inside
      refine ⟨t, _, run, ⟨enters, ?_⟩, others, sends.leadDown_reevaluated, sends.leadDown_follows link, fun i own => sends.leadDown_tail inside own⟩
      obtain ⟨tracked, untracked, closed⟩ := u.binderDown_owner time
      split
      · exact tracked _ ‹_›
      · exact untracked ‹_›
      · split
        · exact (closed ‹_›).1 _ ‹_›
        · exact (closed ‹_›).2 ‹_›
    | up =>
      have sends : Sends (u.crossLeadUp (.pointLink p) d time) t := sends
      rw [State.crossLeadUp_eq] at sends
      have attends := (u.takeAxle (.pointLink p) .tail d time).1.recount_attends (u.takeAxle (.pointLink p) .tail d time).2
      obtain ⟨leaves, others⟩ := Sends.left_leaves Counter.Outside.lead attends sends inside
      refine ⟨t, _, run, ⟨leaves, fun own => ?_⟩, others, Sends.left_reevaluated Counter.Outside.lead attends sends,
        Sends.left_follows Counter.Outside.lead attends sends link, fun i own => Sends.left_tail Counter.Outside.lead attends sends own⟩
      rw [own] at sends
      have sends : Sends (u.takeAxle (.pointLink p) .tail d time).1 t := sends
      exact ⟨sends.sends.slots.trans (u.takeAxle_slots ..), sends.sends.binder.trans (by simp), sends.sends.cutList.trans (by simp)⟩
  · have inside : (SectionId.trackLink k).inRange = true := by simp [SectionId.inRange, low, high]
    have link (j : Nat) : SectionId.trackLink k ≠ .guard j := nofun
    have outside := Counter.Outside.clearance k
    obtain ⟨t, run, sends⟩ := handed.crosses role
    cases dir with
    | down =>
      have sends : Sends ((u.takeAxle (.trackLink k) .head d time).1.handOver (u.takeAxle (.trackLink k) .head d time).2 (.clearance k) .down time
        false) t := sends
      have attends := Attends.refl (u.takeAxle (.trackLink k) .head d time).1
      obtain ⟨leaves, others⟩ := Sends.left_leaves outside attends sends inside
      refine ⟨t, _, run, ⟨leaves, fun own => ?_⟩, others, Sends.left_reevaluated outside attends sends,
        Sends.left_follows outside attends sends link, fun i own => Sends.left_tail outside attends sends own⟩
      rw [own] at sends
      have sends : Sends (u.takeAxle (.trackLink k) .head d time).1 t := sends
      exact sends.sends.slots.trans (u.takeAxle_slots ..)
    | up =>
      have sends : Sends (u.crossClearUp k d time) t := sends
      obtain ⟨enters, others⟩ := sends.clearUp_enters inside
      refine ⟨t, u.returningOwner k, run, ⟨enters, fun i x own hx => sends.clearUp_counted own hx, fun i x hx phase cleared oldest =>
        State.returningOwner_youngest hx phase cleared oldest, fun own i x hx phase => ?_, fun i own free => ?_⟩, others,
        sends.clearUp_reevaluated, sends.clearUp_follows, fun i own => sends.clearUp_tail inside own⟩
      · by_contra some_
        have m : i ∈ u.returning k := State.mem_returning.mpr ⟨x, hx, phase, Nat.one_le_iff_ne_zero.mpr some_⟩
        rw [State.returningOwner_unknown own] at m
        cases m
      · obtain ⟨x, hx, -⟩ := State.mem_returning.mp (State.returningOwner_mem own)
        exact nomatch free.symm.trans hx

end Sys2Proof.Machine
